-- ==== Sys2Proof/Word.lean ====
section
/-! DEFINITION. The character of the loop, the count line and the station port, and the plain shapes of numbered things. -/

namespace Sys2Proof

/-- One character of the loop or the count line, one byte of the station port (R25, R85, R165). -/
abbrev Byte := BitVec 8

/-- A composition: (slot, count) pairs (00_scope.md, "Compositions"). -/
abbrev Composition := List (Nat × Nat)

/-- Up to 32 flags read as one number: the ordinary attention reasons and their mask (R167, R169, R178). -/
abbrev FlagWord := BitVec 32

end Sys2Proof
end

