-- ==== Sys2Proof/Syntax.lean ====
section
/-! DEFINITION. The commands of the C214: one constructor of `Instr` per row of spec/opcode_table.json, with the operands the
row's rule names. Requests carry the fields of their body as the station processor sent them; received frames carry sender,
target and payload; events carry what names their timer. -/

namespace Sys2Proof

/-- The roles (00_scope.md, "Roles"). -/
inductive Role where
  | till | desk | safe
  deriving DecidableEq, Repr

/-- The container classes (R1). -/
inductive ContainerClass where
  | floatBag | pickupPouch | depositBag | changeStock | courierSack
  deriving DecidableEq, Repr

/-- The kinds of need (chapter 8). -/
inductive NeedKind where
  | pickup | topup | change
  deriving DecidableEq, Repr

/-- The urgency of a request (R132). -/
inductive Urgency where
  | normal | urgent
  deriving DecidableEq, Repr

/-- REFUSE reasons; `countBlocked` appears only in reads (R178). -/
inductive RefuseReason where
  | classNotAccepted | duplicateTag | inboundFull | notOffered | tooLate | declined | countBlocked
  deriving DecidableEq, Repr

/-- What an ANSWER says (R74). -/
inductive AnswerKind where
  | heldForYou | releasedToYou | notKnown
  deriving DecidableEq, Repr

/-- WITHDRAW reasons (R178). -/
inductive WithdrawReason where
  | cancelled | expired | served
  deriving DecidableEq, Repr

/-- The alarm kinds, in the alarm order (R170). -/
inductive AlarmKind where
  | duplicateStation | overdue | unresolved | totalsSaturated | positionLimit | doorHeld | doorUnexpected
  deriving DecidableEq, Repr

/-- The action of an ALARM frame (R171). -/
inductive AlarmAction where
  | raised | cleared
  deriving DecidableEq, Repr

/-- Why a count record is dropped (R86, R87). -/
inductive DropReason where
  | framing | parity | check | format | slot
  deriving DecidableEq, Repr

/-- Why a receiver discards a frame (R32). -/
inductive DiscardReason where
  | brokenOff | badStopBit | checkFailed | malformed
  deriving DecidableEq, Repr

/-- The body of a complete request: its fields, or the mark that the length byte is not the length the kind requires
(R166). -/
inductive Body (α : Type) where
  | fields (value : α)
  | wrongLength
  deriving DecidableEq, Repr

/-- The pins read at a start: ROLE straps, RATE straps and the level of the door line (R19, R175). -/
structure Pins where
  roleStraps : BitVec 2
  rateStraps : BitVec 2
  doorOpen   : Bool
  deriving DecidableEq, Repr

structure DenominationFields where
  slot : Nat
  face : Nat
  kind : Nat
  unit : Nat
  deriving DecidableEq, Repr

structure LoopFields where
  autoRejoin : Nat
  m          : Nat
  deriving DecidableEq, Repr

structure TransitFields where
  cls     : Nat
  minutes : Nat
  deriving DecidableEq, Repr

structure CountLineFields where
  baud   : Nat
  parity : Nat
  stop   : Nat
  deriving DecidableEq, Repr

structure ToleranceFields where
  absolute : Nat
  relative : Nat
  deriving DecidableEq, Repr

structure FloatFields where
  slot   : Nat
  target : Nat
  pickup : Nat
  change : Nat
  deriving DecidableEq, Repr

structure FloatStationFields where
  pickupTrigger : Nat
  topupCap      : Nat
  autoRaise     : Byte
  deriving DecidableEq, Repr

structure ServiceFields where
  requestLimit : Nat
  escalation   : Nat
  claimLimit   : Nat
  deriving DecidableEq, Repr

structure CoverFields where
  primaryLow  : Nat
  primaryHigh : Nat
  backupLow   : Nat
  backupHigh  : Nat
  delay       : Nat
  deriving DecidableEq, Repr

structure MakeUpFields where
  tag  : Nat
  cls  : Nat
  comp : Composition
  deriving DecidableEq, Repr

structure OfferFields where
  tag      : Nat
  receiver : Nat
  purpose  : Nat
  deriving DecidableEq, Repr

structure TakeFields where
  tag   : Nat
  giver : Nat
  cls   : Nat
  value : Nat
  deriving DecidableEq, Repr

structure CountOpenFields where
  mode     : Nat
  tag      : Nat
  expected : Nat
  deriving DecidableEq, Repr

structure NeedFields where
  kind    : Nat
  urgency : Nat
  comp    : Composition
  deriving DecidableEq, Repr

structure ClaimFields where
  requester : Nat
  id        : Nat
  deriving DecidableEq, Repr

/-- ADMIT; an empty composition means none given (11.4). -/
structure AdmitFields where
  tag   : Nat
  cls   : Nat
  value : Nat
  comp  : Composition
  deriving DecidableEq, Repr

structure NestFields where
  sack   : Nat
  member : Nat
  deriving DecidableEq, Repr

/-! Loop payloads (11.2). -/

structure AlarmPayload where
  kind   : AlarmKind
  action : AlarmAction
  active : Option AlarmKind
  tag    : Nat
  deriving DecidableEq, Repr

structure TakenPayload where
  tag    : Nat
  number : Nat
  value  : Nat
  deriving DecidableEq, Repr

/-- The payload of RECALL_OK, RECALL and QUERY. -/
structure TagNumber where
  tag    : Nat
  number : Nat
  deriving DecidableEq, Repr

structure RefusePayload where
  tag    : Nat
  number : Nat
  reason : RefuseReason
  deriving DecidableEq, Repr

structure AnswerPayload where
  tag       : Nat
  answer    : AnswerKind
  number    : Nat
  remaining : Nat
  value     : Nat
  deriving DecidableEq, Repr

structure OfferPayload where
  role      : Role
  number    : Nat
  tag       : Nat
  cls       : ContainerClass
  value     : Nat
  counted   : Option Nat
  origin    : Nat
  purpose   : Nat
  remaining : Nat
  comp      : Option Composition
  deriving DecidableEq, Repr

structure ClaimPayload where
  id   : Nat
  kind : NeedKind
  role : Role
  deriving DecidableEq, Repr

structure AwardPayload where
  id       : Nat
  claimant : Nat
  kind     : NeedKind
  urgency  : Urgency
  value    : Nat
  comp     : Composition
  deriving DecidableEq, Repr

structure NeedPayload where
  id       : Nat
  kind     : NeedKind
  urgency  : Urgency
  reopened : Bool
  value    : Nat
  comp     : Composition
  deriving DecidableEq, Repr

structure WithdrawPayload where
  id     : Nat
  kind   : NeedKind
  reason : WithdrawReason
  deriving DecidableEq, Repr

structure AnnouncePayload where
  serial : BitVec 32
  role   : Role
  m      : Nat
  deriving DecidableEq, Repr

structure ConflictPayload where
  serial   : BitVec 32
  answered : BitVec 32
  deriving DecidableEq, Repr

/-- The flag byte of a BEACON, bits 0 to 5 (11.2). -/
structure BeaconFlags where
  pickupNeed  : Bool
  topupNeed   : Bool
  changeNeed  : Bool
  windowOpen  : Bool
  alarmActive : Bool
  countBusy   : Bool
  deriving DecidableEq, Repr

/-- A BEACON (R57); `stationCode` is the station state code it carries. -/
structure BeaconPayload where
  role         : Role
  stationCode  : Nat
  m            : Nat
  flags        : BeaconFlags
  custodyCount : Nat
  outbound     : Nat
  openRequests : Nat
  deriving DecidableEq, Repr

/-- The fifteen frame kinds with their payloads, in the order of the catalogue of R27. -/
inductive Payload where
  | alarm    (p : AlarmPayload)
  | taken    (p : TakenPayload)
  | recallOk (p : TagNumber)
  | refuse   (p : RefusePayload)
  | answer   (p : AnswerPayload)
  | offer    (p : OfferPayload)
  | recall   (p : TagNumber)
  | query    (p : TagNumber)
  | claim    (p : ClaimPayload)
  | award    (p : AwardPayload)
  | need     (p : NeedPayload)
  | withdraw (p : WithdrawPayload)
  | announce (p : AnnouncePayload)
  | conflict (p : ConflictPayload)
  | beacon   (p : BeaconPayload)
  deriving DecidableEq, Repr

/-- A loop frame: sender, target, payload (R26). -/
structure Frame where
  sender  : Nat
  target  : Nat
  payload : Payload
  deriving DecidableEq, Repr

/-- The commands, in the order of spec/opcode_table.json. -/
inductive Instr where
  | powerUp (pins : Pins)
  | coldStart (pins : Pins)
  | warmStart (pins : Pins)
  /-- The RESET pin has been held low for this many microseconds (R177). -/
  | resetPinLow (microseconds : Nat)
  | selectRelease (pins : Pins)
  | unknownKindRequest (kind : Nat)
  | start (body : Body Unit)
  | stop (body : Body Unit)
  | rejoin (body : Body Unit)
  | reset (body : Body Unit)
  | erase (body : Body Unit)
  | setStation (body : Body Nat)
  | setDenomination (body : Body DenominationFields)
  | setLoop (body : Body LoopFields)
  | setTransit (body : Body TransitFields)
  /-- `midRecord`: a record is being assembled on the count line when the request is answered, whether or not State has been told
  of its characters (R85). -/
  | setCountLine (body : Body CountLineFields) (midRecord : Bool)
  | setCount (body : Body Nat)
  | setTolerance (body : Body ToleranceFields)
  | setFloat (body : Body FloatFields)
  | setFloatStation (body : Body FloatStationFields)
  | setService (body : Body ServiceFields)
  | setCover (body : Body CoverFields)
  | setSack (body : Body Nat)
  | setDoor (body : Body Nat)
  | setAttentionMask (body : Body FlagWord)
  | makeUp (body : Body MakeUpFields)
  | dismantle (body : Body Nat)
  | acceptVariance (body : Body Nat)
  | dayClose (body : Body Unit)
  | offer (body : Body OfferFields)
  | take (body : Body TakeFields)
  | takeResolve (body : Body Nat)
  | recall (body : Body Nat)
  | query (body : Body Nat)
  | decline (body : Body Nat)
  | countOpen (body : Body CountOpenFields)
  | countClose (body : Body Unit)
  | countAbort (body : Body Unit)
  | raiseNeed (body : Body NeedFields)
  | cancelNeed (body : Body Nat)
  | claimNext (body : Body Unit)
  | claim (body : Body ClaimFields)
  | windowOpen (body : Body Nat)
  | windowClose (body : Body Unit)
  | admitStock (body : Body AdmitFields)
  | sackOpen (body : Body Nat)
  | nest (body : Body NestFields)
  | unnest (body : Body Nat)
  | sackClose (body : Body Nat)
  | sackReopen (body : Body Nat)
  | sackAbandon (body : Body Nat)
  | dispatch (body : Body Nat)
  | alarmClear (body : Body Nat)
  | doorAllow (body : Body Nat)
  | readAttention (body : Body Unit)
  | attentionReadCleared
  | readStation (body : Body Unit)
  | readLoop (body : Body Unit)
  | readPeers (body : Body Nat)
  | readCustody (body : Body Nat)
  | readContainer (body : Body Nat)
  | readInbound (body : Body Nat)
  | readReleases (body : Body Nat)
  | readTotals (body : Body Unit)
  | readDayTotals (body : Body Unit)
  | readCount (body : Body Unit)
  | readPosition (body : Body Unit)
  | readRequests (body : Body Nat)
  | readService (body : Body Nat)
  | readWindow (body : Body Unit)
  | readSack (body : Body Nat)
  | readDispatches (body : Body Nat)
  | frameSendStart
  | announceLostSerial (winner : BitVec 32)
  | readBackFault
  | frameSent (acknowledged : Bool)
  | offerReport (acknowledged : Bool)
  | takenReport (acknowledged : Bool)
  | queryReport (acknowledged : Bool)
  | claimReport (acknowledged : Bool)
  | announceCompleted
  | frameDiscarded (reason : DiscardReason)
  | intactFrameHeard (frame : Frame)
  | alarmReceived (sender target : Nat) (payload : AlarmPayload)
  | takenReceived (sender target : Nat) (payload : TakenPayload)
  | recallOkReceived (sender target : Nat) (payload : TagNumber)
  | refuseReceived (sender target : Nat) (payload : RefusePayload)
  | answerReceived (sender target : Nat) (payload : AnswerPayload)
  | offerReceived (sender target : Nat) (payload : OfferPayload)
  | recallReceived (sender target : Nat) (payload : TagNumber)
  | queryReceived (sender target : Nat) (payload : TagNumber)
  | claimReceived (sender target : Nat) (payload : ClaimPayload)
  | awardReceived (sender target : Nat) (payload : AwardPayload)
  | needReceived (sender target : Nat) (payload : NeedPayload)
  | withdrawReceived (sender target : Nat) (payload : WithdrawPayload)
  | announceReceived (sender target : Nat) (payload : AnnouncePayload)
  | conflictReceived (sender target : Nat) (payload : ConflictPayload)
  | beaconReceived (sender target : Nat) (payload : BeaconPayload)
  | listeningPeriodEnd
  | announceWaitEnd
  | beaconTimer
  | autoRejoin
  | peerQuiet (station : Nat)
  | peerGone (station : Nat)
  | transitDeadline (tag : Nat)
  | inboundLapse (tag : Nat)
  | recallTimeout (tag : Nat)
  | queryWaitEnd (tag : Nat)
  | refusalWindowEnd (tag : Nat)
  | countRecord (slot : Nat) (suspect : Bool) (count : Nat)
  | endRecord (total : Nat)
  | haltRecord
  | droppedRecord (reason : DropReason)
  | recordAbandoned
  | batchIdleEnd
  | noRecordTimeout
  | requestExpiry (id : Nat)
  | escalation (id : Nat)
  | claimLapse (id : Nat)
  | backupEligible (requester id : Nat)
  | windowExpiry
  | doorOpeningEdge
  | doorClosing
  | doorAllowanceEnd
  | doorHeld
  | lampStep
  /-- The main supply is lost; the backup supply holds the retained memory, or it does not (R19, R20). -/
  | mainSupplyLoss (backupHeld : Bool)
  | countLineResynchronisation
  deriving DecidableEq, Repr

end Sys2Proof
end

