-- ==== Sys2Proof/Config.lean ====
section
/-! DEFINITION. What the part fixes for good: the capacities of its collections, its numeric bounds and its time base. One
value is free: the bytes of a response too long for its length byte. -/

namespace Sys2Proof.Config

/-- Denomination slots 0 to 11 (00_scope.md, "Denominations"). -/
abbrev slotCount : Nat := 12
/-- Station numbers 1 to 56 (00_scope.md, "Stations and targets"). -/
abbrev maxStation : Nat := 56
/-- Custody Table capacity (R7). -/
abbrev custodyCap : Nat := 48
/-- Inbound List capacity (R9). -/
abbrev inboundCap : Nat := 16
/-- Release History length (R10). -/
abbrev releaseCap : Nat := 16
/-- Dispatch History length (R162). -/
abbrev dispatchCap : Nat := 8
/-- Transmit Queue capacity (R37). -/
abbrev queueCap : Nat := 12
/-- Places of the Transmit Queue that port frames may hold (R37). -/
abbrev portCap : Nat := 8
/-- Count FIFO capacity (R88). -/
abbrev fifoCap : Nat := 32
/-- Own Requests capacity (R132). -/
abbrev requestCap : Nat := 4
/-- Service List capacity (R142). -/
abbrev serviceCap : Nat := 16
/-- Entries in WON and CLAIMING together (R142, R145). -/
abbrev commitmentCap : Nat := 4
/-- Members of a sack (R153). -/
abbrev sackCap : Nat := 24
/-- The largest piece count of a slot or a tally (R102, R115). -/
abbrev countMax : Nat := 65535
/-- The largest container value, 2^40 - 1 (00_scope.md, "Money"). -/
abbrev valueMax : Nat := 1099511627775
/-- The bound of a station total, 2^47 - 1 (R14). -/
abbrev totalMax : Int := 140737488355327
/-- Timer steps of 10 ms in a second (00_scope.md, "Times"). -/
abbrev second : Nat := 100
/-- Timer steps in a minute. -/
abbrev minute : Nat := 6000
/-- The listening period of 8.5 s (R49). -/
abbrev listening : Nat := 850
/-- The announce wait of 1 s (R51). -/
abbrev announceWait : Nat := 100
/-- Auto-rejoin after 5 s (R43). -/
abbrev rejoinDelay : Nat := 500
/-- The refusal window of 5 s (R66). -/
abbrev refusalWindow : Nat := 500
/-- The query wait of 2 s (R73). -/
abbrev queryWait : Nat := 200
/-- The recall timer of 60 s (R77). -/
abbrev recallLimit : Nat := 6000
/-- The no-record timer of 60 s (R96). -/
abbrev noRecordLimit : Nat := 6000
/-- The 60 min added to every lapse time (R69). -/
abbrev lapseMargin : Nat := 360000
/-- The greatest fault score (R41). -/
abbrev faultMax : Nat := 31
/-- The fault score at which the station withdraws (R42). -/
abbrev withdrawAt : Nat := 24
/-- The greatest silence time, 655.35 s in steps of 10 ms (R58). -/
abbrev silenceMax : Nat := 65535
/-- Milliseconds of one lamp step (R174). -/
abbrev lampStepMs : Nat := 125
/-- The longest response body (R165, R180). -/
abbrev bodyMax : Nat := 255
/-- The longest payload of a loop frame (R26, R27). -/
abbrev payloadMax : Nat := 64
/-- Bit times in one and a half character times (R25, R32). -/
abbrev frameGap : Nat := 15

/-- What follows the status byte of a response whose body is longer than a length byte can say: a free value, nothing is known of
it. R165 gives the length byte 0 to 255, and READ_POSITION and READ_COUNT can hold more (DESIGN CHOICE, log 9; safe). -/
opaque longResponse : List (BitVec 8) → List (BitVec 8)

end Sys2Proof.Config
end

