-- ==== Sys2Proof/Machine/State.lean ====
section
/-! DEFINITION. The state of the part, block by block as 00_scope.md lays the blocks out, and the state after a cold start.
Times are in timer steps of 10 ms (00_scope.md, "Times"); an absolute time is a value of `clock`. -/

namespace Sys2Proof.Machine

/-- No rule of the spec stops the part, so the machine has no fault. -/
inductive Fault where
  deriving DecidableEq, Repr

/-- The one refusal: exec's arm for a command that has no meaning yet. Safe: the machine stops instead of acting. -/
inductive Refusal where
  /-- Raised by exec alone, for a command of the table without a meaning; safe. -/
  | notModelled (mnemonic : String)
  deriving DecidableEq, Repr

/-! ### Unit and starts -/

/-- Supply and RESET pin: off, held in reset, running (R19, R177). -/
inductive Power where
  | off | inReset | running
  deriving DecidableEq, Repr

/-- The two kinds of start (R19). -/
inductive StartKind where
  | warm | cold
  deriving DecidableEq, Repr

/-- What identifies the part and its starts: retention marker, unit serial, role and rate taken at the last start, role
recorded at the last cold start; `none` is an invalid role (R19, R23, R24, R51). -/
structure UnitState where
  power        : Power
  marker       : Bool
  serial       : BitVec 32
  role         : Option Role
  recordedRole : Option Role
  rate         : BitVec 2
  deriving DecidableEq, Repr

/-! ### Settings -/

inductive SlotKind where
  | note | coin
  deriving DecidableEq, Repr

/-- A denomination slot; face value 0 marks it not in use (R47). -/
structure Denomination where
  face : Nat
  kind : SlotKind
  unit : Nat
  deriving DecidableEq, Repr

/-- The float settings of a slot (R120). -/
structure FloatSlot where
  target : Nat
  pickup : Nat
  change : Nat
  deriving DecidableEq, Repr

/-- Transit limits in minutes (R63). -/
structure TransitLimits where
  floatBag    : Nat
  pickupPouch : Nat
  depositBag  : Nat
  changeStock : Nat
  deriving DecidableEq, Repr

/-- The count line format (R85). -/
structure CountLine where
  baud   : Nat
  parity : Nat
  stop   : Nat
  deriving DecidableEq, Repr

/-- The cover ranges and the backup delay in seconds (R137). -/
structure Cover where
  primaryLow  : Nat
  primaryHigh : Nat
  backupLow   : Nat
  backupHigh  : Nat
  delay       : Nat
  deriving DecidableEq, Repr

/-- The configuration: every setting but the attention mask (R45). -/
structure Settings where
  number        : Option Nat
  denoms        : Vector Denomination 12
  autoRejoin    : Bool
  beaconM       : Nat
  transit       : TransitLimits
  countLine     : CountLine
  threshold     : Nat
  tolAbs        : Nat
  tolRel        : Nat
  floats        : Vector FloatSlot 12
  pickupTrigger : Nat
  topupCap      : Nat
  autoPickup    : Bool
  autoTopup     : Bool
  autoChange    : Bool
  requestLimit  : Nat
  escalation    : Nat
  claimLimit    : Nat
  cover         : Cover
  uncounted     : Bool
  holdLimit     : Nat
  deriving DecidableEq, Repr

/-! ### Custody unit -/

/-- The seven container states (R6). -/
inductive ContainerState where
  | held | counting | offering | outbound | recalling | overdue | nested
  deriving DecidableEq, Repr

/-- Variance classes (R108). -/
inductive VarianceClass where
  | exact | within | over | short
  deriving DecidableEq, Repr

/-- The last handover result of a container (R4). -/
inductive LastResult where
  | none
  | taken
  | refused (reason : RefuseReason)
  | noAnswer
  | recalled
  | declined
  deriving DecidableEq, Repr

/-- The counted group (R3); `comp` is absent for a group that arrived by handover. -/
structure CountedGroup where
  value    : Nat
  comp     : Option Composition
  suspect  : Nat
  variance : Int
  cls      : VarianceClass
  deriving DecidableEq, Repr

/-- Handover fields (R5); `deadline` is a clock value. -/
structure HandoverFields where
  peer     : Nat
  number   : Nat
  deadline : Nat
  purpose  : Nat
  deriving DecidableEq, Repr

/-- A deferred offer (R5, R83). -/
structure DeferredOffer where
  peer    : Nat
  purpose : Nat
  deriving DecidableEq, Repr

/-- Nesting fields (R5). -/
structure NestingFields where
  parent : Nat
  next   : Option Nat
  deriving DecidableEq, Repr

inductive SackState where
  | assembling | closed
  deriving DecidableEq, Repr

/-- Sack fields (R5). -/
structure SackFields where
  state : SackState
  first : Option Nat
  count : Nat
  check : Option Nat
  deriving DecidableEq, Repr

/-- The refusal window of an unacknowledged offer (R66); `closes` is a clock value. -/
structure RefusalWindow where
  receiver : Nat
  number   : Nat
  closes   : Nat
  deriving DecidableEq, Repr

/-- A container record (R2 to R5), with the refusal window and recall timer the handover engine runs on it (R66, R77) and
the OVERDUE alarm held for it (R82, R170). -/
structure Container where
  tag          : Nat
  cls          : ContainerClass
  state        : ContainerState
  origin       : Nat
  value        : Nat
  disputed     : Bool
  handovers    : Nat
  lastResult   : LastResult
  comp         : Option Composition
  counted      : Option CountedGroup
  handover     : Option HandoverFields
  deferred     : Option DeferredOffer
  nesting      : Option NestingFields
  sack         : Option SackFields
  refusal      : Option RefusalWindow
  recallEnds   : Option Nat
  overdueAlarm : Bool
  deriving DecidableEq, Repr

/-- The states of an Inbound List entry (R9). -/
inductive InboundState where
  | expected | taking | unsure | unresolved
  deriving DecidableEq, Repr

/-- An Inbound List entry (R9, R67, R73); `queryWaitEnds` runs after an acknowledged QUERY. -/
structure InboundEntry where
  giver         : Nat
  number        : Nat
  tag           : Nat
  cls           : ContainerClass
  value         : Nat
  comp          : Option Composition
  counted       : Option Nat
  purpose       : Nat
  origin        : Nat
  lapse         : Nat
  state         : InboundState
  queryPending  : Bool
  queryWaitEnds : Option Nat
  deriving DecidableEq, Repr

/-- A Release History entry (R10). -/
structure ReleaseEntry where
  tag      : Nat
  receiver : Nat
  number   : Nat
  value    : Nat
  deriving DecidableEq, Repr

/-- The eight station totals (R14). -/
structure Totals where
  opening    : Int
  intake     : Int
  payout     : Int
  received   : Int
  released   : Int
  admitted   : Int
  dispatched : Int
  difference : Int
  deriving DecidableEq, Repr

/-- The Day Totals record (R17). -/
structure DayTotals where
  day         : Nat
  totals      : Totals
  accountable : Int
  saturated   : Bool
  deriving DecidableEq, Repr

/-- The custody unit's records (chapter 1). -/
structure CustodyUnit where
  table     : List Container
  inbound   : List InboundEntry
  releases  : List ReleaseEntry
  totals    : Totals
  saturated : Bool
  day       : DayTotals
  deriving DecidableEq, Repr

/-! ### Loop interface -/

/-- A frame of the Transmit Queue: `port` for a port frame, `onLine` while it is being sent (R37). -/
structure QueuedFrame where
  target  : Nat
  payload : Payload
  port    : Bool
  onLine  : Bool
  deriving DecidableEq, Repr

/-- The loop interface (chapter 2). -/
structure LoopInterface where
  queue         : List QueuedFrame
  beaconReady   : Bool
  announceReady : Bool
  conflictReady : Option (BitVec 32)
  sending       : Option Frame
  faultScore    : Nat
  slotDriven    : Bool
  deriving DecidableEq, Repr

/-! ### Membership unit -/

/-- The station states (chapter 3). -/
inductive StationState where
  | unconfigured | stopped | listening | announcing | onLoop | duplicate | withdrawn
  deriving DecidableEq, Repr

inductive DuplicateCause where
  | heardWhileListening | lostSerial | conflictReceived | heardWhileAnnouncing
  deriving DecidableEq, Repr

/-- The duplicate record (R54). -/
structure DuplicateRecord where
  cause  : DuplicateCause
  time   : Nat
  serial : Option (BitVec 32)
  deriving DecidableEq, Repr

inductive PeerState where
  | unknown | live | quiet | gone
  deriving DecidableEq, Repr

/-- The flags and counts of a peer's last BEACON (R58). -/
structure PeerSummary where
  flags        : BeaconFlags
  custodyCount : Nat
  outbound     : Nat
  openRequests : Nat
  deriving DecidableEq, Repr

/-- A Peer Table entry (R58). -/
structure PeerEntry where
  state   : PeerState
  role    : Option Role
  m       : Option Nat
  summary : Option PeerSummary
  serial  : Option (BitVec 32)
  alarm   : Option AlarmKind
  silence : Nat
  deriving DecidableEq, Repr

/-- The membership unit: station state, multiplier in force, join and beacon timers, duplicate record, Peer Table.
Place n-1 of `peers` is station n; the station's own place stays UNKNOWN (R58). -/
structure Membership where
  state            : StationState
  mInForce         : Nat
  listeningEnds    : Option Nat
  announceWaitEnds : Option Nat
  beaconDue        : Option Nat
  withdrawnAt      : Option Nat
  duplicate        : Option DuplicateRecord
  peers            : Vector PeerEntry 56
  deriving DecidableEq, Repr

/-! ### Count engine and tally unit -/

inductive CountState where
  | idle | opened | running | paused | closed
  deriving DecidableEq, Repr

inductive CountMode where
  | intake | payout | recount | unpack
  deriving DecidableEq, Repr

/-- Damage reasons in the bit order of R178. -/
inductive DamageReason where
  | framing | parity | check | format | slot | overflow | halted | tallyLimit | headMismatch
  deriving DecidableEq, Repr

/-- A set of damage reasons: a 2-byte set (R178). -/
abbrev DamageSet := BitVec 16

inductive EndCause where
  | endRecord | idle | halt | abort
  deriving DecidableEq, Repr

inductive AbortReason where
  | request | noRecords
  deriving DecidableEq, Repr

inductive CountOutcome where
  | opened | completed | damaged
  | aborted (reason : AbortReason)
  deriving DecidableEq, Repr

/-- An intact COUNT record in the Count FIFO (R88). -/
structure CountEntry where
  slot    : Nat
  suspect : Bool
  count   : Nat
  deriving DecidableEq, Repr

/-- What COUNT_OPEN stored: mode, target tag (0 for none), expected pieces (R91). -/
structure CountJob where
  mode     : CountMode
  tag      : Nat
  expected : Option Nat
  deriving DecidableEq, Repr

/-- The running figures of the batch in progress (R92); `progressed` marks that COUNT_PROGRESS has been raised for it. -/
structure BatchFigures where
  taken      : Nat
  dropped    : Nat
  lost       : Nat
  good       : Nat
  damage     : DamageSet
  progressed : Bool
  deriving DecidableEq, Repr

/-- The batch part of a Count Result (R100). -/
structure BatchPart where
  cause      : EndCause
  incomplete : Bool
  damage     : DamageSet
  taken      : Nat
  dropped    : Nat
  lost       : Nat
  endFigure  : Option Nat
  deriving DecidableEq, Repr

/-- A strap figure (R106). -/
structure StrapFigure where
  slot   : Nat
  straps : Nat
  loose  : Nat
  deriving DecidableEq, Repr

/-- The tally part of a Count Result (R110). `good` and `suspect` are per slot. -/
structure TallyPart where
  good         : List Nat
  suspect      : List Nat
  piecesGood   : Nat
  piecesSusp   : Nat
  countedValue : Nat
  suspectValue : Nat
  mismatch     : Option Bool
  straps       : List StrapFigure
  deriving DecidableEq, Repr

/-- The reconciliation part of a Count Result (R110). -/
structure ReconciliationPart where
  declared      : Nat
  variance      : Int
  tolerance     : Nat
  cls           : VarianceClass
  mismatchSlots : Option (List Nat)
  deriving DecidableEq, Repr

/-- The position part of a Count Result (R119): clamped pieces per slot and the value sent to the difference total. -/
structure PositionPart where
  clamped : List (Nat × Nat)
  value   : Int
  deriving DecidableEq, Repr

/-- The Count Result (R100). -/
structure CountResult where
  mode        : CountMode
  tag         : Nat
  batchNumber : Nat
  outcome     : CountOutcome
  batch       : Option BatchPart
  tally       : Option TallyPart
  recon       : Option ReconciliationPart
  position    : Option PositionPart
  deriving DecidableEq, Repr

/-- The count engine (chapter 5). `assembled` holds the characters of the record being assembled, none when none is, and
`discarding` says that the receiver waits for an idle gap (R86). -/
structure CountEngine where
  state       : CountState
  job         : Option CountJob
  batchNumber : Nat
  batch       : BatchFigures
  fifo        : List CountEntry
  noRecordEnds : Option Nat
  stray       : Nat
  result      : Option CountResult
  assembled   : List Byte
  discarding  : Bool
  deriving DecidableEq, Repr

/-! ### Position unit -/

/-- The Float State (R122). -/
structure FloatState where
  pickup      : Composition
  pickupValue : Nat
  uncapped    : Composition
  uncappedValue : Nat
  topup       : Composition
  topupValue  : Nat
  low         : List Nat
  urgent      : Bool
  pickupNeed  : Bool
  topupNeed   : Bool
  changeNeed  : Bool
  capped      : Bool
  deriving DecidableEq, Repr

/-- The position unit (chapter 7). -/
structure PositionUnit where
  counts : Vector Nat 12
  float  : FloatState
  deriving DecidableEq, Repr

/-! ### Service unit -/

/-- The state of an Own Request with the fields present in it: claimant, claim age, linked tag (R132). -/
inductive RequestPhase where
  | opened
  | claimed (claimant age : Nat)
  | serving (claimant age tag : Nat)
  deriving DecidableEq, Repr

/-- An Own Request (R132). -/
structure OwnRequest where
  id       : Nat
  kind     : NeedKind
  comp     : Composition
  value    : Nat
  urgency  : Urgency
  phase    : RequestPhase
  reopened : Bool
  raisedAt : Nat
  openAge  : Nat
  deriving DecidableEq, Repr

inductive ServiceState where
  | listed | claiming | won
  deriving DecidableEq, Repr

/-- A Service List entry (R142). `listedRaised` marks that SERVICE_LISTED has been raised for its present stay in LISTED. -/
structure ServiceEntry where
  requester    : Nat
  id           : Nat
  kind         : NeedKind
  urgency      : Urgency
  value        : Nat
  comp         : Composition
  reopened     : Bool
  heard        : Nat
  state        : ServiceState
  listedRaised : Bool
  deriving DecidableEq, Repr

/-- The service unit (chapter 8). `list` is kept in the order of insertion, which is the order of heard times; the list
order of R142 is `serviceOrder`. -/
structure ServiceUnit where
  requests : List OwnRequest
  nextId   : Nat
  list     : List ServiceEntry
  deriving DecidableEq, Repr

/-! ### Safe unit -/

/-- The times of an OPEN courier window (R149). -/
structure CourierWindow where
  opened : Nat
  ends   : Nat
  deriving DecidableEq, Repr

/-- A Dispatch History record (R162). -/
structure DispatchRecord where
  tag    : Nat
  value  : Nat
  count  : Nat
  check  : Nat
  window : Nat
  deriving DecidableEq, Repr

/-- The safe unit (chapter 9); `window` is `none` while CLOSED. -/
structure SafeUnit where
  window       : Option CourierWindow
  windowNumber : Nat
  dispatches   : List DispatchRecord
  deriving DecidableEq, Repr

/-! ### Attention, door, lamps, port -/

/-- The ordinary attention reasons, in the order of R167, which numbers their bits (R178). -/
inductive Reason where
  | handoverResult | offerArrived | inboundLapsed | queryUnanswered | recallUnanswered
  | countDone | countDamaged | countProgress | variance | topupCapped
  | needRaised | requestExpired | requestServed | claimAwarded | claimLapsed | claimWon | claimLost | serviceListed
  | serviceListFull
  | windowClosed | dispatched
  | loopFrameDropped | loopWithdrawn | peerChange | peerAlarm
  deriving DecidableEq, Repr

inductive Side where
  | giver | receiver
  deriving DecidableEq, Repr

/-- The outcomes of the handover note (R167). -/
inductive NoteOutcome where
  | taken (late : Bool)
  | outbound
  | refused (reason : RefuseReason)
  | noAnswer
  | recalled
  | declined
  deriving DecidableEq, Repr

/-- The handover note (R167). -/
structure HandoverNote where
  tag     : Nat
  side    : Side
  outcome : NoteOutcome
  deriving DecidableEq, Repr

/-- Attention reasons, what the last READ_ATTENTION will clear, mask, handover note and event alarms (R167 to R170). -/
structure Attention where
  reasons        : FlagWord
  returned       : FlagWord
  mask           : FlagWord
  note           : Option HandoverNote
  duplicate      : Bool
  positionLimit  : Bool
  doorHeld       : Bool
  doorUnexpected : Bool
  deriving DecidableEq, Repr

/-- The door monitor (R175, R176). -/
structure DoorMonitor where
  isOpen        : Bool
  openSince     : Option Nat
  heldRaised    : Bool
  allowanceEnds : Option Nat
  deriving DecidableEq, Repr

/-- The lamp cycle and the lamp outputs (R174). -/
structure Lamps where
  step    : Nat
  ms      : Nat
  service : Bool
  alarm   : Bool
  deriving DecidableEq, Repr

/-- Response statuses, in the order of R166. -/
inductive Status where
  | ok | started | busy | badLength | badKind | badState | notFound | tableFull | insufficient | duplicateTag | peerAbsent
  | classNotAllowed | roleNotAllowed | roleInvalid | disputed | loopQueueFull | windowClosed | sackFull | limit
  deriving DecidableEq, Repr

/-- A response: status and body bytes (R165). -/
structure Response where
  status : Status
  body   : List Byte
  deriving DecidableEq, Repr

/-- The station port: the response of the present select period, and the start that select release will cause (R19, R165). -/
structure StationPort where
  response : Option Response
  owed     : Option StartKind
  deriving DecidableEq, Repr

/-! ### The state -/

structure State where
  unit            : UnitState
  clock           : Nat
  cfg             : Settings
  custody         : CustodyUnit
  loop            : LoopInterface
  member          : Membership
  handoverCounter : Nat
  count           : CountEngine
  position        : PositionUnit
  service         : ServiceUnit
  safe            : SafeUnit
  attn            : Attention
  door            : DoorMonitor
  lamps           : Lamps
  port            : StationPort
  /-- The commands that wait, first in, first out. -/
  pending         : List Instr
  deriving DecidableEq, Repr

/-! ### Reset values -/

/-- A slot not in use (R47). -/
def unusedSlot : Denomination := { face := 0, kind := .note, unit := 1 }

def noFloat : FloatSlot := { target := 0, pickup := 0, change := 0 }

/-- The defaults of the settings (R46 to R48, R63, R85, R92, R107, R120, R121, R137, R155, R176). -/
def defaultSettings : Settings :=
  { number := none, denoms := Vector.replicate 12 unusedSlot, autoRejoin := false, beaconM := 3,
    transit := { floatBag := 30, pickupPouch := 20, depositBag := 30, changeStock := 30 },
    countLine := { baud := 1, parity := 1, stop := 1 }, threshold := 0, tolAbs := 0, tolRel := 0,
    floats := Vector.replicate 12 noFloat, pickupTrigger := 0, topupCap := 0, autoPickup := false, autoTopup := false,
    autoChange := false, requestLimit := 60, escalation := 15, claimLimit := 20,
    cover := { primaryLow := 1, primaryHigh := 56, backupLow := 56, backupHigh := 1, delay := 120 },
    uncounted := false, holdLimit := 120 }

def zeroTotals : Totals :=
  { opening := 0, intake := 0, payout := 0, received := 0, released := 0, admitted := 0, dispatched := 0, difference := 0 }

def emptyCustody : CustodyUnit :=
  { table := [], inbound := [], releases := [], totals := zeroTotals, saturated := false,
    day := { day := 0, totals := zeroTotals, accountable := 0, saturated := false } }

/-- No frame queued, ready or sending, fault score 0 (R40, R41). -/
def idleLoop : LoopInterface :=
  { queue := [], beaconReady := false, announceReady := false, conflictReady := none, sending := none, faultScore := 0,
    slotDriven := false }

/-- An UNKNOWN entry (R58). -/
def unknownPeer : PeerEntry :=
  { state := .unknown, role := none, m := none, summary := none, serial := none, alarm := none, silence := 0 }

def unknownPeers : Vector PeerEntry 56 := Vector.replicate 56 unknownPeer

def noBatch : BatchFigures := { taken := 0, dropped := 0, lost := 0, good := 0, damage := 0, progressed := false }

/-- The count engine after a start (R90). -/
def idleCount : CountEngine :=
  { state := .idle, job := none, batchNumber := 0, batch := noBatch, fifo := [], noRecordEnds := none, stray := 0,
    result := none, assembled := [], discarding := false }

/-- The cleared Float State (R122). -/
def clearedFloat : FloatState :=
  { pickup := [], pickupValue := 0, uncapped := [], uncappedValue := 0, topup := [], topupValue := 0, low := [],
    urgent := false, pickupNeed := false, topupNeed := false, changeNeed := false, capped := false }

/-- Attention after a start: all clear, all unmasked, no note, no event alarm (R167, R169, R170). -/
def quietAttention : Attention :=
  { reasons := 0, returned := 0, mask := 0, note := none, duplicate := false, positionLimit := false, doorHeld := false,
    doorUnexpected := false }

/-- The role the ROLE straps give; straps 11 give none (00_scope.md, "Roles"). -/
def strapRole (straps : BitVec 2) : Option Role :=
  if straps = 0 then some .till else if straps = 1 then some .desk else if straps = 2 then some .safe else none

/-- The state at the end of a cold start that reads `pins` (R20). -/
def State.cold (pins : Pins) (serial : BitVec 32) (waiting : List Instr) : State :=
  { unit := { power := .running, marker := true, serial := serial, role := strapRole pins.roleStraps,
              recordedRole := strapRole pins.roleStraps, rate := pins.rateStraps },
    clock := 0,
    cfg := defaultSettings,
    custody := emptyCustody,
    loop := idleLoop,
    member := { state := .unconfigured, mInForce := 3, listeningEnds := none, announceWaitEnds := none, beaconDue := none,
                withdrawnAt := none, duplicate := none, peers := unknownPeers },
    handoverCounter := 1,
    count := idleCount,
    position := { counts := Vector.replicate 12 0, float := clearedFloat },
    service := { requests := [], nextId := 1, list := [] },
    safe := { window := none, windowNumber := 0, dispatches := [] },
    attn := quietAttention,
    door := { isOpen := pins.doorOpen, openSince := if pins.doorOpen then some 0 else none, heldRaised := false,
              allowanceEnds := none },
    lamps := { step := 0, ms := 0, service := false, alarm := false },
    port := { response := none, owed := none },
    pending := waiting }

/-- The machine right after reset: a cold start (R20). DESIGN CHOICE (log 2), unsafe: straps 00 and 00, door closed, serial 0. -/
def State.reset : State := State.cold { roleStraps := 0, rateStraps := 0, doorOpen := false } 0 []

end Sys2Proof.Machine
end

