-- ==== Sys2Proof/Machine/Operands.lean ====
section
/-! DEFINITION. Operands of commands and frames: numeric codes of named values (R178), validity and value of compositions, the
class and route tables (R1), the service tables (chapter 8), clamping of settings. -/

namespace Sys2Proof.Machine

/-! ### Codes (R178) -/

def roleCode : Role → Nat
  | .till => 0 | .desk => 1 | .safe => 2

def roleOfCode (n : Nat) : Option Role :=
  if n = 0 then some .till else if n = 1 then some .desk else if n = 2 then some .safe else none

def classCode : ContainerClass → Nat
  | .floatBag => 0 | .pickupPouch => 1 | .depositBag => 2 | .changeStock => 3 | .courierSack => 4

def classOfCode (n : Nat) : Option ContainerClass :=
  if n = 0 then some .floatBag else if n = 1 then some .pickupPouch else if n = 2 then some .depositBag
  else if n = 3 then some .changeStock else if n = 4 then some .courierSack else none

def containerStateCode : ContainerState → Nat
  | .held => 0 | .counting => 1 | .offering => 2 | .outbound => 3 | .recalling => 4 | .overdue => 5 | .nested => 6

def inboundStateCode : InboundState → Nat
  | .expected => 0 | .taking => 1 | .unsure => 2 | .unresolved => 3

def stationStateCode : StationState → Nat
  | .unconfigured => 0 | .stopped => 1 | .listening => 2 | .announcing => 3 | .onLoop => 4 | .duplicate => 5
  | .withdrawn => 6

def needCode : NeedKind → Nat
  | .pickup => 1 | .topup => 2 | .change => 3

def needOfCode (n : Nat) : Option NeedKind :=
  if n = 1 then some .pickup else if n = 2 then some .topup else if n = 3 then some .change else none

def urgencyCode : Urgency → Nat
  | .normal => 0 | .urgent => 1

def urgencyOfCode (n : Nat) : Option Urgency :=
  if n = 0 then some .normal else if n = 1 then some .urgent else none

def refuseCode : RefuseReason → Nat
  | .classNotAccepted => 1 | .duplicateTag => 2 | .inboundFull => 3 | .notOffered => 4 | .tooLate => 5 | .declined => 6
  | .countBlocked => 7

/-- COUNT_BLOCKED has no place in a frame (R178). -/
def refuseOfCode (n : Nat) : Option RefuseReason :=
  if n = 1 then some .classNotAccepted else if n = 2 then some .duplicateTag else if n = 3 then some .inboundFull
  else if n = 4 then some .notOffered else if n = 5 then some .tooLate else if n = 6 then some .declined else none

def answerCode : AnswerKind → Nat
  | .heldForYou => 1 | .releasedToYou => 2 | .notKnown => 3

def answerOfCode (n : Nat) : Option AnswerKind :=
  if n = 1 then some .heldForYou else if n = 2 then some .releasedToYou else if n = 3 then some .notKnown else none

def withdrawCode : WithdrawReason → Nat
  | .cancelled => 1 | .expired => 2 | .served => 3

def withdrawOfCode (n : Nat) : Option WithdrawReason :=
  if n = 1 then some .cancelled else if n = 2 then some .expired else if n = 3 then some .served else none

def alarmCode : AlarmKind → Nat
  | .duplicateStation => 1 | .overdue => 2 | .unresolved => 3 | .totalsSaturated => 4 | .positionLimit => 5
  | .doorHeld => 6 | .doorUnexpected => 7

def alarmOfCode (n : Nat) : Option AlarmKind :=
  if n = 1 then some .duplicateStation else if n = 2 then some .overdue else if n = 3 then some .unresolved
  else if n = 4 then some .totalsSaturated else if n = 5 then some .positionLimit else if n = 6 then some .doorHeld
  else if n = 7 then some .doorUnexpected else none

def alarmActionCode : AlarmAction → Nat
  | .raised => 1 | .cleared => 2

def alarmActionOfCode (n : Nat) : Option AlarmAction :=
  if n = 1 then some .raised else if n = 2 then some .cleared else none

def varianceCode : VarianceClass → Nat
  | .exact => 0 | .within => 1 | .over => 2 | .short => 3

def modeCode : CountMode → Nat
  | .intake => 0 | .payout => 1 | .recount => 2 | .unpack => 3

def modeOfCode (n : Nat) : Option CountMode :=
  if n = 0 then some .intake else if n = 1 then some .payout else if n = 2 then some .recount
  else if n = 3 then some .unpack else none

def peerStateCode : PeerState → Nat
  | .unknown => 0 | .live => 1 | .quiet => 2 | .gone => 3

def countStateCode : CountState → Nat
  | .idle => 0 | .opened => 1 | .running => 2 | .paused => 3 | .closed => 4

def endCauseCode : EndCause → Nat
  | .endRecord => 0 | .idle => 1 | .halt => 2 | .abort => 3

def sackStateCode : SackState → Nat
  | .assembling => 0 | .closed => 1

def duplicateCauseCode : DuplicateCause → Nat
  | .heardWhileListening => 1 | .lostSerial => 2 | .conflictReceived => 3 | .heardWhileAnnouncing => 4

def serviceStateCode : ServiceState → Nat
  | .listed => 0 | .claiming => 1 | .won => 2

def statusCode : Status → Nat
  | .ok => 0x00 | .started => 0x01 | .busy => 0x02 | .badLength => 0x03 | .badKind => 0x04 | .badState => 0x05
  | .notFound => 0x06 | .tableFull => 0x07 | .insufficient => 0x08 | .duplicateTag => 0x09 | .peerAbsent => 0x0A
  | .classNotAllowed => 0x0B | .roleNotAllowed => 0x0C | .roleInvalid => 0x0D | .disputed => 0x0E
  | .loopQueueFull => 0x0F | .windowClosed => 0x10 | .sackFull => 0x11 | .limit => 0x12

/-! ### Compositions (00_scope.md, "Compositions") -/

/-- The count a composition lists for a slot; 0 for an absent slot. -/
def compAt (c : Composition) (slot : Nat) : Nat :=
  ((c.find? (fun p => p.1 == slot)).map Prod.snd).getD 0

/-- The slots of the composition are within 0 to 11 and none appears twice; counts lie in 1 to 65535. -/
def compProper (c : Composition) : Bool :=
  c.all (fun p => p.1 < Config.slotCount && 1 ≤ p.2 && p.2 ≤ Config.countMax) && decide (c.map Prod.fst).Nodup

/-- A composition of a request body or a NEED: 1 to 12 proper pairs (R11, R133, R152). -/
def compRequired (c : Composition) : Bool :=
  1 ≤ c.length && c.length ≤ Config.slotCount && compProper c

/-! ### Denominations and values -/

/-- The twelve slots in order. -/
abbrev slots : List Nat := List.range 12

def Settings.denom (cfg : Settings) (slot : Nat) : Denomination := (cfg.denoms[slot]?).getD unusedSlot

def Settings.face (cfg : Settings) (slot : Nat) : Nat := (cfg.denom slot).face

def Settings.inUse (cfg : Settings) (slot : Nat) : Bool := cfg.face slot != 0

def Settings.floatSlot (cfg : Settings) (slot : Nat) : FloatSlot := (cfg.floats[slot]?).getD noFloat

/-- Value of a composition: the sum of count times face value. -/
def Settings.valueOf (cfg : Settings) (c : Composition) : Nat :=
  (c.map (fun p => p.2 * cfg.face p.1)).sum

/-- The configuration holds a station number and a denomination slot in use (R23, R45). -/
def Settings.complete (cfg : Settings) : Bool :=
  cfg.number.isSome && slots.any cfg.inUse

/-- Transit limit of a class in timer steps (R63); a sack has none. -/
def Settings.transitSteps (cfg : Settings) (c : ContainerClass) : Nat :=
  Config.minute * (match c with
    | .floatBag => cfg.transit.floatBag
    | .pickupPouch => cfg.transit.pickupPouch
    | .depositBag => cfg.transit.depositBag
    | .changeStock => cfg.transit.changeStock
    | .courierSack => 0)

/-! ### Classes and roles (R1) -/

def canMakeUp : Option Role → ContainerClass → Bool
  | some .desk, .floatBag => true
  | some .safe, .floatBag => true
  | some .till, .pickupPouch => true
  | some .desk, .depositBag => true
  | _, _ => false

/-- The pair (giver's role, receiver's role) is listed for the class. -/
def routed (giver receiver : Option Role) (c : ContainerClass) : Bool :=
  match c, giver, receiver with
  | .floatBag, some .desk, some .till => true
  | .floatBag, some .safe, some .desk => true
  | .pickupPouch, some .till, some .desk => true
  | .depositBag, some .desk, some .safe => true
  | .changeStock, some .safe, some .desk => true
  | _, _, _ => false

def canHold : Option Role → ContainerClass → Bool
  | some _, .floatBag => true
  | some .till, .pickupPouch => true
  | some .desk, .pickupPouch => true
  | some .desk, .depositBag => true
  | some .safe, .depositBag => true
  | some .safe, .changeStock => true
  | some .desk, .changeStock => true
  | some .safe, .courierSack => true
  | _, _ => false

/-! ### Service tables (chapter 8) -/

/-- The role that raises a kind. -/
def raisesNeed : Option Role → NeedKind → Bool
  | some .till, .pickup => true
  | some .till, .topup => true
  | some .desk, .change => true
  | _, _ => false

/-- The role that serves a kind. -/
def servesNeed : Option Role → NeedKind → Bool
  | some .desk, .pickup => true
  | some .desk, .topup => true
  | some .safe, .change => true
  | _, _ => false

/-- The target of a kind's NEED, AWARD and WITHDRAW frames (R134). -/
def needTarget : NeedKind → Nat
  | .pickup => 58 | .topup => 58 | .change => 59

/-! ### Settings (00_scope.md, "Settings"; R45) -/

/-- A setting written out of range takes the nearer end of its range. -/
def clamp (low high n : Nat) : Nat := max low (min high n)

/-- An on/off setting: 0 off, 1 on, more clamped to 1 (DEDUCED, log 22; safe). -/
def onOff (n : Nat) : Bool := n != 0

/-- A slot kind code (11.4); what another code is answered is log 22. -/
def slotKindOfCode (n : Nat) : Option SlotKind :=
  if n = 0 then some .note else if n = 1 then some .coin else none

def slotKindCode : SlotKind → Nat
  | .note => 0 | .coin => 1

/-! ### Times -/

/-- Whole seconds from now to a clock value, rounded up; 0 when it has passed (R178). -/
def secondsLeft (clock time : Nat) : Nat := (time - clock + (Config.second - 1)) / Config.second

/-- Whole seconds of an age in timer steps, rounded down (R178). -/
def secondsOf (steps : Nat) : Nat := steps / Config.second

/-- Whole minutes from now to a clock value, rounded up; 0 when it has passed (R65). -/
def minutesLeft (clock time : Nat) : Nat := (time - clock + (Config.minute - 1)) / Config.minute

/-- A beacon period in timer steps: 250 ms x (1 + m) (R48). -/
def beaconPeriod (m : Nat) : Nat := 25 * (1 + m)

end Sys2Proof.Machine
end

