-- ==== Sys2Proof/Machine/Flags.lean ====
section
/-! DEFINITION. Flags: ordinary attention reasons and their mask (R167 to R169), the set of alarms and the active kind (R170),
the attention line (R169), damage reasons of a batch (R92, R178), the flag byte of a BEACON (11.2). -/

namespace Sys2Proof.Machine

/-- The bit of an ordinary reason: its place in the order of R167. -/
def reasonBit : Reason → Nat
  | .handoverResult => 0 | .offerArrived => 1 | .inboundLapsed => 2 | .queryUnanswered => 3 | .recallUnanswered => 4
  | .countDone => 5 | .countDamaged => 6 | .countProgress => 7 | .variance => 8 | .topupCapped => 9
  | .needRaised => 10 | .requestExpired => 11 | .requestServed => 12 | .claimAwarded => 13 | .claimLapsed => 14
  | .claimWon => 15 | .claimLost => 16 | .serviceListed => 17 | .serviceListFull => 18
  | .windowClosed => 19 | .dispatched => 20
  | .loopFrameDropped => 21 | .loopWithdrawn => 22 | .peerChange => 23 | .peerAlarm => 24

def reasonMask (r : Reason) : FlagWord := 1#32 <<< reasonBit r

/-- The bits that stand for ordinary reasons: 25 of the 32 (R167). -/
def ordinaryReasons : FlagWord := 0x01FFFFFF#32

/-- Raise an ordinary reason: it is set, and a READ_ATTENTION whose response was built before does not clear it
(R167, R168). -/
def raise (r : Reason) (s : State) : State :=
  { s with attn := { s.attn with reasons := s.attn.reasons ||| reasonMask r,
                                 returned := s.attn.returned &&& ~~~(reasonMask r) } }

def raiseIf (c : Bool) (r : Reason) (s : State) : State := if c then raise r s else s

/-- Raise HANDOVER_RESULT and write the handover note, replacing the previous one (R167). -/
def raiseResult (tag : Nat) (side : Side) (outcome : NoteOutcome) (s : State) : State :=
  let t := raise .handoverResult s
  { t with attn := { t.attn with note := some { tag := tag, side := side, outcome := outcome } } }

def alarmOrder : List AlarmKind :=
  [.duplicateStation, .overdue, .unresolved, .totalsSaturated, .positionLimit, .doorHeld, .doorUnexpected]

/-- Whether an alarm kind is set; a per-tag kind is set while any instance is (R170). -/
def State.alarmSet (s : State) : AlarmKind → Bool
  | .duplicateStation => s.attn.duplicate
  | .overdue => s.custody.table.any (·.overdueAlarm)
  | .unresolved => s.custody.inbound.any (fun e => e.state == .unresolved)
  | .totalsSaturated => s.custody.saturated
  | .positionLimit => s.attn.positionLimit
  | .doorHeld => s.attn.doorHeld
  | .doorUnexpected => s.attn.doorUnexpected

/-- The active kind: the first set kind in the alarm order (R170). -/
def State.activeAlarm (s : State) : Option AlarmKind := alarmOrder.find? s.alarmSet

def State.anyAlarm (s : State) : Bool := alarmOrder.any s.alarmSet

/-- The attention line: asserted while an unmasked ordinary reason or any alarm is set; released while the part is not
running (R169, R177). -/
def State.attentionLine (s : State) : Bool :=
  s.unit.power == .running && ((s.attn.reasons &&& ~~~s.attn.mask) != 0 || s.anyAlarm)

/-- The event alarms, those ALARM_CLEAR may clear (R170, R172). -/
def isEventAlarm : AlarmKind → Bool
  | .duplicateStation => true
  | .positionLimit => true
  | .doorHeld => true
  | .doorUnexpected => true
  | .overdue => false
  | .unresolved => false
  | .totalsSaturated => false

/-- The attention record with an event alarm set or cleared; condition alarms have no flag here. -/
def Attention.withAlarm (a : Attention) (k : AlarmKind) (on : Bool) : Attention :=
  match k with
  | .duplicateStation => { a with duplicate := on }
  | .positionLimit => { a with positionLimit := on }
  | .doorHeld => { a with doorHeld := on }
  | .doorUnexpected => { a with doorUnexpected := on }
  | .overdue => a
  | .unresolved => a
  | .totalsSaturated => a

/-- The bit of a damage reason (R178). -/
def damageBit : DamageReason → Nat
  | .framing => 0 | .parity => 1 | .check => 2 | .format => 3 | .slot => 4 | .overflow => 5 | .halted => 6
  | .tallyLimit => 7 | .headMismatch => 8

def DamageSet.add (d : DamageSet) (r : DamageReason) : DamageSet := d ||| (1#16 <<< damageBit r)

def DamageSet.addIf (d : DamageSet) (c : Bool) (r : DamageReason) : DamageSet := if c then d.add r else d

/-- A batch is damaged when its damage reasons are not empty (R93). -/
def DamageSet.damaged (d : DamageSet) : Bool := d != 0

def dropDamage : DropReason → DamageReason
  | .framing => .framing | .parity => .parity | .check => .check | .format => .format | .slot => .slot

/-- The flag byte of a BEACON (11.2). -/
def beaconFlagByte (f : BeaconFlags) : Nat :=
  f.pickupNeed.toNat + 2 * f.topupNeed.toNat + 4 * f.changeNeed.toNat + 8 * f.windowOpen.toNat
    + 16 * f.alarmActive.toNat + 32 * f.countBusy.toNat

end Sys2Proof.Machine
end

