-- ==== Sys2Proof/Machine/Formats.lean ====
section
/-! DEFINITION. Bytes: the field encodings of R178, the characters of a loop frame with its check (R25 to R28, 11.2), the
arbitration field and who wins it (R30), the malformed frames (R27, R178), the characters of a count record (R179). -/

namespace Sys2Proof.Machine

/-! ### Field encodings (R178) -/

/-- A number in `k` bytes, high byte first. -/
def numBytes : (k : Nat) → Nat → List Byte
  | 0, _ => []
  | k + 1, n => BitVec.ofNat 8 (n / 256 ^ k) :: numBytes k n

/-- A total or variance: 6 bytes in two's complement. -/
def signedBytes (n : Int) : List Byte := numBytes 6 (n % (2 ^ 48)).toNat

def boolByte (b : Bool) : List Byte := numBytes 1 b.toNat

/-- A composition: a count byte, then slot and 2-byte count of each pair. -/
def compBytes (c : Composition) : List Byte :=
  numBytes 1 c.length ++ c.flatMap (fun p => numBytes 1 p.1 ++ numBytes 2 p.2)

/-- A part of a record that may be absent: presence byte, then the part. -/
def partBytes (o : Option α) (f : α → List Byte) : List Byte :=
  match o with
  | none => [0#8]
  | some a => 1#8 :: f a

def optNat (o : Option Nat) : Nat := o.getD 0

/-- Bit 0 of a number becomes bit 7 of the character, and so on (R28). -/
def mirror (b : Byte) : Byte :=
  (List.range 8).foldl (fun r i => if b.getLsbD i then r ||| (1#8 <<< (7 - i)) else r) 0#8

/-! ### Kinds (R27) -/

/-- Class of a frame kind. -/
def frameClass : Payload → Nat
  | .alarm _ => 0
  | .taken _ => 1 | .recallOk _ => 1 | .refuse _ => 1 | .answer _ => 1
  | .offer _ => 2 | .recall _ => 2 | .query _ => 2
  | .claim _ => 3 | .award _ => 3
  | .need _ => 4 | .withdraw _ => 4
  | .announce _ => 5 | .conflict _ => 5
  | .beacon _ => 6

/-- Index of a frame kind within its class. -/
def frameIndex : Payload → Nat
  | .alarm _ => 0
  | .taken _ => 0 | .recallOk _ => 2 | .refuse _ => 1 | .answer _ => 3
  | .offer _ => 0 | .recall _ => 2 | .query _ => 1
  | .claim _ => 0 | .award _ => 2
  | .need _ => 0 | .withdraw _ => 2
  | .announce _ => 0 | .conflict _ => 2
  | .beacon _ => 0

/-- A class number with its three bits in reverse order. -/
def reverse3 (c : Nat) : Nat := c % 2 * 4 + c / 2 % 2 * 2 + c / 4 % 2

/-- Character 0: class in the three high bits; in the kind field, the index in its two high bits and the reversed class in
its three low bits (R27). -/
def kindCharacter (p : Payload) : Byte :=
  BitVec.ofNat 8 (frameClass p * 32 + frameIndex p * 8 + reverse3 (frameClass p))

/-- The target forms of R27. -/
def targetForm (p : Payload) (target : Nat) : Bool :=
  match p with
  | .alarm _ => target == 0
  | .announce _ => target == 0
  | .beacon _ => target == 0
  | .award _ => target == 58 || target == 59
  | .need _ => target == 58 || target == 59
  | .withdraw _ => target == 58 || target == 59
  | .taken _ => 1 ≤ target && target ≤ 56
  | .recallOk _ => 1 ≤ target && target ≤ 56
  | .refuse _ => 1 ≤ target && target ≤ 56
  | .answer _ => 1 ≤ target && target ≤ 56
  | .offer _ => 1 ≤ target && target ≤ 56
  | .recall _ => 1 ≤ target && target ≤ 56
  | .query _ => 1 ≤ target && target ≤ 56
  | .claim _ => 1 ≤ target && target ≤ 56
  | .conflict _ => 1 ≤ target && target ≤ 56

/-! ### Payloads (11.2) -/

/-- The flags and the composition that ends an OFFER: bit 0 composition present, bit 1 counted value present. -/
def offerTail (p : OfferPayload) : List Byte :=
  numBytes 1 (p.comp.isSome.toNat + 2 * p.counted.isSome.toNat) ++
    (match p.comp with
     | none => []
     | some c => compBytes c)

def alarmOptCode : Option AlarmKind → Nat
  | none => 0
  | some k => alarmCode k

/-- The unit serial of an ANNOUNCE: most significant character first, each mirrored (R30). -/
def serialCharacters (serial : BitVec 32) : List Byte := (numBytes 4 serial.toNat).map mirror

def payloadBytes : Payload → List Byte
  | .alarm p => numBytes 1 (alarmCode p.kind) ++ numBytes 1 (alarmActionCode p.action)
      ++ numBytes 1 (alarmOptCode p.active) ++ numBytes 4 p.tag
  | .taken p => numBytes 4 p.tag ++ numBytes 2 p.number ++ numBytes 5 p.value
  | .recallOk p => numBytes 4 p.tag ++ numBytes 2 p.number
  | .refuse p => numBytes 4 p.tag ++ numBytes 2 p.number ++ numBytes 1 (refuseCode p.reason)
  | .answer p => numBytes 4 p.tag ++ numBytes 1 (answerCode p.answer) ++ numBytes 2 p.number
      ++ numBytes 1 p.remaining ++ numBytes 5 p.value
  | .offer p => numBytes 1 (roleCode p.role) ++ numBytes 2 p.number ++ numBytes 4 p.tag ++ numBytes 1 (classCode p.cls)
      ++ numBytes 5 p.value ++ numBytes 5 (optNat p.counted) ++ numBytes 1 p.origin ++ numBytes 1 p.purpose
      ++ numBytes 1 p.remaining ++ offerTail p
  | .recall p => numBytes 4 p.tag ++ numBytes 2 p.number
  | .query p => numBytes 4 p.tag ++ numBytes 2 p.number
  | .claim p => numBytes 1 p.id ++ numBytes 1 (needCode p.kind) ++ numBytes 1 (roleCode p.role)
  | .award p => numBytes 1 p.id ++ numBytes 1 p.claimant ++ numBytes 1 (needCode p.kind)
      ++ numBytes 1 (urgencyCode p.urgency) ++ numBytes 5 p.value ++ compBytes p.comp
  | .need p => numBytes 1 p.id ++ numBytes 1 (needCode p.kind)
      ++ numBytes 1 (urgencyCode p.urgency + 2 * p.reopened.toNat) ++ numBytes 5 p.value ++ compBytes p.comp
  | .withdraw p => numBytes 1 p.id ++ numBytes 1 (needCode p.kind) ++ numBytes 1 (withdrawCode p.reason)
  | .announce p => serialCharacters p.serial ++ numBytes 1 (roleCode p.role) ++ numBytes 1 p.m
  | .conflict p => numBytes 4 p.serial.toNat ++ numBytes 4 p.answered.toNat
  | .beacon p => numBytes 1 (roleCode p.role) ++ numBytes 1 p.stationCode ++ numBytes 1 p.m
      ++ numBytes 1 (beaconFlagByte p.flags) ++ numBytes 1 p.custodyCount ++ numBytes 1 p.outbound
      ++ numBytes 1 p.openRequests

/-! ### Characters (R25) -/

/-- The eight data bits of a character in the order in which they go onto the line, least significant first (R25). -/
def lineBits (b : Byte) : List Bool := (List.range 8).map b.getLsbD

/-- The ten bits of a character on the line: a dominant start bit, the data bits, a recessive stop bit; `false` is dominant
(R25). -/
def characterBits (b : Byte) : List Bool := false :: (lineBits b ++ [true])

/-- The character of eight data bits, the first least significant. -/
def dataByte (bits : List Bool) : Byte := BitVec.ofNat 8 (bits.foldr (fun b n => b.toNat + 2 * n) 0)

/-- What a receiver makes of the ten bit times that begin at an edge: the character, or none where no start bit stands at their
head or the stop bit is bad, one read dominant (R25). -/
def readCharacter (bits : List Bool) : Option Byte :=
  if !bits.getD 0 true && bits.getD 9 false then some (dataByte ((bits.drop 1).take 8)) else none

/-! ### The receiver (R25, R27, R32) -/

/-- The frame a receiver takes from the line, bit time by bit time: the bits of the character it is in, start bit first and none
between characters; the recessive bit times since the last stop bit; the characters taken; whether it has discarded the frame. -/
structure LineReceiver where
  bits      : List Bool
  idle      : Nat
  taken     : List Byte
  discarded : Bool
  deriving DecidableEq, Repr

/-- Nothing of a frame received. -/
def noFrame : LineReceiver := { bits := [], idle := 0, taken := [], discarded := false }

/-- The second check character has been read: as many characters as the payload length, character 3, asks for (R26). -/
def lastCharacter (cs : List Byte) : Bool := 4 ≤ cs.length && cs.length == (cs.getD 3 0).toNat + 6

/-- A payload length above 64, detected at character 3 (R32). -/
def tooLong (cs : List Byte) : Bool := 4 ≤ cs.length && Config.payloadMax < (cs.getD 3 0).toNat

/-- A recessive bit between characters; more than one and a half character times of them within a frame discard it (R32). -/
def LineReceiver.idleBit (r : LineReceiver) : LineReceiver :=
  { r with idle := r.idle + 1, discarded := r.taken != [] && Config.frameGap ≤ r.idle }

/-- A stop bit, the tenth: recessive it ends the character, dominant it is bad and discards the frame (R25, R32). -/
def LineReceiver.stopBit (level : Bool) (r : LineReceiver) : LineReceiver :=
  let cs := r.taken ++ [dataByte (r.bits.drop 1)]
  if level then { bits := [], idle := 0, taken := cs, discarded := tooLong cs } else { r with discarded := true }

/-- One bit time: between characters a dominant level is the edge of a start bit; a receiver that has discarded the frame, or has
it whole, takes no more of it (R25, R32). -/
def LineReceiver.takeBit (r : LineReceiver) (level : Bool) : LineReceiver :=
  if r.discarded || lastCharacter r.taken then r
  else if r.bits == [] then (if level then r.idleBit else { r with bits := [false] })
  else if r.bits.length < 9 then { r with bits := r.bits ++ [level] }
  else r.stopBit level

/-! ### Characters of the count line (R85, R86) -/

/-- An odd number of ones among the data bits. -/
def oddOnes (b : Byte) : Bool := (lineBits b).foldl xor false

/-- The parity bit of a character: none, even or odd for parity code 0, 1 or 2 (R85). -/
def parityBits (f : CountLine) (b : Byte) : List Bool :=
  if f.parity = 0 then [] else if f.parity = 1 then [oddOnes b] else [!oddOnes b]

/-- The bits of a character on the count line: start bit 0, the data bits least significant first, the parity bit, the stop bits
1 (R85). That idle and stop are 1 and start 0 is the asynchronous convention behind "a stop bit read as 0" (DEDUCED, log 15; safe). -/
def countCharacterBits (f : CountLine) (b : Byte) : List Bool :=
  false :: (lineBits b ++ parityBits f b ++ List.replicate f.stop true)

/-- The character time in bit times: 10, 11 or 12 (R85). -/
def characterTime (f : CountLine) : Nat := 9 + (if f.parity = 0 then 0 else 1) + f.stop

/-- What the receiver makes of the bits of one character time of the count line (R86); without a start bit no character has begun. -/
inductive CharacterReading where
  | noStart
  | good (c : Byte)
  | parityError
  | framingError
  deriving DecidableEq, Repr

/-- Read a character of the format from its bits, start bit first: a wrong parity bit is a parity error, a stop bit read as 0 a
framing error (R86). One with both errors counts as a parity error, whose bit comes first (DEDUCED, log 15; unsafe). Bits whose
first is 1 have no start bit: the line is idle there and no character, good or in error, is taken (DEDUCED, log 15; unsafe). -/
def readCountCharacter (f : CountLine) (bits : List Bool) : CharacterReading :=
  let b := dataByte ((bits.drop 1).take 8)
  let rest := bits.drop 9
  let parity := parityBits f b
  if bits.getD 0 true then .noStart
  else if rest.take parity.length != parity then .parityError
  else if (rest.drop parity.length).take f.stop == List.replicate f.stop true then .good b
  else .framingError

/-! ### The frame on the line (R26) -/

/-- One bit of the check register: polynomial 0x1021. -/
def crcStep (r : BitVec 16) : BitVec 16 :=
  if r.msb then (r <<< 1) ^^^ 0x1021#16 else r <<< 1

/-- One character into the check register, most significant bit first. -/
def crcByte (r : BitVec 16) (b : Byte) : BitVec 16 :=
  (List.range 8).foldl (fun r _ => crcStep r) (r ^^^ ((b.setWidth 16) <<< 8))

/-- The check over the characters: initial value 0xFFFF, nothing reflected, nothing inverted (R26). -/
def crc16 (cs : List Byte) : BitVec 16 := cs.foldl crcByte 0xFFFF#16

/-- Header and payload of a frame, the characters the check covers (R26, R28). -/
def Frame.covered (f : Frame) : List Byte :=
  let p := payloadBytes f.payload
  [kindCharacter f.payload, mirror (BitVec.ofNat 8 f.sender), BitVec.ofNat 8 f.target, BitVec.ofNat 8 p.length] ++ p

/-- Every character of the frame: header, payload, check with the high byte first (R26). -/
def Frame.characters (f : Frame) : List Byte :=
  let c := Frame.covered f
  c ++ numBytes 2 (crc16 c).toNat

/-- Every bit of the frame, its characters sent back to back (R25, R26). -/
def Frame.lineLevels (f : Frame) : List Bool := (Frame.characters f).flatMap characterBits

/-! ### Malformed frames (R27, R178) -/

def optCompOk : Option Composition → Bool
  | none => true
  | some c => c.length ≤ Config.slotCount

/-- Payload conditions of R27 and R178 that the typed payload does not already exclude: composition counts above 12, the
COUNT_BLOCKED code in a REFUSE, a BEACON that does not carry ON_LOOP (R57). What R178 does not call malformed is taken: a NEED or
AWARD whose composition lists no pair, and numbers outside their ranges as they are carried (DEDUCED, log 19; unsafe). -/
def payloadOk : Payload → Bool
  | .offer p => optCompOk p.comp
  | .award p => p.comp.length ≤ Config.slotCount
  | .need p => p.comp.length ≤ Config.slotCount
  | .refuse p => p.reason != .countBlocked
  | .beacon p => p.stationCode == 4
  | .alarm _ => true
  | .taken _ => true
  | .recallOk _ => true
  | .answer _ => true
  | .recall _ => true
  | .query _ => true
  | .claim _ => true
  | .withdraw _ => true
  | .announce _ => true
  | .conflict _ => true

/-- A frame that is not malformed: sender 1 to 56, target of the form of its kind, payload as R178 asks (R27). -/
def Frame.wellFormed (f : Frame) : Bool :=
  1 ≤ f.sender && f.sender ≤ Config.maxStation && targetForm f.payload f.target && payloadOk f.payload

/-! ### Arbitration (R30) -/

/-- The arbitration field: characters 0 and 1, and in an ANNOUNCE the unit serial; `false` is dominant (R30). -/
def Frame.arbitration (f : Frame) : List Bool :=
  lineBits (kindCharacter f.payload) ++ lineBits (mirror (BitVec.ofNat 8 f.sender)) ++
    (match f.payload with
     | .announce p => (serialCharacters p.serial).flatMap lineBits
     | _ => [])

/-- The first field wins over the second: at the first bit where they differ it sends dominant (R30). -/
def bitsWin : List Bool → List Bool → Bool
  | a :: as, b :: bs => if a == b then bitsWin as bs else !a
  | _, _ => false

/-- Of two contenders, the first keeps the line (R30). -/
def Frame.wins (a b : Frame) : Bool := bitsWin (Frame.arbitration a) (Frame.arbitration b)

/-! ### Count records (R179) -/

/-- What four characters of the count line say (R87, R179). -/
inductive RecordReading where
  | count (slot : Nat) (suspect : Bool) (pieces : Nat)
  | endOfRun (total : Nat)
  | halt
  | dropped (reason : DropReason)
  deriving DecidableEq, Repr

/-- Read a complete record: the check, then the type and a COUNT record's count (R87); the SLOT check needs the
configuration and is made by the count engine. -/
def readRecord (c0 c1 c2 c3 : Byte) : RecordReading :=
  if c3 ≠ c0 ^^^ c1 ^^^ c2 then .dropped .check
  else
    let kind := c0.toNat / 64
    let figure := c1.toNat % 16 * 256 + c2.toNat
    if kind = 0 then .dropped .format
    else if kind = 1 then
      if figure = 0 then .dropped .format else .count (c0.toNat % 16) (c0.getLsbD 5) figure
    else if kind = 2 then .endOfRun figure
    else .halt

/-- The characters of a COUNT, END or HALT record (R179). -/
def recordCharacters (kind low figure : Nat) : List Byte :=
  let c0 := BitVec.ofNat 8 (kind * 64 + low)
  let c1 := BitVec.ofNat 8 (figure / 256)
  let c2 := BitVec.ofNat 8 (figure % 256)
  [c0, c1, c2, c0 ^^^ c1 ^^^ c2]

end Sys2Proof.Machine
end

