-- ==== Sys2Proof/Machine/Ops.lean ====
section
/-! DEFINITION. The operations the commands share: the station port (R165), lookups and updates of the records, the Transmit
Queue (R37, R38), alarms and their frames (R170, R171), the station totals (R14, R15), tolerance and variance (R108). -/

namespace Sys2Proof.Machine

/-! ### The station port (R165, R166) -/

/-- Build the response of the present select period. -/
def answer (status : Status) (body : List Byte) (s : State) : State :=
  { s with port := { s.port with response := some { status := status, body := body } } }

/-- A refused request has an empty body (11.4). -/
def refuse (status : Status) (s : State) : State := answer status [] s

/-- The port takes a request while the part runs and no start waits for select to be released (R165, R177; log 12). -/
def portTakes (s : State) : Bool := s.unit.power == .running && s.port.owed.isNone

/-- A new select period: the former response is lost, and with it the clearing that its last byte would have done
(R165, R168). -/
def newSelect (s : State) : State :=
  { s with port := { s.port with response := none }, attn := { s.attn with returned := 0 } }

/-- A complete request: a wrong length byte is answered BAD_LENGTH before the owning block sees the request (R166). -/
def request (body : Body α) (s : State) (run : α → State → State) : Host.Outcome State Fault Refusal :=
  .next (if portTakes s then
      match body with
      | .wrongLength => refuse .badLength (newSelect s)
      | .fields a => run a (newSelect s)
    else s)

/-- An event inside or around the part; nothing happens while it is unpowered or held in reset (R177). -/
def event (s : State) (run : State → State) : Host.Outcome State Fault Refusal :=
  .next (if s.unit.power == .running then run s else s)

/-! ### Lookups and updates -/

/-- The station number; 0, which no station has, while it is not set. -/
def State.own (s : State) : Nat := s.cfg.number.getD 0

def State.container? (s : State) (tag : Nat) : Option Container := s.custody.table.find? (fun c => c.tag == tag)

def State.inbound? (s : State) (tag : Nat) : Option InboundEntry := s.custody.inbound.find? (fun e => e.tag == tag)

def State.request? (s : State) (id : Nat) : Option OwnRequest := s.service.requests.find? (fun r => r.id == id)

def State.service? (s : State) (requester id : Nat) : Option ServiceEntry :=
  s.service.list.find? (fun e => e.requester == requester && e.id == id)

def State.peer (s : State) (n : Nat) : PeerEntry :=
  if n = 0 then unknownPeer else (s.member.peers[n - 1]?).getD unknownPeer

def setPeer (n : Nat) (e : PeerEntry) (s : State) : State :=
  if n = 0 then s else { s with member := { s.member with peers := s.member.peers.setIfInBounds (n - 1) e } }

def setStation (st : StationState) (s : State) : State := { s with member := { s.member with state := st } }

def setTable (t : List Container) (s : State) : State := { s with custody := { s.custody with table := t } }

def setInbound (l : List InboundEntry) (s : State) : State := { s with custody := { s.custody with inbound := l } }

/-- Change the container with a tag; it keeps its place (R7). -/
def updateContainer (tag : Nat) (f : Container → Container) (s : State) : State :=
  setTable (s.custody.table.map (fun c => if c.tag == tag then f c else c)) s

/-- Remove the container with a tag; the entries after it close up (R7). -/
def removeContainer (tag : Nat) (s : State) : State :=
  setTable (s.custody.table.filter (fun c => c.tag != tag)) s

/-- A container joins at the end of the table (R7). -/
def appendContainer (c : Container) (s : State) : State := setTable (s.custody.table ++ [c]) s

def updateInbound (tag : Nat) (f : InboundEntry → InboundEntry) (s : State) : State :=
  setInbound (s.custody.inbound.map (fun e => if e.tag == tag then f e else e)) s

def removeInbound (tag : Nat) (s : State) : State :=
  setInbound (s.custody.inbound.filter (fun e => e.tag != tag)) s

def appendInbound (e : InboundEntry) (s : State) : State := setInbound (s.custody.inbound ++ [e]) s

/-- Places reserved for TAKING and UNSURE entries (R7). -/
def State.reserved (s : State) : Nat :=
  (s.custody.inbound.filter (fun e => e.state == .taking || e.state == .unsure)).length

/-- Entries plus reserved places come to 48 (R7). -/
def State.tableFull (s : State) : Bool := Config.custodyCap ≤ s.custody.table.length + s.reserved

/-- A tag in the Custody Table or in the Inbound List (R11). -/
def State.tagKnown (s : State) (tag : Nat) : Bool := (s.container? tag).isSome || (s.inbound? tag).isSome

def setCounts (v : Vector Nat 12) (s : State) : State := { s with position := { s.position with counts := v } }

/-- The position count of a slot (R115). -/
def State.pieces (s : State) (slot : Nat) : Nat := (s.position.counts[slot]?).getD 0

/-- The states in which a container carries handover fields (R5). -/
def inHandover : ContainerState → Bool
  | .offering => true
  | .outbound => true
  | .recalling => true
  | .overdue => true
  | .held => false
  | .counting => false
  | .nested => false

/-- OUTBOUND, RECALLING or OVERDUE: the bag is in transit (R71). -/
def inTransit : ContainerState → Bool
  | .outbound => true
  | .recalling => true
  | .overdue => true
  | .offering => false
  | .held => false
  | .counting => false
  | .nested => false

/-- The handover peer and number of a container match (R79, R81). -/
def Container.offeredTo (c : Container) (peer number : Nat) : Bool :=
  match c.handover with
  | none => false
  | some h => h.peer == peer && h.number == number

/-- A count session is OPEN, RUNNING or PAUSED (5.4). -/
def CountState.sessionOpen : CountState → Bool
  | .opened => true
  | .running => true
  | .paused => true
  | .idle => false
  | .closed => false

/-- The custody count and the outbound count of R8. -/
def State.custodyCount (s : State) : Nat := s.custody.table.length

def State.outboundCount (s : State) : Nat := (s.custody.table.filter (fun c => inHandover c.state)).length

/-- LISTENING, ANNOUNCING, ON_LOOP or WITHDRAWN: the handover requests are taken and the service unit sends frames in these
(R62, R132). -/
def joiningOrJoined : StationState → Bool
  | .listening => true
  | .announcing => true
  | .onLoop => true
  | .withdrawn => true
  | .unconfigured => false
  | .stopped => false
  | .duplicate => false

/-- The states in which the part follows the line and the peer, open and claim ages advance (R33, R60, R132). -/
def onTheLine : StationState → Bool
  | .unconfigured => false
  | .stopped => false
  | .listening => true
  | .announcing => true
  | .onLoop => true
  | .duplicate => true
  | .withdrawn => true

/-! ### The Transmit Queue (R37, R38, R40) -/

/-- A frame joins behind the frames of its own class and of lower classes. -/
def insertFrame (f : QueuedFrame) : List QueuedFrame → List QueuedFrame
  | [] => [f]
  | g :: q => if frameClass f.payload < frameClass g.payload then f :: g :: q else g :: insertFrame f q

def setQueue (q : List QueuedFrame) (s : State) : State := { s with loop := { s.loop with queue := q } }

def enqueue (port : Bool) (target : Nat) (p : Payload) (s : State) : State :=
  setQueue (insertFrame { target := target, payload := p, port := port, onLine := false } s.loop.queue) s

def portFrames (q : List QueuedFrame) : Nat := (q.filter (·.port)).length

/-- Room for a port frame: fewer than 8 port frames and fewer than 12 frames (R37). -/
def State.portRoom (s : State) : Bool :=
  portFrames s.loop.queue < Config.portCap && s.loop.queue.length < Config.queueCap

def State.chipRoom (s : State) : Bool := s.loop.queue.length < Config.queueCap

/-- The queue takes frames in every station state other than STOPPED and DUPLICATE (R40). -/
def State.queueTakes (s : State) : Bool := s.member.state != .stopped && s.member.state != .duplicate

/-- A chip frame generated now joins the queue. -/
def State.chipJoins (s : State) : Bool := s.queueTakes && s.chipRoom

/-- A chip frame joins, or is dropped from a full queue with LOOP_FRAME_DROPPED, or is not placed (R38, R40). The report of a
frame that does not join is its block's affair. -/
def chipFrame (target : Nat) (p : Payload) (s : State) : State :=
  if !s.queueTakes then s
  else if s.chipRoom then enqueue false target p s
  else raise .loopFrameDropped s

/-! ### Alarms (R170, R171) -/

/-- The ALARM frame of a raising or clearing: a chip frame, placed while ON_LOOP only (R171). -/
def alarmFrame (k : AlarmKind) (a : AlarmAction) (tag : Nat) (s : State) : State :=
  if s.member.state == .onLoop then
    chipFrame 0 (.alarm { kind := k, action := a, active := s.activeAlarm, tag := tag }) s
  else s

/-- Raise an event alarm; one already set raises nothing new (R170). -/
def raiseAlarm (k : AlarmKind) (s : State) : State :=
  if s.alarmSet k then s else alarmFrame k .raised 0 { s with attn := s.attn.withAlarm k true }

/-- A container becomes OVERDUE; its alarm is raised unless already held (R82). -/
def becomeOverdue (c : Container) (s : State) : State :=
  let t := updateContainer c.tag (fun c => { c with state := .overdue, recallEnds := none, overdueAlarm := true }) s
  if c.overdueAlarm then t else alarmFrame .overdue .raised c.tag t

/-- The OVERDUE alarm of a container that has just left the books or returned to HELD clears (R82). -/
def overdueCleared (c : Container) (s : State) : State :=
  if c.overdueAlarm then alarmFrame .overdue .cleared c.tag s else s

/-- An Inbound List entry becomes UNRESOLVED; nothing new is raised for one that is (R75, R76). -/
def becomeUnresolved (e : InboundEntry) (s : State) : State :=
  if e.state == .unresolved then s
  else alarmFrame .unresolved .raised e.tag (updateInbound e.tag (fun e => { e with state := .unresolved }) s)

/-- The UNRESOLVED alarm clears for an entry that has just left that state (R76). -/
def unresolvedCleared (e : InboundEntry) (s : State) : State :=
  if e.state == .unresolved then alarmFrame .unresolved .cleared e.tag s else s

/-! ### Totals (R14, R15) -/

inductive TotalName where
  | opening | intake | payout | received | released | admitted | dispatched | difference
  deriving DecidableEq, Repr

def Totals.get (t : Totals) : TotalName → Int
  | .opening => t.opening | .intake => t.intake | .payout => t.payout | .received => t.received
  | .released => t.released | .admitted => t.admitted | .dispatched => t.dispatched | .difference => t.difference

def Totals.put (t : Totals) (k : TotalName) (v : Int) : Totals :=
  match k with
  | .opening => { t with opening := v } | .intake => { t with intake := v } | .payout => { t with payout := v }
  | .received => { t with received := v } | .released => { t with released := v } | .admitted => { t with admitted := v }
  | .dispatched => { t with dispatched := v } | .difference => { t with difference := v }

/-- A change takes the total to or beyond a bound. -/
def saturates (v : Int) : Bool := Config.totalMax ≤ v || v ≤ -Config.totalMax

/-- A total held within its bounds. -/
def boundTotal (v : Int) : Int := max (-Config.totalMax) (min Config.totalMax v)

/-- Change a total with saturation; TOTALS_SATURATED is raised when the mark goes from clear to set (R14, R18). -/
def changeTotal (k : TotalName) (delta : Int) (s : State) : State :=
  let v := s.custody.totals.get k + delta
  let t := { s with custody := { s.custody with totals := s.custody.totals.put k (boundTotal v),
                                                saturated := s.custody.saturated || saturates v } }
  if saturates v && !s.custody.saturated then alarmFrame .totalsSaturated .raised 0 t else t

/-- The value of the position (R15). -/
def State.positionValue (s : State) : Nat := (slots.map (fun d => s.pieces d * s.cfg.face d)).sum

/-- The declared values that count: every entry but the NESTED ones (R15). -/
def containerValue (t : List Container) : Nat := ((t.filter (fun c => c.state != .nested)).map (·.value)).sum

/-- The accountable total (R15). -/
def State.accountable (s : State) : Int := ((s.positionValue + containerValue s.custody.table : Nat) : Int)

/-- What the terms of the identity of R15 add up to. -/
def Totals.identity (t : Totals) : Int :=
  t.opening + t.intake - t.payout + t.received - t.released + t.admitted - t.dispatched + t.difference

/-! ### Tolerance and variance (R108) -/

/-- T = max(A, floor(D x R / 10000)). -/
def Settings.tolerance (cfg : Settings) (declared : Nat) : Nat := max cfg.tolAbs (declared * cfg.tolRel / 10000)

def varianceOf (counted declared : Nat) : Int := (counted : Int) - (declared : Int)

def Settings.classify (cfg : Settings) (counted declared : Nat) : VarianceClass :=
  let v := varianceOf counted declared
  let t : Int := cfg.tolerance declared
  if v = 0 then .exact else if -t ≤ v ∧ v ≤ t then .within else if t < v then .over else .short

/-- OVER and SHORT dispute a container (R3). -/
def disputes : VarianceClass → Bool
  | .exact => false
  | .within => false
  | .over => true
  | .short => true

end Sys2Proof.Machine
end

