-- ==== Sys2Proof/Machine/ServiceOps.lean ====
section
/-! DEFINITION. The service unit's operations that other blocks set off: NEED and WITHDRAW frames (R134, R135), raises (R132,
R133), linking, closing and sending back of Own Requests (R139 to R141), the Service List (R142, R143, R147). -/

namespace Sys2Proof.Machine

def setRequests (l : List OwnRequest) (s : State) : State := { s with service := { s.service with requests := l } }

def setServiceList (l : List ServiceEntry) (s : State) : State := { s with service := { s.service with list := l } }

def updateRequest (id : Nat) (f : OwnRequest → OwnRequest) (s : State) : State :=
  setRequests (s.service.requests.map (fun r => if r.id == id then f r else r)) s

def removeRequest (id : Nat) (s : State) : State :=
  setRequests (s.service.requests.filter (fun r => r.id != id)) s

/-! ### Frames of a request -/

def needPayload (r : OwnRequest) : Payload :=
  .need { id := r.id, kind := r.kind, urgency := r.urgency, reopened := r.reopened, value := r.value, comp := r.comp }

/-- A NEED for the request that waits in the queue and is not being sent (R134); one that has lost the line waits again
(DEDUCED, log 20; unsafe). -/
def isWaitingNeed (id : Nat) (f : QueuedFrame) : Bool :=
  !f.onLine && (match f.payload with
    | .need p => p.id == id
    | _ => false)

/-- A waiting NEED takes the request's current urgency and reopened mark (R134). -/
def refreshNeed (r : OwnRequest) (f : QueuedFrame) : QueuedFrame :=
  match f.payload with
  | .need p => { f with payload := .need { p with urgency := r.urgency, reopened := r.reopened } }
  | _ => f

/-- Send a NEED as a chip frame; one already waiting is refreshed instead; in other station states none is sent
(R132, R134). -/
def sendNeed (r : OwnRequest) (s : State) : State :=
  if !joiningOrJoined s.member.state then s
  else if s.loop.queue.any (isWaitingNeed r.id) then
    setQueue (s.loop.queue.map (fun f => if isWaitingNeed r.id f then refreshNeed r f else f)) s
  else chipFrame (needTarget r.kind) (needPayload r) s

/-- A request has left OPEN: a NEED still waiting for it is removed (R134). -/
def dropNeed (id : Nat) (s : State) : State :=
  setQueue (s.loop.queue.filter (fun f => !isWaitingNeed id f)) s

def withdrawPayload (r : OwnRequest) (reason : WithdrawReason) : Payload :=
  .withdraw { id := r.id, kind := r.kind, reason := reason }

/-- A WITHDRAW as a chip frame (R136, R141). -/
def sendWithdraw (r : OwnRequest) (reason : WithdrawReason) (s : State) : State :=
  if joiningOrJoined s.member.state then chipFrame (needTarget r.kind) (withdrawPayload r reason) s else s

/-! ### Raising (R132, R133) -/

/-- The id after one: 255 is followed by 1. -/
def nextRequestId (id : Nat) : Nat := if 255 ≤ id then 1 else id + 1

/-- The first id no request holds, counting up from the next request id (R132); at most four are held. -/
def freeId (l : List OwnRequest) : (fuel : Nat) → Nat → Nat
  | 0, id => id
  | n + 1, id => if l.any (fun r => r.id == id) then freeId l n (nextRequestId id) else id

/-- The id a new request takes. -/
def State.newId (s : State) : Nat := freeId s.service.requests Config.requestCap s.service.nextId

def newRequest (kind : NeedKind) (urgency : Urgency) (comp : Composition) (value : Nat) (s : State) : OwnRequest :=
  { id := s.newId, kind := kind, comp := comp, value := value, urgency := urgency, phase := .opened, reopened := false,
    raisedAt := s.clock, openAge := 0 }

/-- The request joins the collection and the next request id moves on (R132). -/
def addRequest (r : OwnRequest) (s : State) : State :=
  { s with service := { s.service with requests := s.service.requests ++ [r], nextId := nextRequestId r.id } }

/-- A raise handed over by the position unit (R129, R133): not made when four requests exist. -/
def handRaise (kind : NeedKind) (urgency : Urgency) (comp : Composition) (value : Nat) (s : State) : State :=
  if Config.requestCap ≤ s.service.requests.length then s
  else
    let r := newRequest kind urgency comp value s
    raise .needRaised (sendNeed r (addRequest r s))

/-! ### Phases (R139 to R141) -/

/-- A CLAIMED request, or a SERVING one to be relinked, whose claimant is the peer becomes SERVING with the tag (R140). -/
def linkPhase (peer tag : Nat) : RequestPhase → RequestPhase
  | .opened => .opened
  | .claimed c a => if c == peer then .serving c a tag else .claimed c a
  | .serving c a t => if c == peer then .serving c a tag else .serving c a t

/-- The kinds whose requester is the giver of the serving handover (chapter 8). -/
def requesterGives : NeedKind → Bool
  | .pickup => true
  | .topup => false
  | .change => false

/-- The service unit is told of an offer (giver side) or a registration (receiver side) with its purpose (R140). A SERVING request is
relinked, as a CLAIMED one is linked, only in the direction of its kind (DEDUCED, log 31; unsafe). -/
def toldOffer (gives : Bool) (peer purpose tag : Nat) (s : State) : State :=
  setRequests (s.service.requests.map (fun r =>
    if r.id == purpose && requesterGives r.kind == gives then { r with phase := linkPhase peer tag r.phase } else r)) s

/-- The request is SERVING and linked to the tag. -/
def linkedTo (tag : Nat) (r : OwnRequest) : Bool :=
  match r.phase with
  | .serving _ _ t => t == tag
  | _ => false

def claimantOf (p : RequestPhase) : Option Nat :=
  match p with
  | .opened => none
  | .claimed c _ => some c
  | .serving c _ _ => some c

/-- Back to CLAIMED with the same claimant, the linked tag removed and claim age 0 (R141). -/
def backToClaimed : RequestPhase → RequestPhase
  | .serving c _ _ => .claimed c 0
  | p => p

/-- The service unit is told of a setback of a handover (R141). -/
def toldSetback (gives : Bool) (tag : Nat) (s : State) : State :=
  setRequests (s.service.requests.map (fun r =>
    if linkedTo tag r && requesterGives r.kind == gives then { r with phase := backToClaimed r.phase } else r)) s

/-- Closed: the request is removed, REQUEST_SERVED is raised and WITHDRAW(SERVED) is placed (R141). -/
def closeRequest (s : State) (r : OwnRequest) : State :=
  sendWithdraw r .served (raise .requestServed (removeRequest r.id s))

/-- Close every request that the completed handover of the tag with the peer serves, in the order of the collection: R141 gives none
for several linked to one tag (DEDUCED, log 20; unsafe). -/
def closeServed (gives : Bool) (tag peer : Nat) (s : State) : State :=
  (s.service.requests.filter (fun r =>
    linkedTo tag r && requesterGives r.kind == gives && claimantOf r.phase == some peer)).foldl closeRequest s

/-- Remove the WON entries that a completed handover with the requester serves (R147). -/
def removeServed (kindOk : NeedKind → Bool) (requester purpose : Nat) (s : State) : State :=
  setServiceList (s.service.list.filter (fun e =>
    !(e.requester == requester && e.id == purpose && e.state == .won && kindOk e.kind))) s

/-- The service unit is told of a release on a TAKEN from the peer (R71, R141, R147). -/
def toldRelease (tag peer purpose : Nat) (s : State) : State :=
  removeServed (fun k => !requesterGives k) peer purpose (toldSetback true tag (closeServed true tag peer s))

/-- The service unit is told that a container has entered from an expectation (R72, R141, R147). -/
def toldEntry (e : InboundEntry) (s : State) : State :=
  removeServed (fun k => requesterGives k && e.cls == .pickupPouch) e.giver e.purpose (closeServed false e.tag e.giver s)

/-- The request is OPEN again, reopened, with no claimant and no linked tag (R139). -/
def reopenRequest (r : OwnRequest) : OwnRequest := { r with phase := .opened, openAge := 0, reopened := true }

/-- A claim lapse (R139). -/
def lapseRequest (s : State) (r : OwnRequest) : State :=
  raise .claimLapsed (sendNeed (reopenRequest r) (updateRequest r.id reopenRequest s))

/-- The departure of the claimant lapses a CLAIMED request, and a SERVING one whose requester is the giver while the linked
container is HELD (R139). -/
def lapsesOnDeparture (n : Nat) (s : State) (r : OwnRequest) : Bool :=
  match r.phase with
  | .opened => false
  | .claimed c _ => c == n
  | .serving c _ t => c == n && requesterGives r.kind &&
      (match s.container? t with
       | none => false
       | some k => k.state == .held)

/-! ### The Service List (R142, R143) -/

/-- The list order of R142: URGENT entries first, each group by heard time. -/
def serviceOrder (l : List ServiceEntry) : List ServiceEntry :=
  l.filter (fun e => e.urgency == .urgent) ++ l.filter (fun e => e.urgency == .normal)

def inPrimary (cover : Cover) (n : Nat) : Bool := cover.primaryLow ≤ n && n ≤ cover.primaryHigh

def inBackup (cover : Cover) (n : Nat) : Bool := cover.backupLow ≤ n && n ≤ cover.backupHigh

/-- The clock value at which the backup delay of an entry has passed (R143). -/
def backupDue (cover : Cover) (e : ServiceEntry) : Nat := e.heard + cover.delay * Config.second

/-- Eligible: LISTED, and its requester in the primary range, or in the backup range with the delay passed (R143). -/
def State.eligible (s : State) (e : ServiceEntry) : Bool :=
  e.state == .listed && (inPrimary s.cfg.cover e.requester ||
    (inBackup s.cfg.cover e.requester && backupDue s.cfg.cover e ≤ s.clock))

/-- Entries in WON and CLAIMING together (R142, R145). -/
def State.commitments (s : State) : Nat := (s.service.list.filter (fun e => e.state != .listed)).length

/-- A new or relisted entry that is eligible raises SERVICE_LISTED (R143, R144). -/
def announceListed (e : ServiceEntry) (s : State) : State := raiseIf (s.eligible e) .serviceListed s

/-- The entry with the mark that SERVICE_LISTED has been raised for it. -/
def markListed (s : State) (e : ServiceEntry) : ServiceEntry := { e with listedRaised := s.eligible e }

def updateService (requester id : Nat) (f : ServiceEntry → ServiceEntry) (s : State) : State :=
  setServiceList (s.service.list.map (fun e => if e.requester == requester && e.id == id then f e else e)) s

def removeService (requester id : Nat) (s : State) : State :=
  setServiceList (s.service.list.filter (fun e => !(e.requester == requester && e.id == id))) s

/-- The requester departs: every entry of it is removed, CLAIM_LAPSED for a WON one (R147). -/
def requesterDeparts (n : Nat) (s : State) : State :=
  raiseIf (s.service.list.any (fun e => e.requester == n && e.state == .won)) .claimLapsed
    (setServiceList (s.service.list.filter (fun e => e.requester != n)) s)

/-- The claimant departs and each of its claims lapses (R139). R139 does not say in which order several do, which shows in the
order of their NEEDs and in which of them a full queue drops; the model takes the order of the collection (DEDUCED, log 20;
unsafe). -/
def claimantDeparts (n : Nat) (s : State) : State :=
  (s.service.requests.filter (lapsesOnDeparture n s)).foldl lapseRequest s

/-- A server arrives while the station is ON_LOOP: a NEED for each OPEN request of the kinds it serves (R134), in the order
of the collection, which R134 gives for reaching ON_LOOP only (DEDUCED, log 20; unsafe). -/
def serverArrives (role : Option Role) (s : State) : State :=
  if s.member.state == .onLoop then
    (s.service.requests.filter (fun r => r.phase == .opened && servesNeed role r.kind)).foldl (fun s r => sendNeed r s) s
  else s

/-- The station reaches ON_LOOP: one NEED for every OPEN request in the order of the collection (R134). -/
def resendNeeds (s : State) : State :=
  (s.service.requests.filter (fun r => r.phase == .opened)).foldl (fun s r => sendNeed r s) s

end Sys2Proof.Machine
end

