-- ==== Sys2Proof/Machine/PositionOps.lean ====
section
/-! DEFINITION. The position unit: application of counts with clamping (R116 to R119), evaluation of the float levels (R122 to
R127), auto-raise (R129). -/

namespace Sys2Proof.Machine

/-! ### Applying counts -/

/-- Pieces that do not fit in a count when good pieces are added: e_d (R116). -/
def excess (p good : Nat) : Nat := p + good - Config.countMax

/-- Pieces missing from a count when good pieces are taken: s_d (R117). -/
def shortfall (p good : Nat) : Nat := good - p

/-- The entry of a list at a slot; 0 beyond it. -/
def atSlot (l : List Nat) (slot : Nat) : Nat := (l[slot]?).getD 0

/-- Good pieces added to every count, clamped at 65535 (R116, R118). -/
def addPieces (good : List Nat) (s : State) : State :=
  setCounts (s.position.counts.mapIdx (fun d p => min Config.countMax (p + atSlot good d))) s

/-- Good pieces taken from every count, clamped at 0 (R117). -/
def takePieces (good : List Nat) (s : State) : State :=
  setCounts (s.position.counts.mapIdx (fun d p => p - atSlot good d)) s

/-- Slots with their clamped pieces, in slot order (R119). -/
def clampedSlots (f : Nat → Nat) : List (Nat × Nat) :=
  slots.filterMap (fun d => if f d = 0 then none else some (d, f d))

/-- The value of clamped pieces. -/
def clampedValue (cfg : Settings) (c : List (Nat × Nat)) : Nat := (c.map (fun p => p.2 * cfg.face p.1)).sum

/-- The position part of the Count Result: absent when nothing was clamped (R119). -/
def positionPart (c : List (Nat × Nat)) (value : Int) : Option PositionPart :=
  if c.isEmpty then none else some { clamped := c, value := value }

def excessSlots (good : List Nat) (s : State) : List (Nat × Nat) :=
  clampedSlots (fun d => excess (s.pieces d) (atSlot good d))

def shortSlots (good : List Nat) (s : State) : List (Nat × Nat) :=
  clampedSlots (fun d => shortfall (s.pieces d) (atSlot good d))

/-- A clamp raises POSITION_LIMIT (R119). -/
def limitAlarm (c : List (Nat × Nat)) (s : State) : State := if c.isEmpty then s else raiseAlarm .positionLimit s

/-! ### Float levels (R122 to R127) -/

/-- The largest multiple of a unit not above a count. -/
def wholeUnits (unit n : Nat) : Nat := n / unit * unit

/-- The smallest multiple of a unit not below a count. -/
def roundUpUnits (unit n : Nat) : Nat := (n + (unit - 1)) / unit * unit

def isNote (cfg : Settings) (d : Nat) : Bool := cfg.inUse d && (cfg.denom d).kind == .note

/-- k_d: whole straps of a NOTE slot above target (R123). -/
def pickupPieces (cfg : Settings) (d p : Nat) : Nat :=
  if isNote cfg d then wholeUnits (cfg.denom d).unit (p - (cfg.floatSlot d).target) else 0

/-- A slot in use is monitored when its change level is above 0 (R120, R125). -/
def monitored (cfg : Settings) (d : Nat) : Bool := cfg.inUse d && (cfg.floatSlot d).change != 0

/-- q_d: pieces short of target in whole units, limited to the headroom (R125). -/
def topupPieces (cfg : Settings) (d p : Nat) : Nat :=
  let u := (cfg.denom d).unit
  if monitored cfg d then
    min (roundUpUnits u ((cfg.floatSlot d).target - p)) (wholeUnits u (Config.countMax - p))
  else 0

/-- The pairs (d, f d) with f d above 0, in slot order. -/
def listed (f : Nat → Nat) : Composition := slots.filterMap (fun d => if f d = 0 then none else some (d, f d))

/-- The slot of highest face value in a composition; between equal ones the lower slot (R126). -/
def dearest (cfg : Settings) : Composition → Option Nat
  | [] => none
  | p :: c =>
    match dearest cfg c with
    | none => some p.1
    | some d => if cfg.face p.1 > cfg.face d || (cfg.face p.1 == cfg.face d && p.1 < d) then some p.1 else some d

/-- Take one unit of a slot out of a composition; a slot left with none leaves the list (R126). -/
def takeUnit (cfg : Settings) (d : Nat) (c : Composition) : Composition :=
  (c.map (fun p => if p.1 == d then (p.1, p.2 - (cfg.denom d).unit) else p)).filter (fun p => p.2 != 0)

/-- Trim unit by unit until the value is at or below the cap (R126). -/
def trim (cfg : Settings) (cap : Nat) : (fuel : Nat) → Composition → Composition
  | 0, c => c
  | n + 1, c =>
    if cfg.valueOf c ≤ cap then c
    else
      match dearest cfg c with
      | none => c
      | some d => trim cfg cap n (takeUnit cfg d c)

/-- The units of a composition: no trim takes more steps. -/
def unitCount (cfg : Settings) (c : Composition) : Nat := (c.map (fun p => p.2 / (cfg.denom p.1).unit + 1)).sum

/-- The top-up composition after the cap (R126). -/
def capComposition (cfg : Settings) (c : Composition) : Composition :=
  if cfg.topupCap = 0 then c else trim cfg cfg.topupCap (unitCount cfg c) c

/-- The pickup level of a NOTE slot is reached (R124). -/
def pickupLevelReached (cfg : Settings) (d p : Nat) : Bool :=
  isNote cfg d && (cfg.floatSlot d).pickup != 0 && (cfg.floatSlot d).pickup ≤ p

/-- The low slots: monitored with p_d at or below the change level (R122). -/
def isLow (cfg : Settings) (d p : Nat) : Bool := monitored cfg d && p ≤ (cfg.floatSlot d).change

/-- The Float State of a position (R122 to R127). -/
def floatStateOf (role : Option Role) (cfg : Settings) (pieces : Nat → Nat) : FloatState :=
  let pickup := listed (fun d => pickupPieces cfg d (pieces d))
  let value := cfg.valueOf pickup
  let uncapped := listed (fun d => topupPieces cfg d (pieces d))
  let topup := capComposition cfg uncapped
  let q := cfg.valueOf topup
  let low := slots.filter (fun d => isLow cfg d (pieces d))
  { pickup := pickup, pickupValue := value, uncapped := uncapped, uncappedValue := cfg.valueOf uncapped,
    topup := topup, topupValue := q, low := low,
    urgent := slots.any (fun d => monitored cfg d && pieces d == 0),
    pickupNeed := role == some .till && value != 0 &&
      ((cfg.pickupTrigger != 0 && cfg.pickupTrigger ≤ value)
        || slots.any (fun d => pickupLevelReached cfg d (pieces d))),
    topupNeed := role == some .till && !low.isEmpty && q != 0,
    changeNeed := role == some .desk && !low.isEmpty && q != 0,
    capped := !low.isEmpty && cfg.valueOf uncapped != 0 && q == 0 }

/-- No Own Request of the kind exists (R129). -/
def State.noRequestOf (s : State) (k : NeedKind) : Bool := s.service.requests.all (fun r => r.kind != k)

/-- A raise is handed when the need holds, auto-raise is on and no request of the kind exists (R129). -/
def autoRaise (holds on : Bool) (k : NeedKind) (u : Urgency) (c : Composition) (v : Nat) (s : State) : State :=
  if holds && on && s.noRequestOf k then handRaise k u c v s else s

/-- The raises of one evaluation, PICKUP first (R129). -/
def autoRaises (s : State) : State :=
  let f := s.position.float
  let u : Urgency := if f.urgent then .urgent else .normal
  if joiningOrJoined s.member.state then
    autoRaise f.changeNeed s.cfg.autoChange .change u f.topup f.topupValue
      (autoRaise f.topupNeed s.cfg.autoTopup .topup u f.topup f.topupValue
        (autoRaise f.pickupNeed s.cfg.autoPickup .pickup .normal f.pickup f.pickupValue s))
  else s

def setFloatState (f : FloatState) (s : State) : State := { s with position := { s.position with float := f } }

/-- TOPUP_CAPPED: a TILL's or DESK's evaluation sets the capped mark that the previous one had left clear (R127). A start leaves the
mark clear, so the first evaluation after it may raise again (DEDUCED, log 21; unsafe). -/
def cappedNews (role : Option Role) (before after : FloatState) : Bool :=
  (role == some .till || role == some .desk) && after.capped && !before.capped

/-- An evaluation of the float levels (R122). -/
def evaluate (s : State) : State :=
  let f := floatStateOf s.unit.role s.cfg s.pieces
  autoRaises (raiseIf (cappedNews s.unit.role s.position.float f) .topupCapped (setFloatState f s))

end Sys2Proof.Machine
end

