-- ==== Sys2Proof/Machine/Books.lean ====
section
/-! DEFINITION. Family: requests on the books alone (R11 to R18): MAKE_UP, DISMANTLE, ACCEPT_VARIANCE, DAY_CLOSE. -/

namespace Sys2Proof.Machine

/-! ### MAKE_UP (R11) -/

/-- The record of a container that comes into being at this station: HELD, never offered, not disputed, not counted
(R2 to R4). -/
def freshContainer (tag : Nat) (cls : ContainerClass) (origin value : Nat) (comp : Option Composition) : Container :=
  { tag := tag, cls := cls, state := .held, origin := origin, value := value, disputed := false, handovers := 0,
    lastResult := .none, comp := comp, counted := none, handover := none, deferred := none, nesting := none, sack := none,
    refusal := none, recallEnds := none, overdueAlarm := false }

/-- The position holds every count of a composition. -/
def State.covers (s : State) (c : Composition) : Bool := c.all (fun p => p.2 ≤ s.pieces p.1)

/-- A composition taken from the position counts. -/
def takeComp (c : Composition) (s : State) : State := setCounts (s.position.counts.mapIdx (fun d p => p - compAt c d)) s

/-- A composition added to the position counts. -/
def addComp (c : Composition) (s : State) : State := setCounts (s.position.counts.mapIdx (fun d p => p + compAt c d)) s

/-- The effect of an accepted MAKE_UP. -/
def makeUpAccepted (f : MakeUpFields) (c : ContainerClass) (s : State) : State :=
  answer .ok []
    (evaluate (appendContainer (freshContainer f.tag c s.own (s.cfg.valueOf f.comp) (some f.comp)) (takeComp f.comp s)))

/-- The checks of a MAKE_UP after its form. -/
def makeUpChecked (f : MakeUpFields) (c : ContainerClass) (s : State) : State :=
  if !canMakeUp s.unit.role c then refuse .classNotAllowed s
  else if s.tagKnown f.tag then refuse .duplicateTag s
  else if s.tableFull then refuse .tableFull s
  else if !s.covers f.comp then refuse .insufficient s
  else makeUpAccepted f c s

def makeUp (f : MakeUpFields) (s : State) : State :=
  if s.member.state = .unconfigured then refuse .badState s
  else if f.tag = 0 ∨ compRequired f.comp = false then refuse .badLength s
  else
    match classOfCode f.cls with
    | none => refuse .badLength s
    | some c => makeUpChecked f c s

def execMakeUp (b : Body MakeUpFields) (s : State) : Host.Outcome State Fault Refusal := request b s makeUp

/-! ### DISMANTLE (R12) -/

/-- Each slot of a composition takes its count without passing 65535. -/
def State.roomFor (s : State) (c : Composition) : Bool := c.all (fun p => s.pieces p.1 + p.2 ≤ Config.countMax)

def dismantleAccepted (tag : Nat) (comp : Composition) (s : State) : State :=
  answer .ok [] (evaluate (removeContainer tag (addComp comp s)))

def dismantleFound (c : Container) (s : State) : State :=
  if c.cls = .courierSack then refuse .classNotAllowed s
  else if c.state ≠ .held then refuse .badState s
  else if c.disputed then refuse .disputed s
  else if c.origin ≠ s.own ∨ c.handovers ≠ 0 then refuse .badState s
  else
    match c.comp with
    | none => refuse .badState s
    | some comp => if s.roomFor comp then dismantleAccepted c.tag comp s else refuse .limit s

def dismantle (tag : Nat) (s : State) : State :=
  if s.member.state = .unconfigured then refuse .badState s
  else
    match s.container? tag with
    | none => refuse .notFound s
    | some c => dismantleFound c s

def execDismantle (b : Body Nat) (s : State) : Host.Outcome State Fault Refusal := request b s dismantle

/-! ### ACCEPT_VARIANCE (R13) -/

/-- The counted composition as a declaration: absent when it is absent or empty. -/
def declaredFrom (g : CountedGroup) : Option Composition :=
  match g.comp with
  | none => none
  | some [] => none
  | some (p :: c) => some (p :: c)

/-- The count becomes the declaration. -/
def acceptedCount (g : CountedGroup) (c : Container) : Container :=
  { c with value := g.value, comp := declaredFrom g, disputed := false }

def acceptVarianceAccepted (c : Container) (g : CountedGroup) (s : State) : State :=
  answer .ok [] (updateContainer c.tag (acceptedCount g) (changeTotal .difference (varianceOf g.value c.value) s))

/-- A disputed container always carries a counted group (R3); one without, which no run reaches, is refused (log 24; safe). -/
def acceptVarianceFound (c : Container) (s : State) : State :=
  if c.state ≠ .held ∨ c.disputed = false then refuse .badState s
  else
    match c.counted with
    | none => refuse .badState s
    | some g => acceptVarianceAccepted c g s

def acceptVariance (tag : Nat) (s : State) : State :=
  if s.member.state = .unconfigured then refuse .badState s
  else
    match s.container? tag with
    | none => refuse .notFound s
    | some c => acceptVarianceFound c s

def execAcceptVariance (b : Body Nat) (s : State) : Host.Outcome State Fault Refusal := request b s acceptVariance

/-! ### DAY_CLOSE (R16, R17) -/

/-- The day number goes up by 1; past 65535 it goes to 1. -/
def nextDay (n : Nat) : Nat := if 65535 ≤ n then 1 else n + 1

/-- The Day Totals record a DAY_CLOSE writes. -/
def State.dayRecord (s : State) : DayTotals :=
  { day := nextDay s.custody.day.day, totals := s.custody.totals, accountable := s.accountable,
    saturated := s.custody.saturated }

/-- Steps 1 to 4 of R16. -/
def closeDay (s : State) : State :=
  let t := { s with custody := { s.custody with day := s.dayRecord, totals := { zeroTotals with opening := s.accountable },
                                                saturated := false } }
  if s.custody.saturated then alarmFrame .totalsSaturated .cleared 0 t else t

def dayClose (s : State) : State :=
  if s.member.state = .unconfigured ∨ s.count.state.sessionOpen then refuse .badState s
  else answer .ok [] (closeDay s)

def execDayClose (b : Body Unit) (s : State) : Host.Outcome State Fault Refusal := request b s (fun _ => dayClose)

end Sys2Proof.Machine
end

