-- ==== Sys2Proof/Machine/HandoverOps.lean ====
section
/-! DEFINITION. The exchanges of the handover engine that requests, reports, frames and timers share: making an offer (R65),
its report (R66), the report of a TAKEN and the entry of a container (R72), queries (R73), releases (R71), the deferred offer
at a session close (R84); and the report of a CLAIM (R145). -/

namespace Sys2Proof.Machine

/-! ### Offers -/

/-- The handover counter advances by 1; after 65535 it goes to 1 (R62). -/
def nextCounter (n : Nat) : Nat := if 65535 ≤ n then 1 else n + 1

/-- Handovers counts stop at 255 (R4). -/
def moreHandovers (n : Nat) : Nat := min 255 (n + 1)

/-- The receiver's entry is LIVE or QUIET with its role recorded (R64). -/
def peerReachable (e : PeerEntry) : Bool := (e.state == .live || e.state == .quiet) && e.role.isSome

/-- The container as an accepted offer leaves it (R4, R65); the refusal window closes as it leaves HELD (R66). -/
def offered (s : State) (receiver purpose : Nat) (c : Container) : Container :=
  { c with
    state := .offering, handovers := moreHandovers c.handovers, refusal := none,
    handover := some { peer := receiver, number := s.handoverCounter, deadline := s.clock + s.cfg.transitSteps c.cls,
                       purpose := purpose } }

/-- The OFFER frame of a container; the remaining transit time is filled in when it goes on the line (R65). -/
def offerPayload (role : Role) (c : Container) (h : HandoverFields) : OfferPayload :=
  { role := role, number := h.number, tag := c.tag, cls := c.cls, value := c.value,
    counted := c.counted.map (·.value), origin := c.origin, purpose := h.purpose, remaining := 0, comp := c.comp }

/-- The records of an accepted offer, before its frame is placed (R62, R65). -/
def recordOffer (c : Container) (receiver purpose : Nat) (s : State) : State :=
  toldOffer true receiver purpose c.tag
    { updateContainer c.tag (offered s receiver purpose) s with handoverCounter := nextCounter s.handoverCounter }

/-- The OFFER payload of a container offered in this state; a station whose role is invalid never offers. -/
def offerFrame (c : Container) (receiver purpose : Nat) (s : State) : Payload :=
  let h : HandoverFields := { peer := receiver, number := s.handoverCounter, deadline := 0, purpose := purpose }
  .offer (offerPayload (s.unit.role.getD .till) c h)

/-- The report of an OFFER frame (R66). -/
def offerReported (tag number : Nat) (acknowledged : Bool) (s : State) : State :=
  match s.container? tag with
  | none => s
  | some c =>
    match c.state, c.handover with
    | .offering, some h =>
      if h.number ≠ number then s
      else if acknowledged then
        let t := raiseResult tag .giver .outbound (updateContainer tag (fun c => { c with state := .outbound }) s)
        if h.deadline ≤ s.clock then becomeOverdue c t else t
      else
        let t := updateContainer tag (fun c =>
          { c with
            state := .held, handover := none, lastResult := .noAnswer,
            refusal := some { receiver := h.peer, number := h.number, closes := s.clock + Config.refusalWindow } }) s
        raiseResult tag .giver .noAnswer (toldSetback true tag t)
    | _, _ => s

/-- An accepted OFFER request: the frame joins as a port frame (R65). -/
def makeOffer (c : Container) (receiver purpose : Nat) (s : State) : State :=
  enqueue true receiver (offerFrame c receiver purpose s) (recordOffer c receiver purpose s)

/-- An offer made at the close of a session: the frame is a chip frame, and one dropped from a full queue meets R66 as an
unacknowledged report (R84). -/
def makeChipOffer (c : Container) (receiver purpose : Nat) (s : State) : State :=
  let number := s.handoverCounter
  let frame := offerFrame c receiver purpose s
  let t := recordOffer c receiver purpose s
  if t.chipJoins then enqueue false receiver frame t
  else offerReported c.tag number false (chipFrame receiver frame t)

/-- The offer checks of R64 after the state check, and the station state of R62, at a session close (R84, R95). -/
def deferredAllowed (s : State) (c : Container) (d : DeferredOffer) : Bool :=
  joiningOrJoined s.member.state && !c.disputed && peerReachable (s.peer d.peer)
    && routed s.unit.role (s.peer d.peer).role c.cls

/-- A deferred offer is dropped: REFUSED with COUNT_BLOCKED (R84). -/
def dropDeferred (tag : Nat) (s : State) : State :=
  raiseResult tag .giver (.refused .countBlocked)
    (updateContainer tag (fun c => { c with lastResult := .refused .countBlocked }) s)

/-- At the close of a session the deferred offer leaves the record and is made or dropped; `undamaged` marks a RECOUNT that
ended undamaged (R84). -/
def settleDeferred (tag : Nat) (undamaged : Bool) (s : State) : State :=
  match s.container? tag with
  | none => s
  | some c =>
    match c.deferred with
    | none => s
    | some d =>
      let t := updateContainer tag (fun c => { c with deferred := none }) s
      if undamaged && deferredAllowed s c d then makeChipOffer { c with deferred := none } d.peer d.purpose t
      else dropDeferred tag t

/-! ### Queries -/

def clearQuery (e : InboundEntry) : InboundEntry := { e with queryPending := false, queryWaitEnds := none }

/-- The query pending mark is cleared with QUERY_UNANSWERED; an UNSURE entry whose giver is UNKNOWN or GONE becomes
UNRESOLVED (R73). -/
def queryUnanswered (e : InboundEntry) (s : State) : State :=
  let t := raise .queryUnanswered (updateInbound e.tag clearQuery s)
  let p := (s.peer e.giver).state
  if e.state == .unsure && (p == .unknown || p == .gone) then becomeUnresolved e t else t

/-- The report of a QUERY frame (R73); an entry that has given up its number meanwhile is found by its tag (logs 17 and 19). -/
def queryReported (tag number : Nat) (acknowledged : Bool) (s : State) : State :=
  match s.inbound? tag with
  | none => s
  | some e =>
    if e.queryPending && (e.number == number || e.number == 0) then
      if acknowledged then
        updateInbound tag (fun e => { e with queryWaitEnds := some (s.clock + Config.queryWait) }) s
      else queryUnanswered e s
    else s

def queryPayload (e : InboundEntry) : Payload := .query { tag := e.tag, number := e.number }

/-! ### Entry of a container (R2, R3, R72, R113) -/

/-- The carried composition enters when its value with this station's face values equals the carried declared value (R2). -/
def enteringComp (cfg : Settings) (e : InboundEntry) : Option Composition :=
  match e.comp with
  | none => none
  | some c => if compProper c && cfg.valueOf c == e.value then some c else none

/-- The counted group of a container that enters with a counted value (R3, R113). -/
def enteringGroup (cfg : Settings) (e : InboundEntry) : Option CountedGroup :=
  e.counted.map (fun v =>
    { value := v, comp := none, suspect := 0, variance := varianceOf v e.value, cls := cfg.classify v e.value })

/-- The record of a container that enters by handover (R72). A composition that is improper, or is not worth the declared value,
does not enter (DEDUCED, log 19; unsafe). -/
def enteringContainer (cfg : Settings) (e : InboundEntry) : Container :=
  { tag := e.tag, cls := e.cls, state := .held, origin := e.origin, value := e.value,
    disputed := match e.counted with
      | none => false
      | some v => disputes (cfg.classify v e.value),
    handovers := 1, lastResult := .taken, comp := enteringComp cfg e, counted := enteringGroup cfg e, handover := none,
    deferred := none, nesting := none, sack := none, refusal := none, recallEnds := none, overdueAlarm := false }

/-- The container of an entry enters the Custody Table (R72). -/
def completeEntry (e : InboundEntry) (s : State) : State :=
  raiseResult e.tag .receiver (.taken false)
    (toldEntry e
      (removeInbound e.tag
        (changeTotal .received e.value (appendContainer (enteringContainer s.cfg e) s))))

/-- The report of a TAKEN frame (R72); an absent acknowledge makes the entry UNSURE and queues a QUERY. -/
def takenReported (tag : Nat) (acknowledged : Bool) (s : State) : State :=
  match s.inbound? tag with
  | none => s
  | some e =>
    if e.state ≠ .taking then s
    else if acknowledged then completeEntry e s
    else
      let u : InboundEntry := { e with state := .unsure, queryPending := true, queryWaitEnds := none }
      let t := updateInbound tag (fun e => { e with state := .unsure, queryPending := true, queryWaitEnds := none }) s
      if t.chipJoins then enqueue false e.giver (queryPayload e) t
      else queryUnanswered u (chipFrame e.giver (queryPayload e) t)

/-! ### Release (R71) -/

/-- The last 16 releases (R10). -/
def keepLast (n : Nat) (l : List α) : List α := l.drop (l.length - n)

/-- The giver releases a container on a TAKEN (R71). R71 lists the released total before the clearing of an OVERDUE
alarm, so a total that saturates places its ALARM while that instance is still set and can be its active kind (DEDUCED, log 29;
unsafe). -/
def releaseContainer (c : Container) (h : HandoverFields) (s : State) : State :=
  let t := removeContainer c.tag (changeTotal .released c.value s)
  let entry : ReleaseEntry := { tag := c.tag, receiver := h.peer, number := h.number, value := c.value }
  let u := { t with custody := { t.custody with releases := keepLast Config.releaseCap (t.custody.releases ++ [entry]) } }
  raiseResult c.tag .giver (.taken (c.state == .overdue))
    (toldRelease c.tag h.peer h.purpose (overdueCleared c u))

/-- The container as it returns to HELD out of a handover (R79, R81). -/
def returned (result : LastResult) (c : Container) : Container :=
  { c with state := .held, handover := none, recallEnds := none, overdueAlarm := false, lastResult := result }

/-- A container in transit returns to HELD with a result: the recall timer stops, its OVERDUE alarm clears, the service unit
is told and HANDOVER_RESULT is raised (R79, R81). -/
def returnToHeld (c : Container) (result : LastResult) (note : NoteOutcome) (s : State) : State :=
  raiseResult c.tag .giver note
    (toldSetback true c.tag (overdueCleared c (updateContainer c.tag (returned result) s)))

/-! ### Reports (R36) -/

/-- The report of a CLAIM frame (R145). -/
def claimReported (requester id : Nat) (acknowledged : Bool) (s : State) : State :=
  match s.service? requester id with
  | none => s
  | some e =>
    if e.state ≠ .claiming then s
    else if acknowledged then raise .claimWon (updateService requester id (fun e => { e with state := .won }) s)
    else raise .claimLost (removeService requester id s)

/-- The one report of a frame to the block that asked for it; the blocks of the other kinds ignore it or proceed
(R35, R36). -/
def report (f : QueuedFrame) (acknowledged : Bool) (s : State) : State :=
  match f.payload with
  | .offer p => offerReported p.tag p.number acknowledged s
  | .taken p => takenReported p.tag acknowledged s
  | .query p => queryReported p.tag p.number acknowledged s
  | .claim p => claimReported f.target p.id acknowledged s
  | .alarm _ => s
  | .recallOk _ => s
  | .refuse _ => s
  | .answer _ => s
  | .recall _ => s
  | .award _ => s
  | .need _ => s
  | .withdraw _ => s
  | .announce _ => s
  | .conflict _ => s
  | .beacon _ => s

/-- Empty the queue with reports, in queue order (R40). -/
def emptyQueue (s : State) : State :=
  s.loop.queue.foldl (fun t f => report f false t) (setQueue [] s)

end Sys2Proof.Machine
end

