-- ==== Sys2Proof/Machine/MembershipOps.lean ====
section
/-! DEFINITION. Changes of the station state (chapter 3, R40, R42) and what the membership unit makes of an intact frame
(R28, R50, R52, R53, R59, R60). -/

namespace Sys2Proof.Machine

/-! ### Changes of station state -/

/-- Loop activity that a change of station state ends: frames ready and a frame on the line (R40). -/
def quietLoop (s : State) : State :=
  { s with loop := { s.loop with beaconReady := false, announceReady := false, conflictReady := none, sending := none } }

/-- The membership record in a new state with every join, beacon and rejoin timer stopped. -/
def stationAt (st : StationState) (m : Membership) : Membership :=
  { m with state := st, listeningEnds := none, announceWaitEnds := none, beaconDue := none, withdrawnAt := none }

/-- The station stops driving the acknowledge slot (R33, R34, R54, R55). -/
def releaseSlot (s : State) : State := { s with loop := { s.loop with slotDriven := false } }

/-- Enter DUPLICATE: the acknowledge slot is no longer driven, the record is written, the alarm raised, the queue emptied with
reports (R40, R54). -/
def enterDuplicate (cause : DuplicateCause) (serial : Option (BitVec 32)) (s : State) : State :=
  let m := { stationAt .duplicate s.member with duplicate := some { cause := cause, time := s.clock, serial := serial } }
  emptyQueue (raiseAlarm .duplicateStation (releaseSlot (quietLoop { s with member := m })))

/-- Enter STOPPED: the acknowledge slot is no longer driven, the queue is emptied with reports, then the Service List is
emptied (R40, R55, R142). -/
def enterStopped (s : State) : State :=
  setServiceList [] (emptyQueue (releaseSlot (quietLoop { s with member := stationAt .stopped s.member })))

/-- Enter WITHDRAWN: the acknowledge slot is no longer driven, a ready BEACON or CONFLICT is discarded, the queue is held
(R33, R40, R42). -/
def enterWithdrawn (s : State) : State :=
  raise .loopWithdrawn
    (releaseSlot <| quietLoop { s with member := { stationAt .withdrawn s.member with withdrawnAt := some s.clock } })

/-- Enter ANNOUNCING with an ANNOUNCE ready (R50, R51). -/
def enterAnnouncing (s : State) : State :=
  let t := quietLoop { s with member := stationAt .announcing s.member }
  { t with loop := { t.loop with announceReady := true } }

/-- Leave WITHDRAWN for ANNOUNCING with fault score 0 (R43). -/
def rejoinLoop (s : State) : State :=
  let t := enterAnnouncing s
  { t with loop := { t.loop with faultScore := 0 } }

/-- One ALARM with action RAISED for each alarm instance set, in the alarm order (R171). -/
def alarmInstances (s : State) : List (AlarmKind × Nat) :=
  (if s.alarmSet .duplicateStation then [(.duplicateStation, 0)] else [])
    ++ (s.custody.table.filter (·.overdueAlarm)).map (fun c => (.overdue, c.tag))
    ++ (s.custody.inbound.filter (fun e => e.state == .unresolved)).map (fun e => (.unresolved, e.tag))
    ++ (if s.alarmSet .totalsSaturated then [(.totalsSaturated, 0)] else [])
    ++ (if s.alarmSet .positionLimit then [(.positionLimit, 0)] else [])
    ++ (if s.alarmSet .doorHeld then [(.doorHeld, 0)] else [])
    ++ (if s.alarmSet .doorUnexpected then [(.doorUnexpected, 0)] else [])

def resendAlarms (s : State) : State :=
  (alarmInstances s).foldl (fun t a => alarmFrame a.1 .raised a.2 t) s

/-- Reach ON_LOOP: first BEACON ready, beacon timer started, the queue released, the service unit and the alarm block told
(R52, R56, R134, R171). The NEEDs join the queue before the ALARMs (DESIGN CHOICE, log 20; unsafe). -/
def enterOnLoop (s : State) : State :=
  let m := { stationAt .onLoop s.member with beaconDue := some (s.clock + beaconPeriod s.member.mInForce) }
  let t := quietLoop { s with member := m }
  resendAlarms (resendNeeds { t with loop := { t.loop with beaconReady := true } })

/-! ### Hearing a frame -/

/-- An intact frame is arriving, so a frame this station was contending with has lost the line; it stays where it was
(R30). -/
def lineTaken (s : State) : State :=
  { s with loop := { s.loop with sending := none, slotDriven := false,
                                 queue := s.loop.queue.map (fun f => { f with onLine := false }) } }

def driveSlot (s : State) : State := { s with loop := { s.loop with slotDriven := true } }

/-- The sender's entry after a frame (R59); a BEACON with ALARM_ACTIVE clear removes the alarm kind (R173). R58 gives m as 0 to
15, R178 calls no m malformed: one above 15 is taken and recorded as carried, for a period of 250 ms x (1 + m) (DEDUCED, log 19;
unsafe). -/
def heardEntry (p : Payload) (e : PeerEntry) : PeerEntry :=
  let live : PeerEntry := { e with state := .live, silence := 0 }
  match p with
  | .beacon b =>
    { live with role := some b.role, m := some b.m,
                summary := some { flags := b.flags, custodyCount := b.custodyCount, outbound := b.outbound,
                                  openRequests := b.openRequests },
                alarm := if b.flags.alarmActive then e.alarm else none }
  | .announce a => { live with role := some a.role, m := some a.m, serial := some a.serial, summary := none }
  | _ => live

def isAnnounce : Payload → Bool
  | .announce _ => true
  | _ => false

/-- An arrival: UNKNOWN or GONE to LIVE, or an ANNOUNCE of a LIVE or QUIET peer (R59). -/
def arrives (p : Payload) (e : PeerEntry) : Bool :=
  e.state == .unknown || e.state == .gone || isAnnounce p

/-- Membership tracking of a frame from a peer (R59). -/
def trackPeer (f : Frame) (s : State) : State :=
  let before := s.peer f.sender
  let after := heardEntry f.payload before
  let t := setPeer f.sender after s
  if arrives f.payload before then serverArrives after.role (raise .peerChange t) else t

/-- What the membership unit makes of an intact frame under the station's own number (R50, R52, R53); in DUPLICATE and
WITHDRAWN no rule gives it anything to do. In ANNOUNCING, a CONFLICT from the own number
addressed to another number is neither of the two cases of R52: the model takes it as any other frame of the own number, with
HEARD_WHILE_ANNOUNCING and no serial (DEDUCED, log 18; unsafe). -/
def ownNumberHeard (f : Frame) (s : State) : State :=
  match s.member.state with
  | .listening => enterDuplicate .heardWhileListening none s
  | .announcing =>
    match f.payload with
    | .conflict p =>
      if f.target = s.own then driveSlot (enterDuplicate .conflictReceived (some p.serial) s)
      else enterDuplicate .heardWhileAnnouncing none s
    | .announce p => enterDuplicate .heardWhileAnnouncing (some p.serial) s
    | _ => enterDuplicate .heardWhileAnnouncing none s
  | .onLoop =>
    match f.payload with
    | .announce p =>
      if p.serial = s.unit.serial then raiseAlarm .duplicateStation s
      else driveSlot { s with loop := { s.loop with conflictReady := some p.serial } }
    | _ => raiseAlarm .duplicateStation s
  | .unconfigured => s
  | .stopped => s
  | .duplicate => s
  | .withdrawn => s

/-- The targets that match the station (R28). -/
def State.targeted (s : State) (target : Nat) : Bool :=
  target == 0 || (target != 0 && target == s.own)
    || (target == 57 && s.unit.role == some .till)
    || (target == 58 && s.unit.role == some .desk)
    || (target == 59 && s.unit.role == some .safe)

/-- The kinds delivered to their owning block in each station state (R33). -/
def deliveredIn (st : StationState) (p : Payload) : Bool :=
  match st with
  | .unconfigured => false
  | .stopped => false
  | .onLoop => true
  | .announcing =>
    match p with
    | .announce _ => true | .conflict _ => true | .beacon _ => true | .alarm _ => true
    | _ => false
  | .listening =>
    match p with
    | .announce _ => true | .beacon _ => true | .alarm _ => true
    | _ => false
  | .duplicate =>
    match p with
    | .announce _ => true | .beacon _ => true | .alarm _ => true
    | _ => false
  | .withdrawn =>
    match p with
    | .beacon _ => true | .announce _ => true | .alarm _ => true | .need _ => true | .withdraw _ => true | .award _ => true
    | _ => false

/-- The states and kinds for which the acknowledge slot may be driven (R33, R34). -/
def acknowledgedIn (st : StationState) (p : Payload) : Bool :=
  match st with
  | .onLoop => true
  | .announcing =>
    match p with
    | .announce _ => true | .conflict _ => true
    | _ => false
  | _ => false

/-- A peer's silence reaches a limit while its entry is LIVE or QUIET: two periods for QUIET, eight for GONE (R60). -/
def peerPeriod (e : PeerEntry) : Nat := beaconPeriod (e.m.getD 3)

/-- The departure of a peer (R60): PEER_CHANGE, its alarm kind cleared, the service unit told. -/
def peerDeparts (n : Nat) (s : State) : State :=
  let e := s.peer n
  requesterDeparts n (claimantDeparts n
    (raise .peerChange (setPeer n { e with state := .gone, alarm := none } s)))

end Sys2Proof.Machine
end

