-- ==== Sys2Proof/Machine/LoopSend.lean ====
section
/-! DEFINITION. Family: sending on the loop (R29 to R31, R36 to R42, R51, R57). FRAME_SEND_START, ANNOUNCE_LOST_SERIAL,
READ_BACK_FAULT, FRAME_SENT, OFFER_REPORT, TAKEN_REPORT, QUERY_REPORT, CLAIM_REPORT, ANNOUNCE_COMPLETED. -/

namespace Sys2Proof.Machine

/-! ### What is sent -/

/-- Own Requests in OPEN (R57, R132). -/
def State.openCount (s : State) : Nat := (s.service.requests.filter (fun r => r.phase == .opened)).length

/-- The flags of a BEACON; a flag of another role is clear (R57). -/
def State.beaconFlags (s : State) : BeaconFlags :=
  { pickupNeed := s.unit.role == some .till && s.position.float.pickupNeed,
    topupNeed := s.unit.role == some .till && s.position.float.topupNeed,
    changeNeed := s.unit.role == some .desk && s.position.float.changeNeed,
    windowOpen := s.unit.role == some .safe && s.safe.window.isSome,
    alarmActive := s.anyAlarm,
    countBusy := s.count.state.sessionOpen }

/-- The contents of a BEACON that goes on the line now (R57); a station whose role is invalid never sends one. -/
def State.beacon (s : State) : BeaconPayload :=
  { role := s.unit.role.getD .till, stationCode := stationStateCode .onLoop, m := s.member.mInForce, flags := s.beaconFlags,
    custodyCount := s.custodyCount, outbound := s.outboundCount, openRequests := s.openCount }

/-- The ANNOUNCE of the station (R51). -/
def State.announce (s : State) : AnnouncePayload :=
  { serial := s.unit.serial, role := s.unit.role.getD .till, m := s.member.mInForce }

/-- A queued payload as it goes on the line: the remaining transit time of an OFFER (R65), number and value of a TAKEN
(R68); every other frame as it joined (R37). -/
def State.freshPayload (s : State) (p : Payload) : Payload :=
  match p with
  | .offer o =>
    match (s.container? o.tag).bind (·.handover) with
    | none => p
    | some h => .offer { o with remaining := minutesLeft s.clock h.deadline }
  | .taken t =>
    match s.inbound? t.tag with
    | none => p
    | some e => .taken { t with number := e.number, value := e.value }
  | _ => p

/-- Put a frame on the line. -/
def sendFrame (target : Nat) (p : Payload) (s : State) : State :=
  { s with loop := { s.loop with sending := some { sender := s.own, target := target, payload := p } } }

/-- No queued frame is on the line. -/
def idleQueue (q : List QueuedFrame) : List QueuedFrame := q.map (fun f => { f with onLine := false })

/-- The queue head goes on the line with its contents of this moment. -/
def sendHead (f : QueuedFrame) (rest : List QueuedFrame) (s : State) : State :=
  let p := s.freshPayload f.payload
  sendFrame f.target p (setQueue ({ f with payload := p, onLine := true } :: idleQueue rest) s)

/-- The frame with which an ON_LOOP station contends: the queue head, then a CONFLICT, then a BEACON (R39). -/
def sendOnLoop (s : State) : State :=
  match s.loop.queue with
  | f :: rest => sendHead f rest s
  | [] =>
    match s.loop.conflictReady with
    | some answered => sendFrame s.own (.conflict { serial := s.unit.serial, answered := answered }) s
    | none => if s.loop.beaconReady then sendFrame 0 (.beacon s.beacon) s else s

/-- FRAME_SEND_START by station state (R33, R39). -/
def frameSendStart (s : State) : State :=
  match s.member.state with
  | .onLoop => sendOnLoop s
  | .announcing => if s.loop.announceReady then sendFrame 0 (.announce s.announce) s else s
  | .unconfigured => s
  | .stopped => s
  | .listening => s
  | .duplicate => s
  | .withdrawn => s

def execFrameSendStart (s : State) : Host.Outcome State Fault Refusal := event s frameSendStart

/-! ### How a frame ends -/

/-- The queued frame that is on the line. -/
def State.lineFrame (s : State) : Option QueuedFrame := s.loop.queue.find? (·.onLine)

/-- The frame has left the line, the queue and the frames ready (R36, R37, R39). -/
def leaveLine (p : Payload) (s : State) : State :=
  let l := { s.loop with sending := none, queue := s.loop.queue.filter (fun f => !f.onLine) }
  match p with
  | .beacon _ => { s with loop := { l with beaconReady := false } }
  | .announce _ => { s with loop := { l with announceReady := false } }
  | .conflict _ => { s with loop := { l with conflictReady := none } }
  | _ => { s with loop := l }

/-- The report of a queued frame to its block; the unqueued kinds have none that acts. -/
def reportLine (q : Option QueuedFrame) (acknowledged : Bool) (s : State) : State :=
  match q with
  | none => s
  | some f => report f acknowledged s

def setScore (n : Nat) (s : State) : State := { s with loop := { s.loop with faultScore := n } }

/-- The announce wait starts when an ANNOUNCE has been sent cleanly (R51). -/
def startWait (p : Payload) (s : State) : State :=
  if isAnnounce p then
    { s with member := { s.member with announceWaitEnds := some (s.clock + Config.announceWait) } }
  else s

/-- A frame sent cleanly to the end of its check and slot (R36, R41). -/
def finishFrame (f : Frame) (acknowledged : Bool) (s : State) : State :=
  reportLine s.lineFrame acknowledged
    (startWait f.payload (setScore (s.loop.faultScore - 1) (leaveLine f.payload s)))

/-- The clean end of the frame on the line, when it is of a kind. The report commands of a kind are FRAME_SENT for that kind, and
change nothing when another frame, or none, is on the line (DEDUCED, log 17; safe). -/
def sentOf (kind : Payload → Bool) (acknowledged : Bool) (s : State) : State :=
  match s.loop.sending with
  | none => s
  | some f => if kind f.payload then finishFrame f acknowledged s else s

def execFrameSent (acknowledged : Bool) (s : State) : Host.Outcome State Fault Refusal :=
  event s (sentOf (fun _ => true) acknowledged)

def isOffer : Payload → Bool
  | .offer _ => true
  | _ => false

def isTaken : Payload → Bool
  | .taken _ => true
  | _ => false

def isQuery : Payload → Bool
  | .query _ => true
  | _ => false

def isClaim : Payload → Bool
  | .claim _ => true
  | _ => false

/-- The OFFER on the line ends with its report (R66). -/
def execOfferReport (acknowledged : Bool) (s : State) : Host.Outcome State Fault Refusal :=
  event s (sentOf isOffer acknowledged)

/-- The TAKEN on the line ends with its report (R72). -/
def execTakenReport (acknowledged : Bool) (s : State) : Host.Outcome State Fault Refusal :=
  event s (sentOf isTaken acknowledged)

/-- The QUERY on the line ends with its report (R73). -/
def execQueryReport (acknowledged : Bool) (s : State) : Host.Outcome State Fault Refusal :=
  event s (sentOf isQuery acknowledged)

/-- The CLAIM on the line ends with its report (R145). -/
def execClaimReport (acknowledged : Bool) (s : State) : Host.Outcome State Fault Refusal :=
  event s (sentOf isClaim acknowledged)

/-- The ANNOUNCE on the line has completed cleanly; its slot plays no part (R51). -/
def execAnnounceCompleted (s : State) : Host.Outcome State Fault Refusal := event s (sentOf isAnnounce false)

/-! ### Faults and lost announcements -/

/-- The score after a read-back fault (R41). -/
def raisedScore (n : Nat) : Nat := min Config.faultMax (n + 4)

/-- After a read-back fault: WITHDRAWN at 24, otherwise a fresh ANNOUNCE for one that was lost (R42, R51). -/
def afterFault (p : Payload) (s : State) : State :=
  if Config.withdrawAt ≤ s.loop.faultScore then enterWithdrawn s
  else if isAnnounce p then { s with loop := { s.loop with announceReady := true } }
  else s

/-- The frame on the line is lost to a read-back fault and reported not acknowledged (R31, R41). -/
def faultFrame (f : Frame) (s : State) : State :=
  let t := reportLine s.lineFrame false (leaveLine f.payload s)
  afterFault f.payload (setScore (raisedScore t.loop.faultScore) t)

def readBackFault (s : State) : State :=
  match s.loop.sending with
  | none => s
  | some f => faultFrame f s

def execReadBackFault (s : State) : Host.Outcome State Fault Refusal := event s readBackFault

/-- The ANNOUNCE on the line has lost in its serial field (R30, R51). -/
def announceLost (winner : BitVec 32) (s : State) : State :=
  match s.loop.sending with
  | none => s
  | some f => if isAnnounce f.payload then enterDuplicate .lostSerial (some winner) s else s

def execAnnounceLostSerial (winner : BitVec 32) (s : State) : Host.Outcome State Fault Refusal :=
  event s (announceLost winner)

end Sys2Proof.Machine
end

