-- ==== Sys2Proof/Machine/Attention.lean ====
section
/-! DEFINITION. Family: attention (R168, R172): ALARM_CLEAR and ATTENTION_READ_CLEARED. -/

namespace Sys2Proof.Machine

/-- An accepted ALARM_CLEAR: the alarm clears, and in ON_LOOP its ALARM joins the queue as a port frame (R171, R172). -/
def clearAlarm (k : AlarmKind) (s : State) : State :=
  let t := { s with attn := s.attn.withAlarm k false }
  answer .ok []
    (if t.member.state == .onLoop then
      enqueue true 0 (.alarm { kind := k, action := .cleared, active := t.activeAlarm, tag := 0 }) t
    else t)

/-- The checks of R172 on a kind. -/
def alarmClearKind (k : AlarmKind) (s : State) : State :=
  if !isEventAlarm k then refuse .badState s
  else if !s.alarmSet k then refuse .badState s
  else if joiningOrJoined s.member.state && !s.portRoom then refuse .loopQueueFull s
  else clearAlarm k s

def alarmClear (code : Nat) (s : State) : State :=
  match alarmOfCode code with
  | none => refuse .badLength s
  | some k => alarmClearKind k s

def execAlarmClear (b : Body Nat) (s : State) : Host.Outcome State Fault Refusal := request b s alarmClear

/-- The last byte of a READ_ATTENTION response has been clocked out with select low: the ordinary reasons it returned, and
that have not been raised since, are cleared (R168). -/
def attentionCleared (s : State) : State :=
  { s with attn := { s.attn with reasons := s.attn.reasons &&& ~~~s.attn.returned, returned := 0 } }

def execAttentionReadCleared (s : State) : Host.Outcome State Fault Refusal := event s attentionCleared

end Sys2Proof.Machine
end

