-- ==== Sys2Proof/Machine/CountOps.lean ====
section
/-! DEFINITION. The count engine and the tally unit: records and batches (R86 to R94), tallies and checks (R102 to R106),
reconciliation (R108, R109), the application of a batch and the close of a session (R95, R111 to R114). -/

namespace Sys2Proof.Machine

def setCount (c : CountEngine) (s : State) : State := { s with count := c }

/-! ### Tally (R102 to R106) -/

/-- Pieces the records give a slot, without a limit. -/
def recordSum (fifo : List CountEntry) (suspect : Bool) (slot : Nat) : Nat :=
  ((fifo.filter (fun r => r.slot == slot && r.suspect == suspect)).map (·.count)).sum

/-- A tally: the sum of its records' counts or 65535, whichever is less; 0 for a slot not in use (R102). -/
def tallyAt (cfg : Settings) (fifo : List CountEntry) (suspect : Bool) (slot : Nat) : Nat :=
  if cfg.inUse slot then min Config.countMax (recordSum fifo suspect slot) else 0

def tallies (cfg : Settings) (fifo : List CountEntry) (suspect : Bool) : List Nat :=
  slots.map (tallyAt cfg fifo suspect)

/-- A record would take a tally past 65535 (R102). -/
def overLimit (cfg : Settings) (fifo : List CountEntry) : Bool :=
  slots.any (fun d => cfg.inUse d &&
    (Config.countMax < recordSum fifo false d || Config.countMax < recordSum fifo true d))

/-- A record of a slot not in use at the batch end (R102). -/
def unusedRecord (cfg : Settings) (fifo : List CountEntry) : Bool := fifo.any (fun r => !cfg.inUse r.slot)

/-- The value of tallies: sum of pieces times face value (R103). -/
def tallyValue (cfg : Settings) (t : List Nat) : Nat := (slots.map (fun d => atSlot t d * cfg.face d)).sum

/-- Strap figures of the NOTE slots with good pieces (R106). -/
def strapFigures (cfg : Settings) (good : List Nat) : List StrapFigure :=
  slots.filterMap (fun d =>
    if (cfg.denom d).kind == .note && atSlot good d != 0 then
      some { slot := d, straps := atSlot good d / (cfg.denom d).unit, loose := atSlot good d % (cfg.denom d).unit }
    else none)

/-- The tally part of a Count Result (R103, R105, R106, R110). -/
def tallyPart (cfg : Settings) (fifo : List CountEntry) (expected : Option Nat) : TallyPart :=
  let good := tallies cfg fifo false
  let susp := tallies cfg fifo true
  { good := good, suspect := susp, piecesGood := good.sum, piecesSusp := susp.sum, countedValue := tallyValue cfg good,
    suspectValue := tallyValue cfg susp, mismatch := expected.map (fun n => good.sum + susp.sum != n),
    straps := strapFigures cfg good }

/-- The head check of a batch ended by END (R104). -/
def headMismatch (t : TallyPart) (figure : Option Nat) : Bool :=
  match figure with
  | none => false
  | some n => (t.piecesGood + t.piecesSusp) % 4096 != n

/-- The damage reasons of a batch after the tally (R93, R102, R104). -/
def batchDamage (cfg : Settings) (c : CountEngine) (t : TallyPart) (figure : Option Nat) : DamageSet :=
  ((c.batch.damage.addIf (unusedRecord cfg c.fifo) .slot).addIf (overLimit cfg c.fifo) .tallyLimit).addIf
    (headMismatch t figure) .headMismatch

/-! ### Reconciliation (R108 to R110) -/

/-- Slots whose good tally differs from the declared count, in slot order (R109). -/
def mismatchSlots (declared : Option Composition) (good : List Nat) : Option (List Nat) :=
  declared.map (fun c => slots.filter (fun d => atSlot good d != compAt c d))

def reconciliation (cfg : Settings) (c : Container) (t : TallyPart) : ReconciliationPart :=
  { declared := c.value, variance := varianceOf t.countedValue c.value, tolerance := cfg.tolerance c.value,
    cls := cfg.classify t.countedValue c.value, mismatchSlots := mismatchSlots c.comp t.good }

/-- The counted group of an undamaged RECOUNT (R112). -/
def countedGroup (t : TallyPart) (r : ReconciliationPart) : CountedGroup :=
  { value := t.countedValue, comp := some (listed (atSlot t.good)), suspect := t.piecesSusp, variance := r.variance,
    cls := r.cls }

/-- A container returned to HELD out of COUNTING (R99). -/
def heldAgain (c : Container) : Container := if c.state = .counting then { c with state := .held } else c

/-- The container the session has locked (R99). -/
def State.lockedTarget (s : State) (tag : Nat) : Option Container :=
  (s.container? tag).filter (fun c => c.state == .counting)

/-! ### The application of a batch (R95, R111 to R118) -/

def isStanding : CountMode → Bool
  | .intake => true
  | .payout => true
  | .recount => false
  | .unpack => false

/-- INTAKE: good pieces added, intake raised by C, difference lowered by E, POSITION_LIMIT on a clamp, levels evaluated
(R116). -/
def applyIntake (t : TallyPart) (s : State) : State :=
  let c := excessSlots t.good s
  let e := clampedValue s.cfg c
  let u := changeTotal .intake t.countedValue (addPieces t.good s)
  let v := if e = 0 then u else changeTotal .difference (-(e : Int)) u
  evaluate (limitAlarm c v)

/-- PAYOUT: good pieces taken, payout raised by C, difference raised by S, POSITION_LIMIT on a clamp, levels evaluated
(R117). -/
def applyPayout (t : TallyPart) (s : State) : State :=
  let c := shortSlots t.good s
  let e := clampedValue s.cfg c
  let u := changeTotal .payout t.countedValue (takePieces t.good s)
  let v := if e = 0 then u else changeTotal .difference (e : Int) u
  evaluate (limitAlarm c v)

/-- RECOUNT, undamaged: the counted group is written, the disputed flag set or cleared, the container HELD (R112). -/
def applyRecount (tag : Nat) (t : TallyPart) (r : ReconciliationPart) (s : State) : State :=
  raiseIf (disputes r.cls) .variance
    (updateContainer tag (fun c =>
      { c with state := .held, counted := some (countedGroup t r), disputed := disputes r.cls }) s)

/-- UNPACK, undamaged: the pieces join the position, the difference total takes C - D - K, the container is removed and a
request linked to it goes back to CLAIMED (R114, R118, R141). -/
def applyUnpack (tag : Nat) (t : TallyPart) (r : ReconciliationPart) (s : State) : State :=
  let c := excessSlots t.good s
  let k := clampedValue s.cfg c
  let u := limitAlarm c (addPieces t.good s)
  let v := changeTotal .difference ((t.countedValue : Int) - (r.declared : Int) - (k : Int)) u
  evaluate (raiseIf (disputes r.cls) .variance (toldSetback true tag (removeContainer tag v)))

/-- Release of the COUNTING lock with nothing written (R95, R112). -/
def releaseLock (tag : Nat) (s : State) : State := updateContainer tag heldAgain s

/-- The position part of a batch (R100, R119). -/
def batchPosition (mode : CountMode) (damaged : Bool) (t : TallyPart) (s : State) : Option PositionPart :=
  match mode with
  | .intake => positionPart (excessSlots t.good s) (-(clampedValue s.cfg (excessSlots t.good s) : Int))
  | .payout => positionPart (shortSlots t.good s) (clampedValue s.cfg (shortSlots t.good s) : Int)
  | .unpack =>
    if damaged then none
    else positionPart (excessSlots t.good s) (-(clampedValue s.cfg (excessSlots t.good s) : Int))
  | .recount => none

/-- A deferred offer of a container that an undamaged UNPACK has taken off the books: only HANDOVER_RESULT is left (R84). -/
def dropUnpacked (c : Option Container) (s : State) : State :=
  match c with
  | none => s
  | some c => if c.deferred.isSome then raiseResult c.tag .giver (.refused .countBlocked) s else s

/-- Apply a valued batch by the mode of its session, with the deferred offer that the close settles (R95). -/
def applyBatch (job : CountJob) (damaged : Bool) (t : TallyPart) (r : Option ReconciliationPart) (s : State) : State :=
  match job.mode, r with
  | .intake, _ => applyIntake t s
  | .payout, _ => applyPayout t s
  | .recount, some r => settleDeferred job.tag (!damaged) (applyRecount job.tag t r s)
  | .recount, none => settleDeferred job.tag false (releaseLock job.tag s)
  | .unpack, some r => dropUnpacked (s.container? job.tag) (applyUnpack job.tag t r s)
  | .unpack, none => settleDeferred job.tag false (releaseLock job.tag s)

/-- How a batch end leaves the session: INTAKE and PAYOUT stay open, PAUSED after a HALT, CLOSED after an abort; RECOUNT and
UNPACK close (R94, R95, R98). -/
def stateAfter (mode : CountMode) (cause : EndCause) : CountState :=
  if isStanding mode then
    match cause with
    | .halt => .paused
    | .abort => .closed
    | .endRecord => .opened
    | .idle => .opened
  else .closed

def outcomeAfter (mode : CountMode) (cause : EndCause) (damaged : Bool) : CountOutcome :=
  if isStanding mode then
    match cause with
    | .abort => .aborted .request
    | .halt => .opened
    | .endRecord => .opened
    | .idle => .opened
  else if damaged then .damaged else .completed

/-- The batch part of the Count Result (R100); an aborted batch is INCOMPLETE (R98). -/
def batchPart (cause : EndCause) (figure : Option Nat) (damage : DamageSet) (b : BatchFigures) : BatchPart :=
  { cause := cause, incomplete := cause == .abort, damage := damage, taken := b.taken, dropped := b.dropped, lost := b.lost,
    endFigure := figure }

/-- The end of the batch in progress (R93): the tally values it, the Count Result is written, FIFO and running figures are
cleared, the batch is applied, COUNT_DONE and for a damaged batch COUNT_DAMAGED are raised. -/
def endBatch (cause : EndCause) (figure : Option Nat) (s : State) : State :=
  match s.count.job with
  | none => s
  | some job =>
    let t := tallyPart s.cfg s.count.fifo job.expected
    let damage := batchDamage s.cfg s.count t figure
    let r : Option ReconciliationPart :=
      if isStanding job.mode || damage.damaged then none
      else (s.lockedTarget job.tag).map (fun c => reconciliation s.cfg c t)
    let result : CountResult :=
      { mode := job.mode, tag := job.tag, batchNumber := s.count.batchNumber,
        outcome := outcomeAfter job.mode cause damage.damaged,
        batch := some (batchPart cause figure damage s.count.batch), tally := some t, recon := r,
        position := batchPosition job.mode damage.damaged t s }
    let u := setCount { s.count with state := stateAfter job.mode cause, batch := noBatch, fifo := [], noRecordEnds := none,
                                     result := some result } s
    raiseIf damage.damaged .countDamaged (raise .countDone (applyBatch job damage.damaged t r u))

/-! ### Records (R87 to R94) -/

/-- A stray record (R89). -/
def strayRecord (s : State) : State := setCount { s.count with stray := min 65535 (s.count.stray + 1) } s

/-- The first record while OPEN or PAUSED begins a batch: RUNNING, the batch number up by 1, the no-record timer stopped
(R92). -/
def beginBatch (s : State) : State :=
  match s.count.state with
  | .opened => setCount { s.count with state := .running, batchNumber := min 65535 (s.count.batchNumber + 1),
                                       noRecordEnds := none } s
  | .paused => setCount { s.count with state := .running, batchNumber := min 65535 (s.count.batchNumber + 1),
                                       noRecordEnds := none } s
  | .idle => s
  | .running => s
  | .closed => s

/-- The batch damaged by one more reason. -/
def damageBatch (r : DamageReason) (s : State) : State :=
  setCount { s.count with batch := { s.count.batch with damage := s.count.batch.damage.add r } } s

/-- A dropped record: counted in the batch with its reason, or stray (R87, R89, R92). -/
def recordDropped (r : DropReason) (s : State) : State :=
  if s.count.state.sessionOpen then
    let t := beginBatch s
    damageBatch (dropDamage r)
      (setCount { t.count with batch := { t.count.batch with dropped := min 255 (t.count.batch.dropped + 1) } } t)
  else strayRecord s

/-- A record takes the running good pieces of a batch to or past the threshold in force, and COUNT_PROGRESS has not been
raised for the batch (R92). A threshold that SET_COUNT has brought down to what the batch already holds is passed by no
further record (DEDUCED, log 28; unsafe). -/
def progressReached (threshold : Nat) (b : BatchFigures) (good : Nat) : Bool :=
  !b.progressed && threshold != 0 && b.good < threshold && threshold ≤ good

/-- An intact COUNT record in an open session joins the FIFO, or is lost to a full one (R88, R92). -/
def recordCounted (r : CountEntry) (s : State) : State :=
  let t := beginBatch s
  let b := t.count.batch
  if Config.fifoCap ≤ t.count.fifo.length then
    damageBatch .overflow (setCount { t.count with batch := { b with lost := min 255 (b.lost + 1) } } t)
  else
    let good := if r.suspect then b.good else b.good + r.count
    let reaches := progressReached s.cfg.threshold b good
    raiseIf reaches .countProgress
      (setCount { t.count with fifo := t.count.fifo ++ [r],
                               batch := { b with taken := b.taken + 1, good := good,
                                                 progressed := b.progressed || reaches } } t)

/-- Nothing is being assembled any more (R86). -/
def endAssembly (s : State) : State := setCount { s.count with assembled := [] } s

/-- A record abandoned at a gap is dropped with FRAMING (R86). -/
def recordAbandoned (s : State) : State := recordDropped .framing (endAssembly s)

/-- The record being assembled, if any, is abandoned: by SET_COUNT_LINE, which finds no session open (R85), and by a line idle
for long (R93). -/
def abandonAssembly (s : State) : State := if s.count.assembled = [] then s else recordAbandoned s

/-! ### Closing without a batch (R96 to R98) -/

/-- The Count Result takes an outcome and keeps the figures of the last batch (R100). -/
def closedResult (c : CountEngine) (job : CountJob) (o : CountOutcome) : CountResult :=
  match c.result with
  | some r => { r with outcome := o }
  | none => { mode := job.mode, tag := job.tag, batchNumber := c.batchNumber, outcome := o, batch := none, tally := none,
              recon := none, position := none }

/-- The session closes with an outcome, nothing tallied: FIFO and running figures emptied, the timer stopped (R88, R100). -/
def closeSession (job : CountJob) (o : CountOutcome) (s : State) : State :=
  setCount { s.count with state := .closed, batch := noBatch, fifo := [], noRecordEnds := none,
                          result := some (closedResult s.count job o) } s

/-- A RECOUNT or UNPACK session ends with nothing applied: the container HELD, its deferred offer dropped (R96, R98). -/
def abandonCount (job : CountJob) (reason : AbortReason) (s : State) : State :=
  settleDeferred job.tag false (releaseLock job.tag (closeSession job (.aborted reason) s))

end Sys2Proof.Machine
end

