-- ==== Sys2Proof/Machine/LampsDoor.lean ====
section
/-! DEFINITION. Family: lamps and door line (R174 to R176): DOOR_ALLOW, DOOR_OPENING_EDGE, DOOR_CLOSING, DOOR_ALLOWANCE_END,
DOOR_HELD, LAMP_STEP. -/

namespace Sys2Proof.Machine

/-! ### Lamps (R174) -/

def State.inboundIn (s : State) (st : InboundState) : Bool := s.custody.inbound.any (fun e => e.state == st)

def isOpenRequest (r : OwnRequest) : Bool := r.phase == .opened

def State.needHolds (s : State) : Bool :=
  s.position.float.pickupNeed || s.position.float.topupNeed || s.position.float.changeNeed

/-- The pattern of the service lamp: the first row whose condition holds; the leftmost bit belongs to step 0. -/
def servicePattern (s : State) : Byte :=
  if s.inboundIn .unsure || s.inboundIn .unresolved then 0b10101010#8
  else if s.inboundIn .expected then 0b11111111#8
  else if s.service.requests.any (fun r => !isOpenRequest r) then 0b11001100#8
  else if s.service.requests.any isOpenRequest || s.needHolds || s.service.list.any s.eligible then 0b11110000#8
  else 0b00000000#8

/-- The pattern of the alarm lamp. -/
def alarmPattern (s : State) : Byte :=
  if s.anyAlarm then 0b11111111#8
  else if s.member.peers.toList.any (fun e => e.alarm.isSome) then 0b10100000#8
  else 0b00000000#8

/-- The lamps show the bit of their patterns for the step. -/
def showLamps (s : State) : State :=
  { s with lamps := { s.lamps with service := (servicePattern s).getMsbD s.lamps.step,
                                   alarm := (alarmPattern s).getMsbD s.lamps.step } }

/-- LAMP_STEP: after 125 ms the step advances and each lamp shows its pattern's bit (R174). -/
def lampAdvance (s : State) : State :=
  if s.lamps.ms < Config.lampStepMs then s
  else showLamps { s with lamps := { s.lamps with step := (s.lamps.step + 1) % 8, ms := s.lamps.ms - Config.lampStepMs } }

def execLampStep (s : State) : Host.Outcome State Fault Refusal := event s lampAdvance

/-! ### Door (R175, R176) -/

/-- An opening is allowed: the allowance runs, or SAFE with the window OPEN, or TILL with an INTAKE or PAYOUT session open
(R175). -/
def State.openingAllowed (s : State) : Bool :=
  s.door.allowanceEnds.isSome
    || (s.unit.role == some .safe && s.safe.window.isSome)
    || (s.unit.role == some .till && s.count.state.sessionOpen &&
        (match s.count.job with
         | none => false
         | some j => j.mode == .intake || j.mode == .payout))

/-- An opening edge starts the hold timer; one that is not allowed raises DOOR_UNEXPECTED (R175). -/
def openDoor (s : State) : State :=
  if s.door.isOpen then s
  else
    let t := { s with door := { s.door with isOpen := true, openSince := some s.clock, heldRaised := false } }
    if s.openingAllowed then t else raiseAlarm .doorUnexpected t

def execDoorOpeningEdge (s : State) : Host.Outcome State Fault Refusal := event s openDoor

/-- The door closes: the hold timer stops, nothing is raised (R175). -/
def closeDoor (s : State) : State :=
  { s with door := { s.door with isOpen := false, openSince := none, heldRaised := false } }

def execDoorClosing (s : State) : Host.Outcome State Fault Refusal := event s closeDoor

/-- DOOR_ALLOW: 0 s is clamped to 1; a running allowance is restarted (R176). -/
def allowDoor (seconds : Nat) (s : State) : State :=
  if s.member.state = .unconfigured then refuse .badState s
  else answer .ok []
    { s with door := { s.door with allowanceEnds := some (s.clock + clamp 1 255 seconds * Config.second) } }

def execDoorAllow (b : Body Nat) (s : State) : Host.Outcome State Fault Refusal := request b s allowDoor

/-- A timer limit, as a clock value, has been reached. -/
def reached (limit : Option Nat) (s : State) : Bool :=
  match limit with
  | none => false
  | some t => t ≤ s.clock

/-- The allowance ends when its time has passed (R176). -/
def endAllowance (s : State) : State :=
  if reached s.door.allowanceEnds s then { s with door := { s.door with allowanceEnds := none } } else s

def execDoorAllowanceEnd (s : State) : Host.Outcome State Fault Refusal := event s endAllowance

/-- The hold timer has reached the hold limit in force (R176). -/
def State.heldTooLong (s : State) : Bool :=
  match s.door.openSince with
  | none => false
  | some t => t + s.cfg.holdLimit * Config.second ≤ s.clock

/-- DOOR_HELD is raised once for an opening (R176). -/
def holdDoor (s : State) : State :=
  if s.door.isOpen && !s.door.heldRaised && s.heldTooLong then
    raiseAlarm .doorHeld { s with door := { s.door with heldRaised := true } }
  else s

def execDoorHeld (s : State) : Host.Outcome State Fault Refusal := event s holdDoor

end Sys2Proof.Machine
end

