-- ==== Sys2Proof/Machine/Safe.lean ====
section
/-! DEFINITION. Family: the safe station (chapter 9). WINDOW_OPEN, WINDOW_CLOSE, WINDOW_EXPIRY, ADMIT, SACK_OPEN, NEST, UNNEST,
SACK_CLOSE, SACK_REOPEN, SACK_ABANDON, DISPATCH. -/

namespace Sys2Proof.Machine

/-! ### The courier window (R149 to R151) -/

/-- The window number advances; past 65535 it goes to 1. -/
def nextWindow (n : Nat) : Nat := if 65535 ≤ n then 1 else n + 1

def setWindow (w : Option CourierWindow) (s : State) : State := { s with safe := { s.safe with window := w } }

/-- A new window, or the open one extended (R150). -/
def openWindow (steps : Nat) (s : State) : State :=
  match s.safe.window with
  | none =>
    { s with safe := { s.safe with window := some { opened := s.clock, ends := s.clock + steps },
                                   windowNumber := nextWindow s.safe.windowNumber } }
  | some w => setWindow (some { w with ends := s.clock + steps }) s

def windowOpen (minutes : Nat) (s : State) : State :=
  if onTheLine s.member.state = false then refuse .badState s
  else if s.unit.role ≠ some .safe then refuse .roleNotAllowed s
  else
    let t := openWindow (clamp 1 60 minutes * Config.minute) s
    answer .ok (numBytes 2 t.safe.windowNumber) t

def execWindowOpen (b : Body Nat) (s : State) : Host.Outcome State Fault Refusal := request b s windowOpen

/-- The window closes: its times are removed and WINDOW_CLOSED is raised (R151). -/
def closeWindow (s : State) : State := raise .windowClosed (setWindow none s)

/-- The two checks that open every request of the safe but ADMIT and WINDOW_OPEN. -/
def atSafe (run : State → State) (s : State) : State :=
  if s.member.state = .unconfigured then refuse .badState s
  else if s.unit.role ≠ some .safe then refuse .roleNotAllowed s
  else run s

def windowClose (s : State) : State :=
  if s.safe.window.isNone then refuse .badState s else answer .ok [] (closeWindow s)

def execWindowClose (b : Body Unit) (s : State) : Host.Outcome State Fault Refusal :=
  request b s (fun _ => atSafe windowClose)

/-- The end time of an OPEN window has passed. -/
def windowOver (s : State) : Bool := reached (s.safe.window.map (·.ends)) s

def windowExpiry (s : State) : State := if windowOver s then closeWindow s else s

def execWindowExpiry (s : State) : Host.Outcome State Fault Refusal := event s windowExpiry

/-! ### ADMIT (R152) -/

/-- A composition of an ADMIT: proper, slots in use, worth the declared value. -/
def admitComp (cfg : Settings) (value : Nat) (c : Composition) : Bool :=
  compRequired c && c.all (fun p => cfg.inUse p.1) && cfg.valueOf c == value

/-- The body of an ADMIT; an empty composition is none given (11.4). -/
def admitForm (cfg : Settings) (f : AdmitFields) : Bool :=
  f.tag != 0 && f.value ≤ Config.valueMax && (f.comp.isEmpty || admitComp cfg f.value f.comp)

def givenComp (c : Composition) : Option Composition := if c.isEmpty then none else some c

def admitAccepted (f : AdmitFields) (s : State) : State :=
  answer .ok []
    (changeTotal .admitted f.value
      (appendContainer (freshContainer f.tag .changeStock s.own f.value (givenComp f.comp)) s))

def admitChecked (f : AdmitFields) (c : ContainerClass) (s : State) : State :=
  if c ≠ .changeStock then refuse .classNotAllowed s
  else if s.safe.window.isNone then refuse .windowClosed s
  else if s.tagKnown f.tag then refuse .duplicateTag s
  else if s.tableFull then refuse .tableFull s
  else admitAccepted f s

def admitStock (f : AdmitFields) (s : State) : State :=
  match classOfCode f.cls with
  | none => refuse .badLength s
  | some c => if admitForm s.cfg f then atSafe (admitChecked f c) s else refuse .badLength s

def execAdmit (b : Body AdmitFields) (s : State) : Host.Outcome State Fault Refusal := request b s admitStock

/-! ### Sacks and chains (R153 to R157) -/

def emptySack : SackFields := { state := .assembling, first := none, count := 0, check := none }

/-- The record of a sack just opened. -/
def freshSack (tag origin : Nat) : Container :=
  { freshContainer tag .courierSack origin 0 none with sack := some emptySack }

def sackOpenChecked (tag : Nat) (s : State) : State :=
  if s.tagKnown tag then refuse .duplicateTag s
  else if s.tableFull then refuse .tableFull s
  else answer .ok [] (appendContainer (freshSack tag s.own) s)

def sackOpen (tag : Nat) (s : State) : State :=
  if tag = 0 then refuse .badLength s else atSafe (sackOpenChecked tag) s

def execSackOpen (b : Body Nat) (s : State) : Host.Outcome State Fault Refusal := request b s sackOpen

/-- The next member tag of a member. -/
def Container.nextMember (c : Container) : Option Nat := c.nesting.bind (·.next)

/-- The members from a tag on, in chain order, by at most `fuel` steps (R153). -/
def State.chainFrom (s : State) : (fuel : Nat) → Option Nat → List Container
  | 0, _ => []
  | _ + 1, none => []
  | n + 1, some t =>
    match s.container? t with
    | none => []
    | some c => c :: s.chainFrom n c.nextMember

/-- The members of a sack in chain order; a chain has at most 24. -/
def State.members (s : State) (k : SackFields) : List Container := s.chainFrom Config.sackCap k.first

/-- Write the next member tag of a chain's member. -/
def linkNext (next : Option Nat) (c : Container) : Container :=
  { c with nesting := c.nesting.map (fun n => { n with next := next }) }

/-- A HELD bag becomes the last member of a sack. -/
def nestMember (sack : Nat) (c : Container) : Container :=
  { c with state := .nested, nesting := some { parent := sack, next := none }, refusal := none }

/-- A sack that has gained a member. -/
def gainMember (member value : Nat) (k : SackFields) (c : Container) : Container :=
  { c with value := c.value + value,
           sack := some { k with first := if k.count = 0 then some member else k.first, count := k.count + 1 } }

/-- The member now at the end of the chain names the new one. -/
def linkLast (k : SackFields) (member : Nat) (s : State) : State :=
  match (s.members k).getLast? with
  | none => s
  | some last => updateContainer last.tag (linkNext (some member)) s

/-- The body of NEST and UNNEST: member count and sack value. -/
def sackFigures (count value : Nat) : List Byte := numBytes 1 count ++ numBytes 5 value

def nestAccepted (sack : Container) (k : SackFields) (m : Container) (s : State) : State :=
  answer .ok (sackFigures (k.count + 1) (sack.value + m.value))
    (updateContainer sack.tag (gainMember m.tag m.value k)
      (updateContainer m.tag (nestMember sack.tag) (linkLast k m.tag s)))

/-- The checks of R156 from the sack state on. -/
def nestChecked (sack : Container) (k : SackFields) (m : Container) (s : State) : State :=
  if k.state ≠ .assembling then refuse .badState s
  else if m.cls ≠ .depositBag then refuse .classNotAllowed s
  else if m.state ≠ .held then refuse .badState s
  else if m.disputed then refuse .disputed s
  else if m.counted.isNone && !s.cfg.uncounted then refuse .badState s
  else if Config.sackCap ≤ k.count then refuse .sackFull s
  else if Config.valueMax < sack.value + m.value then refuse .limit s
  else nestAccepted sack k m s

/-- A COURIER_SACK always carries sack fields (R5). -/
def nestFound (sack m : Container) (s : State) : State :=
  match sack.cls, sack.sack with
  | .courierSack, some k => nestChecked sack k m s
  | _, _ => refuse .classNotAllowed s

def nest (f : NestFields) (s : State) : State :=
  match s.container? f.sack, s.container? f.member with
  | some sack, some m => nestFound sack m s
  | _, _ => refuse .notFound s

def execNest (b : Body NestFields) (s : State) : Host.Outcome State Fault Refusal :=
  request b s (fun f => atSafe (nest f))

/-- A member back at top level. -/
def freeMember (c : Container) : Container := { c with state := .held, nesting := none }

/-- The member before a removed one names the one after it. -/
def bridge (tag : Nat) (next : Option Nat) (c : Container) : Container :=
  if c.nextMember = some tag then linkNext next c else c

/-- A sack that has lost a member. -/
def loseMember (m : Container) (k : SackFields) (c : Container) : Container :=
  { c with value := c.value - m.value,
           sack := some { k with first := if k.first = some m.tag then m.nextMember else k.first,
                                 count := k.count - 1 } }

def unnestAccepted (m sack : Container) (k : SackFields) (s : State) : State :=
  let t := updateContainer m.tag freeMember s
  let u := setTable (t.custody.table.map (bridge m.tag m.nextMember)) t
  answer .ok (sackFigures (k.count - 1) (sack.value - m.value)) (updateContainer sack.tag (loseMember m k) u)

/-- The parent sack of a member with its sack fields. -/
def State.parentSack (s : State) (m : Container) : Option (Container × SackFields) :=
  match m.nesting with
  | none => none
  | some n =>
    match s.container? n.parent with
    | none => none
    | some c => c.sack.map (fun k => (c, k))

/-- A NESTED entry lies in the chain of a sack of the table (R153). -/
def unnestFound (m : Container) (s : State) : State :=
  if m.state ≠ .nested then refuse .badState s
  else
    match s.parentSack m with
    | none => refuse .badState s
    | some (sack, k) => if k.state = .assembling then unnestAccepted m sack k s else refuse .badState s

def unnest (tag : Nat) (s : State) : State :=
  match s.container? tag with
  | none => refuse .notFound s
  | some m => unnestFound m s

def execUnnest (b : Body Nat) (s : State) : Host.Outcome State Fault Refusal :=
  request b s (fun tag => atSafe (unnest tag))

/-! ### Closing, reopening, abandoning (R158 to R160) -/

/-- The checks of R158 through the class check. -/
def onSack (run : Container → SackFields → State → State) (tag : Nat) (s : State) : State :=
  atSafe (fun s =>
    match s.container? tag with
    | none => refuse .notFound s
    | some c =>
      match c.cls, c.sack with
      | .courierSack, some k => run c k s
      | _, _ => refuse .classNotAllowed s) s

/-- The weighted tag sum, from position `i` on. -/
def weightedTags : Nat → List Container → Nat
  | _, [] => 0
  | i, c :: l => i * (c.tag % 1000000) + weightedTags (i + 1) l

/-- The manifest check of a chain (R158). -/
def manifestCheck (l : List Container) : Nat := (weightedTags 1 l + (l.map (·.value)).sum) % 10000000

/-- Replace the sack fields of a record. -/
def withSack (k : SackFields) (c : Container) : Container := { c with sack := some k }

/-- The answer gives the manifest check in 4 bytes, the width R180 gives it in READ_DISPATCHES alone (DEDUCED, log 9; unsafe). -/
def closeSack (c : Container) (k : SackFields) (s : State) : State :=
  let check := manifestCheck (s.members k)
  answer .ok (numBytes 5 c.value ++ numBytes 1 k.count ++ numBytes 4 check)
    (updateContainer c.tag (withSack { k with state := .closed, check := some check }) s)

def sackClose (c : Container) (k : SackFields) (s : State) : State :=
  if k.state ≠ .assembling then refuse .badState s
  else if k.count = 0 then refuse .badState s
  else closeSack c k s

def execSackClose (b : Body Nat) (s : State) : Host.Outcome State Fault Refusal := request b s (onSack sackClose)

def sackReopen (c : Container) (k : SackFields) (s : State) : State :=
  if k.state ≠ .closed then refuse .badState s
  else answer .ok [] (updateContainer c.tag (withSack { k with state := .assembling, check := none }) s)

def execSackReopen (b : Body Nat) (s : State) : Host.Outcome State Fault Refusal := request b s (onSack sackReopen)

/-- A NESTED entry whose tag is listed; in a sound part every listed member is NESTED (log 24; safe). -/
def isMember (tags : List Nat) (c : Container) : Bool := tags.contains c.tag && c.state == .nested

/-- Every member whose tag is listed returns to top level. -/
def freeMembers (tags : List Nat) (s : State) : State :=
  setTable (s.custody.table.map (fun c => if isMember tags c then freeMember c else c)) s

def sackAbandon (c : Container) (k : SackFields) (s : State) : State :=
  let tags := (s.members k).map (·.tag)
  answer .ok (tags.flatMap (numBytes 4)) (removeContainer c.tag (freeMembers tags s))

def execSackAbandon (b : Body Nat) (s : State) : Host.Outcome State Fault Refusal := request b s (onSack sackAbandon)

/-! ### DISPATCH (R161, R162) -/

/-- The Dispatch History record of a sack. -/
def dispatchRecord (c : Container) (k : SackFields) (s : State) : DispatchRecord :=
  { tag := c.tag, value := c.value, count := k.count, check := optNat k.check, window := s.safe.windowNumber }

/-- The members of the sack and the sack itself leave the table. -/
def removeSack (c : Container) (k : SackFields) (s : State) : State :=
  let tags := (s.members k).map (·.tag)
  removeContainer c.tag (setTable (s.custody.table.filter (fun d => !isMember tags d)) s)

/-- Steps 1 to 5 of R161. -/
def dispatchAccepted (c : Container) (k : SackFields) (s : State) : State :=
  let t := changeTotal .dispatched c.value (removeSack c k s)
  let u := { t with safe := { t.safe with
    dispatches := keepLast Config.dispatchCap (t.safe.dispatches ++ [dispatchRecord c k t]) } }
  answer .ok [] (raise .dispatched u)

def dispatch (c : Container) (k : SackFields) (s : State) : State :=
  if s.safe.window.isNone then refuse .windowClosed s
  else if k.state ≠ .closed then refuse .badState s
  else dispatchAccepted c k s

def execDispatch (b : Body Nat) (s : State) : Host.Outcome State Fault Refusal := request b s (onSack dispatch)

end Sys2Proof.Machine
end

