-- ==== Sys2Proof/Machine/Reads.lean ====
section
/-! DEFINITION. Family: the read requests, taken in every station state, with their bodies (R178, 11.4, R180). Field widths that
R178 does not give by type are the model's (log 9). -/

namespace Sys2Proof.Machine

def readAnswer (body : State → List Byte) (s : State) : State := answer .ok (body s) s

/-! ### Pages (R180) -/

/-- The largest number of whole entries, from the first on, that fit in the room left. -/
def fitEntries : (room : Nat) → List (List Byte) → List (List Byte)
  | _, [] => []
  | room, e :: l => if e.length ≤ room then e :: fitEntries (room - e.length) l else []

/-- A page: entries now, first index, entries returned, what the list puts between, the entries. -/
def page (between : List Byte) (entries : List (List Byte)) (first : Nat) : List Byte :=
  let shown := fitEntries (Config.bodyMax - 3 - between.length) (entries.drop first)
  numBytes 1 entries.length ++ numBytes 1 first ++ numBytes 1 shown.length ++ between ++ shown.flatten

/-! ### Parts -/

def tagBytes (t : Nat) : List Byte := numBytes 4 t
def valueBytes (v : Nat) : List Byte := numBytes 5 v

def remainingBytes (s : State) (t : Nat) : List Byte := numBytes 4 (secondsLeft s.clock t)

def ageBytes (steps : Nat) : List Byte := numBytes 4 (secondsOf steps)

/-- Last handover result: code, reason, late byte (R178); a result kept in a record is never late. -/
def lastResultBytes : LastResult → List Byte
  | .none => [0#8, 0#8, 0#8]
  | .taken => [1#8, 0#8, 0#8]
  | .refused r => [2#8] ++ numBytes 1 (refuseCode r) ++ [0#8]
  | .noAnswer => [3#8, 0#8, 0#8]
  | .recalled => [4#8, 0#8, 0#8]
  | .declined => [5#8, 0#8, 0#8]

def noteOutcomeBytes : NoteOutcome → List Byte
  | .taken late => [1#8, 0#8] ++ boolByte late
  | .refused r => [2#8] ++ numBytes 1 (refuseCode r) ++ [0#8]
  | .noAnswer => [3#8, 0#8, 0#8]
  | .recalled => [4#8, 0#8, 0#8]
  | .declined => [5#8, 0#8, 0#8]
  | .outbound => [6#8, 0#8, 0#8]

def sideCode : Side → Nat
  | .giver => 0 | .receiver => 1

def noteBytes (n : HandoverNote) : List Byte := tagBytes n.tag ++ numBytes 1 (sideCode n.side) ++ noteOutcomeBytes n.outcome

/-! ### Custody (R8 to R10, R14, R17) -/

def parentTag (c : Container) : Nat :=
  match c.nesting with
  | none => 0
  | some n => n.parent

/-- A READ_CUSTODY entry, 16 bytes. -/
def custodyEntry (c : Container) : List Byte :=
  tagBytes c.tag ++ numBytes 1 (classCode c.cls) ++ numBytes 1 (containerStateCode c.state) ++ valueBytes c.value
    ++ boolByte c.disputed ++ tagBytes (parentTag c)

def custodyBody (first : Nat) (s : State) : List Byte := page [] (s.custody.table.map custodyEntry) first

def execReadCustody (b : Body Nat) (s : State) : Host.Outcome State Fault Refusal :=
  request b s (fun first => readAnswer (custodyBody first))

/-- The counted group (R3). Its composition has a presence byte, as an optional part of READ_CONTAINER, though R178 says also that no
pair means an absent composition (DESIGN CHOICE, log 9; unsafe). -/
def countedBytes (g : CountedGroup) : List Byte :=
  valueBytes g.value ++ partBytes g.comp compBytes ++ numBytes 3 g.suspect ++ signedBytes g.variance
    ++ numBytes 1 (varianceCode g.cls)

/-- Time to the deadline in seconds, 0 for an OVERDUE container (R8). -/
def deadlineBytes (s : State) (c : Container) (h : HandoverFields) : List Byte :=
  if c.state = .overdue then numBytes 4 0 else remainingBytes s h.deadline

/-- The handover fields in the order of R5, the time remaining in the place of the deadline; R8 does not give its place (DESIGN CHOICE,
log 9; unsafe). -/
def handoverBytes (s : State) (c : Container) (h : HandoverFields) : List Byte :=
  numBytes 1 h.peer ++ numBytes 2 h.number ++ deadlineBytes s c h ++ numBytes 1 h.purpose

def deferredBytes (d : DeferredOffer) : List Byte := numBytes 1 d.peer ++ numBytes 1 d.purpose

def nestingBytes (n : NestingFields) : List Byte := tagBytes n.parent ++ partBytes n.next tagBytes

/-- The sack fields of READ_CONTAINER (R5, R8); the manifest check in 4 bytes (DEDUCED, log 9; unsafe). -/
def sackBytes (k : SackFields) : List Byte :=
  numBytes 1 (sackStateCode k.state) ++ partBytes k.first tagBytes ++ numBytes 1 k.count
    ++ partBytes k.check (numBytes 4)

/-- The body of READ_CONTAINER (R8); the declared composition has a presence byte, like the counted one (DESIGN CHOICE, log 9;
unsafe). -/
def containerBytes (s : State) (c : Container) : List Byte :=
  tagBytes c.tag ++ numBytes 1 (classCode c.cls) ++ numBytes 1 (containerStateCode c.state) ++ numBytes 1 c.origin
    ++ valueBytes c.value ++ boolByte c.disputed ++ numBytes 1 c.handovers ++ lastResultBytes c.lastResult
    ++ partBytes c.comp compBytes ++ partBytes c.counted countedBytes ++ partBytes c.handover (handoverBytes s c)
    ++ partBytes c.deferred deferredBytes ++ partBytes c.nesting nestingBytes ++ partBytes c.sack sackBytes

def readContainer (tag : Nat) (s : State) : State :=
  match s.container? tag with
  | none => refuse .notFound s
  | some c => answer .ok (containerBytes s c) s

def execReadContainer (b : Body Nat) (s : State) : Host.Outcome State Fault Refusal := request b s readContainer

/-- An optional composition in a list entry: n = 0 when absent (R178). -/
def optCompBytes (c : Option Composition) : List Byte :=
  match c with
  | none => [0#8]
  | some c => compBytes c

/-- A READ_INBOUND entry, 27 + 3n bytes; an absent counted value is sent as 0, which R180 does not say (DESIGN CHOICE, log 9;
unsafe). -/
def inboundEntryBytes (s : State) (e : InboundEntry) : List Byte :=
  numBytes 1 e.giver ++ numBytes 2 e.number ++ tagBytes e.tag ++ numBytes 1 (classCode e.cls)
    ++ numBytes 1 (inboundStateCode e.state) ++ valueBytes e.value ++ valueBytes (optNat e.counted)
    ++ numBytes 1 (e.counted.isSome.toNat + 2 * e.queryPending.toNat) ++ numBytes 1 e.purpose ++ numBytes 1 e.origin
    ++ remainingBytes s e.lapse ++ optCompBytes e.comp

def inboundBody (first : Nat) (s : State) : List Byte := page [] (s.custody.inbound.map (inboundEntryBytes s)) first

def execReadInbound (b : Body Nat) (s : State) : Host.Outcome State Fault Refusal :=
  request b s (fun first => readAnswer (inboundBody first))

/-- A READ_RELEASES entry, 12 bytes. -/
def releaseBytes (r : ReleaseEntry) : List Byte :=
  tagBytes r.tag ++ numBytes 1 r.receiver ++ numBytes 2 r.number ++ valueBytes r.value

def releasesBody (first : Nat) (s : State) : List Byte := page [] (s.custody.releases.map releaseBytes) first

def execReadReleases (b : Body Nat) (s : State) : Host.Outcome State Fault Refusal :=
  request b s (fun first => readAnswer (releasesBody first))

def totalsBytes (t : Totals) : List Byte :=
  signedBytes t.opening ++ signedBytes t.intake ++ signedBytes t.payout ++ signedBytes t.received
    ++ signedBytes t.released ++ signedBytes t.admitted ++ signedBytes t.dispatched ++ signedBytes t.difference

def totalsBody (s : State) : List Byte :=
  totalsBytes s.custody.totals ++ signedBytes s.accountable ++ boolByte s.custody.saturated

def execReadTotals (b : Body Unit) (s : State) : Host.Outcome State Fault Refusal :=
  request b s (fun _ => readAnswer totalsBody)

def dayTotalsBody (s : State) : List Byte :=
  numBytes 2 s.custody.day.day ++ totalsBytes s.custody.day.totals ++ signedBytes s.custody.day.accountable
    ++ boolByte s.custody.day.saturated

def execReadDayTotals (b : Body Unit) (s : State) : Host.Outcome State Fault Refusal :=
  request b s (fun _ => readAnswer dayTotalsBody)

/-! ### Attention (R168) -/

/-- The set of alarm kinds that are set, bit k - 1 for kind k. -/
def State.alarmByte (s : State) : Nat :=
  (alarmOrder.map (fun k => (s.alarmSet k).toNat * 2 ^ (alarmCode k - 1))).sum

def State.overdueCount (s : State) : Nat := (s.custody.table.filter (fun c => c.state == .overdue)).length

def State.unresolvedCount (s : State) : Nat := (s.custody.inbound.filter (fun e => e.state == .unresolved)).length

/-- The time left on the door allowance; 0, without a presence byte, while none runs, of which R168 says nothing (DESIGN CHOICE,
log 9; unsafe). -/
def allowanceLeft (s : State) : Nat :=
  match s.door.allowanceEnds with
  | none => 0
  | some t => secondsLeft s.clock t

def attentionBody (s : State) : List Byte :=
  numBytes 4 s.attn.reasons.toNat ++ numBytes 1 s.alarmByte ++ numBytes 1 s.overdueCount ++ numBytes 1 s.unresolvedCount
    ++ partBytes s.attn.note noteBytes ++ numBytes 4 s.attn.mask.toNat ++ boolByte s.door.isOpen
    ++ numBytes 4 (allowanceLeft s)

/-- READ_ATTENTION; the reasons it returns wait for its last byte to be clocked out (R168). -/
def readAttention (s : State) : State :=
  answer .ok (attentionBody s) { s with attn := { s.attn with returned := s.attn.reasons } }

def execReadAttention (b : Body Unit) (s : State) : Host.Outcome State Fault Refusal := request b s (fun _ => readAttention)

/-! ### Station, loop and peers (R44, R58, R61) -/

/-- The role code, 3 for an invalid role (log 9). -/
def roleByte (r : Option Role) : List Byte :=
  match r with
  | none => [3#8]
  | some r => numBytes 1 (roleCode r)

def serialBytes (x : BitVec 32) : List Byte := numBytes 4 x.toNat

/-- The duplicate record (R54): cause, the time of entry as its age in whole seconds at the read, the serial. R61 and R178 do not
say how that time is reported (DESIGN CHOICE, log 9; unsafe). -/
def duplicateBytes (s : State) (d : DuplicateRecord) : List Byte :=
  numBytes 1 (duplicateCauseCode d.cause) ++ ageBytes (s.clock - d.time) ++ partBytes d.serial serialBytes

/-- The ANNOUNCE still to be sent, and the time left of the announce wait once it has completed. -/
def announceBytes (s : State) : List Byte :=
  boolByte s.loop.announceReady ++ partBytes s.member.announceWaitEnds (remainingBytes s)

/-- Present in the state the part belongs to. -/
def during (here : Bool) (a : α) : Option α := if here then some a else none

/-- The rejoin time, while WITHDRAWN with auto-rejoin on (R43). -/
def State.rejoinAt (s : State) : Option Nat :=
  if s.member.state == .withdrawn && s.cfg.autoRejoin then s.member.withdrawnAt.map (· + Config.rejoinDelay) else none

def State.peersIn (s : State) (st : PeerState) : Nat := (s.member.peers.toList.filter (fun e => e.state == st)).length

/-- READ_STATION (R61). The station number is an optional part, absent when not set; R61 and R178 give "not set" no form (DESIGN CHOICE,
log 9; unsafe). -/
def stationBody (s : State) : List Byte :=
  numBytes 1 (stationStateCode s.member.state) ++ partBytes s.cfg.number (numBytes 1) ++ roleByte s.unit.role
    ++ serialBytes s.unit.serial ++ numBytes 1 s.member.mInForce
    ++ partBytes s.member.listeningEnds (remainingBytes s)
    ++ partBytes (during (s.member.state == .announcing) s) announceBytes
    ++ partBytes s.rejoinAt (remainingBytes s)
    ++ partBytes s.member.duplicate (duplicateBytes s)
    ++ numBytes 1 (s.peersIn .live) ++ numBytes 1 (s.peersIn .quiet) ++ numBytes 1 (s.peersIn .gone)

def execReadStation (b : Body Unit) (s : State) : Host.Outcome State Fault Refusal :=
  request b s (fun _ => readAnswer stationBody)

/-- A queued frame: its kind as character 0 of the frame, its target, 1 for a port frame and 0 for a chip frame, 1 while it is
being sent. R44 and R178 give no codes for the kind and the two marks (DESIGN CHOICE, log 9; unsafe). -/
def queuedBytes (f : QueuedFrame) : List Byte :=
  [kindCharacter f.payload] ++ numBytes 1 f.target ++ boolByte f.port ++ boolByte f.onLine

/-- BEACON, ANNOUNCE and CONFLICT ready in bits 0 to 2 (log 9). -/
def readyByte (l : LoopInterface) : List Byte :=
  numBytes 1 (l.beaconReady.toNat + 2 * l.announceReady.toNat + 4 * l.conflictReady.isSome.toNat)

/-- READ_LOOP (R44); the bit rate in use is the number of the two RATE strap bits (DESIGN CHOICE, log 9; unsafe). -/
def loopBody (s : State) : List Byte :=
  numBytes 1 (stationStateCode s.member.state) ++ numBytes 1 s.unit.rate.toNat ++ numBytes 1 s.loop.faultScore
    ++ boolByte s.cfg.autoRejoin ++ numBytes 1 s.loop.queue.length ++ numBytes 1 (portFrames s.loop.queue)
    ++ s.loop.queue.flatMap queuedBytes ++ readyByte s.loop

def execReadLoop (b : Body Unit) (s : State) : Host.Outcome State Fault Refusal := request b s (fun _ => readAnswer loopBody)

/-- Beacon flags and three counts, 0 when absent (log 9). -/
def summaryBytes (p : Option PeerSummary) : List Byte :=
  match p with
  | none => [0#8, 0#8, 0#8, 0#8]
  | some p => numBytes 1 (beaconFlagByte p.flags) ++ numBytes 1 p.custodyCount ++ numBytes 1 p.outbound
      ++ numBytes 1 p.openRequests

/-- A peer's role, 0 when absent (log 9). -/
def optRoleByte (r : Option Role) : List Byte :=
  match r with
  | none => [0#8]
  | some r => numBytes 1 (roleCode r)

def peerPresence (e : PeerEntry) : Nat :=
  e.role.isSome.toNat + 2 * e.summary.isSome.toNat + 4 * e.serial.isSome.toNat + 8 * e.alarm.isSome.toNat

/-- A READ_PEERS entry, 16 bytes; a field that its presence bit marks absent is sent as 0, which R180 does not say (DESIGN CHOICE,
log 9; unsafe). -/
def peerBytes (n : Nat) (e : PeerEntry) : List Byte :=
  numBytes 1 n ++ numBytes 1 (peerStateCode e.state) ++ numBytes 1 (peerPresence e) ++ optRoleByte e.role
    ++ numBytes 1 (optNat e.m) ++ summaryBytes e.summary ++ serialBytes (e.serial.getD 0)
    ++ numBytes 1 (alarmOptCode e.alarm) ++ numBytes 2 e.silence

/-- The station numbers 1 to 56. -/
abbrev stationNumbers : List Nat := List.range' 1 56

/-- The entries that are not UNKNOWN, in order of station number. -/
def State.knownPeers (s : State) : List Nat := stationNumbers.filter (fun n => (s.peer n).state != .unknown)

def peersBody (first : Nat) (s : State) : List Byte :=
  page [] (s.knownPeers.map (fun n => peerBytes n (s.peer n))) first

def execReadPeers (b : Body Nat) (s : State) : Host.Outcome State Fault Refusal :=
  request b s (fun first => readAnswer (peersBody first))

/-! ### Counting (R101) -/

/-- The target tag, which only a RECOUNT or UNPACK session has (5.4, R100). -/
def targetPart (mode : CountMode) (tag : Nat) : Option Nat := if isStanding mode then none else some tag

/-- The mode, then the target tag and the expected pieces, each an optional part (5.4, R178). -/
def jobBytes (j : CountJob) : List Byte :=
  numBytes 1 (modeCode j.mode) ++ partBytes (targetPart j.mode j.tag) tagBytes ++ partBytes j.expected (numBytes 3)

/-- The job as READ_COUNT reports it: with no session since the start, mode, target tag and expected pieces are each absent
(R101, R178). -/
def jobPart : Option CountJob → List Byte
  | none => [0#8, 0#8, 0#8]
  | some j => 1#8 :: jobBytes j

def outcomeBytes : CountOutcome → List Byte
  | .opened => [0#8, 0#8]
  | .completed => [1#8, 0#8]
  | .damaged => [2#8, 0#8]
  | .aborted .request => [3#8, 1#8]
  | .aborted .noRecords => [3#8, 2#8]

def batchPartBytes (b : BatchPart) : List Byte :=
  numBytes 1 (endCauseCode b.cause) ++ boolByte b.incomplete ++ numBytes 2 b.damage.toNat ++ numBytes 1 b.taken
    ++ numBytes 1 b.dropped ++ numBytes 1 b.lost ++ partBytes b.endFigure (numBytes 2)

def strapBytes (f : StrapFigure) : List Byte := numBytes 1 f.slot ++ numBytes 2 f.straps ++ numBytes 2 f.loose

/-- The tally part: of each slot in turn the good and then the suspect pieces, and the strap figures as a count byte and then slot,
straps and loose pieces of each. R100, R106 and R178 give neither form (DESIGN CHOICE, log 9; unsafe). -/
def tallyBytes (t : TallyPart) : List Byte :=
  slots.flatMap (fun d => numBytes 2 (atSlot t.good d) ++ numBytes 2 (atSlot t.suspect d))
    ++ numBytes 3 t.piecesGood ++ numBytes 3 t.piecesSusp ++ valueBytes t.countedValue ++ valueBytes t.suspectValue
    ++ partBytes t.mismatch boolByte ++ numBytes 1 t.straps.length ++ t.straps.flatMap strapBytes

/-- A list of slots: a count byte, then the slots. R178 gives no form for one (DESIGN CHOICE, log 9; unsafe). -/
def slotListBytes (l : List Nat) : List Byte := numBytes 1 l.length ++ l.flatMap (numBytes 1)

def reconBytes (r : ReconciliationPart) : List Byte :=
  valueBytes r.declared ++ signedBytes r.variance ++ valueBytes r.tolerance ++ numBytes 1 (varianceCode r.cls)
    ++ partBytes r.mismatchSlots slotListBytes

/-- The position part: the clamped pieces as a composition, then the value sent to the difference total in the 6 bytes of a total. R119
and R178 give neither form (DESIGN CHOICE, log 9; unsafe). -/
def positionPartBytes (p : PositionPart) : List Byte := compBytes p.clamped ++ signedBytes p.value

def resultBytes (r : CountResult) : List Byte :=
  numBytes 1 (modeCode r.mode) ++ partBytes (targetPart r.mode r.tag) tagBytes ++ numBytes 2 r.batchNumber ++ outcomeBytes r.outcome
    ++ partBytes r.batch batchPartBytes ++ partBytes r.tally tallyBytes ++ partBytes r.recon reconBytes
    ++ partBytes r.position positionPartBytes

/-- READ_COUNT (R101, R178). -/
def countBody (s : State) : List Byte :=
  numBytes 1 (countStateCode s.count.state) ++ jobPart s.count.job ++ numBytes 2 s.count.batchNumber
    ++ numBytes 1 s.count.fifo.length ++ numBytes 1 s.count.batch.taken ++ numBytes 1 s.count.batch.dropped
    ++ numBytes 1 s.count.batch.lost ++ numBytes 3 s.count.batch.good ++ numBytes 2 s.count.batch.damage.toNat
    ++ partBytes s.count.noRecordEnds (remainingBytes s) ++ numBytes 2 s.count.stray ++ numBytes 2 s.cfg.threshold
    ++ numBytes 1 s.cfg.countLine.baud ++ numBytes 1 s.cfg.countLine.parity ++ numBytes 1 s.cfg.countLine.stop
    ++ partBytes s.count.result resultBytes

def execReadCount (b : Body Unit) (s : State) : Host.Outcome State Fault Refusal :=
  request b s (fun _ => readAnswer countBody)

/-! ### Position (R131) -/

def positionSlot (s : State) (d : Nat) : List Byte :=
  numBytes 2 (s.pieces d) ++ valueBytes (s.pieces d * s.cfg.face d) ++ numBytes 2 (s.cfg.floatSlot d).target
    ++ numBytes 2 (s.cfg.floatSlot d).pickup ++ numBytes 2 (s.cfg.floatSlot d).change

/-- Every field of the Float State (R122, R131), its compositions without presence byte, with no pair when there is none (DESIGN
CHOICE, log 9; unsafe). -/
def floatBytes (f : FloatState) : List Byte :=
  compBytes f.pickup ++ valueBytes f.pickupValue ++ compBytes f.uncapped ++ valueBytes f.uncappedValue
    ++ compBytes f.topup ++ valueBytes f.topupValue ++ slotListBytes f.low ++ boolByte f.urgent
    ++ boolByte f.pickupNeed ++ boolByte f.topupNeed ++ boolByte f.changeNeed ++ boolByte f.capped

/-- The three auto-raise settings in bits 0 to 2 of one byte, as SET_FLOAT_STATION carries them (R121); R131 and R178 give them no
form in READ_POSITION (DESIGN CHOICE, log 9; unsafe). -/
def autoRaiseByte (cfg : Settings) : List Byte :=
  numBytes 1 (cfg.autoPickup.toNat + 2 * cfg.autoTopup.toNat + 4 * cfg.autoChange.toNat)

/-- The body of READ_POSITION; with many slots in three compositions it can pass 255 bytes, and what the port then sends is
`Config.longResponse` (log 9). -/
def positionBody (s : State) : List Byte :=
  slots.flatMap (positionSlot s) ++ valueBytes s.positionValue ++ valueBytes s.cfg.pickupTrigger
    ++ valueBytes s.cfg.topupCap ++ autoRaiseByte s.cfg ++ floatBytes s.position.float

def execReadPosition (b : Body Unit) (s : State) : Host.Outcome State Fault Refusal :=
  request b s (fun _ => readAnswer positionBody)

/-! ### Service (R148) -/

def phaseCode : RequestPhase → Nat
  | .opened => 0
  | .claimed _ _ => 1
  | .serving _ _ _ => 2

def phaseClaimAge : RequestPhase → Nat
  | .opened => 0
  | .claimed _ a => a
  | .serving _ a _ => a

def phaseTag : RequestPhase → Nat
  | .opened => 0
  | .claimed _ _ => 0
  | .serving _ _ t => t

/-- A READ_REQUESTS entry, 28 + 3n bytes. -/
def requestBytes (s : State) (r : OwnRequest) : List Byte :=
  numBytes 1 r.id ++ numBytes 1 (needCode r.kind) ++ numBytes 1 (urgencyCode r.urgency) ++ numBytes 1 (phaseCode r.phase)
    ++ boolByte r.reopened ++ valueBytes r.value ++ ageBytes (s.clock - r.raisedAt) ++ ageBytes r.openAge
    ++ numBytes 1 (optNat (claimantOf r.phase)) ++ ageBytes (phaseClaimAge r.phase) ++ tagBytes (phaseTag r.phase)
    ++ compBytes r.comp

def requestSettings (s : State) : List Byte :=
  numBytes 1 s.service.nextId ++ numBytes 1 s.cfg.requestLimit ++ numBytes 1 s.cfg.escalation
    ++ numBytes 1 s.cfg.claimLimit

def requestsBody (first : Nat) (s : State) : List Byte :=
  page (requestSettings s) (s.service.requests.map (requestBytes s)) first

def execReadRequests (b : Body Nat) (s : State) : Host.Outcome State Fault Refusal :=
  request b s (fun first => readAnswer (requestsBody first))

/-- The time until a LISTED backup entry becomes eligible (R148); 0 for every other entry, a CLAIMING or WON backup entry whose
delay has not passed among them, of which R148 says nothing (DESIGN CHOICE, log 9; unsafe). -/
def backupRemaining (s : State) (e : ServiceEntry) : Nat :=
  if e.state == .listed && !inPrimary s.cfg.cover e.requester && inBackup s.cfg.cover e.requester then
    secondsLeft s.clock (backupDue s.cfg.cover e)
  else 0

/-- Urgency, reopened, eligible in bits 0 to 2; R180 gives their order only (DESIGN CHOICE, log 9; unsafe). -/
def serviceFlags (s : State) (e : ServiceEntry) : Nat :=
  urgencyCode e.urgency + 2 * e.reopened.toNat + 4 * (s.eligible e).toNat

/-- A READ_SERVICE entry, 19 + 3n bytes. -/
def serviceBytes (s : State) (e : ServiceEntry) : List Byte :=
  numBytes 1 e.requester ++ numBytes 1 e.id ++ numBytes 1 (needCode e.kind) ++ numBytes 1 (serviceFlags s e)
    ++ numBytes 1 (serviceStateCode e.state) ++ valueBytes e.value ++ ageBytes (s.clock - e.heard)
    ++ numBytes 4 (backupRemaining s e) ++ compBytes e.comp

/-- The commitments and the cover settings, the backup delay in the 2 bytes SET_COVER carries it in, where R178 has reported times
in 4 (DESIGN CHOICE, log 9; unsafe). -/
def coverBytes (s : State) : List Byte :=
  numBytes 1 s.commitments ++ numBytes 1 s.cfg.cover.primaryLow ++ numBytes 1 s.cfg.cover.primaryHigh
    ++ numBytes 1 s.cfg.cover.backupLow ++ numBytes 1 s.cfg.cover.backupHigh ++ numBytes 2 s.cfg.cover.delay

def serviceBody (first : Nat) (s : State) : List Byte :=
  page (coverBytes s) ((serviceOrder s.service.list).map (serviceBytes s)) first

def execReadService (b : Body Nat) (s : State) : Host.Outcome State Fault Refusal :=
  request b s (fun first => readAnswer (serviceBody first))

/-! ### Safe (R164) -/

/-- The time an OPEN window opened, as its age in whole seconds at the read, and the time remaining. R164 gives the first no time
base, and R178 names it neither as an age nor as a remaining time (DESIGN CHOICE, log 9; unsafe). -/
def windowBytes (s : State) (w : CourierWindow) : List Byte := ageBytes (s.clock - w.opened) ++ remainingBytes s w.ends

/-- The two times are one optional part, behind one presence byte, since R164 names them together under one condition (DEDUCED, log 9;
unsafe). -/
def windowBody (s : State) : List Byte :=
  boolByte s.safe.window.isSome ++ numBytes 2 s.safe.windowNumber ++ partBytes s.safe.window (windowBytes s)

def execReadWindow (b : Body Unit) (s : State) : Host.Outcome State Fault Refusal :=
  request b s (fun _ => readAnswer windowBody)

def memberBytes (c : Container) : List Byte := tagBytes c.tag ++ valueBytes c.value ++ boolByte c.counted.isSome

/-- The record of READ_SACK, then its members (R164); the manifest check in 4 bytes, the width R180 gives it in READ_DISPATCHES alone
(DEDUCED, log 9; unsafe). -/
def sackBody (s : State) (c : Container) (k : SackFields) : List Byte :=
  numBytes 1 (sackStateCode k.state) ++ numBytes 1 k.count ++ valueBytes c.value ++ partBytes k.check (numBytes 4)
    ++ (s.members k).flatMap memberBytes

/-- READ_SACK of a tag that is not in the table: at a TILL or DESK CLASS_NOT_ALLOWED, as for any tag that is not a sack, else
NOT_FOUND (R164). A part with an invalid role is neither, so the general answer stands for it (DEDUCED, log 9; unsafe). -/
def noSackStatus : Option Role → Status
  | some .till => .classNotAllowed
  | some .desk => .classNotAllowed
  | some .safe => .notFound
  | none => .notFound

def readSack (tag : Nat) (s : State) : State :=
  match s.container? tag with
  | none => refuse (noSackStatus s.unit.role) s
  | some c =>
    match c.cls, c.sack with
    | .courierSack, some k => answer .ok (sackBody s c k) s
    | _, _ => refuse .classNotAllowed s

def execReadSack (b : Body Nat) (s : State) : Host.Outcome State Fault Refusal := request b s readSack

/-- A READ_DISPATCHES entry, 16 bytes. -/
def dispatchBytes (d : DispatchRecord) : List Byte :=
  tagBytes d.tag ++ valueBytes d.value ++ numBytes 1 d.count ++ numBytes 4 d.check ++ numBytes 2 d.window

def dispatchesBody (first : Nat) (s : State) : List Byte := page [] (s.safe.dispatches.map dispatchBytes) first

def execReadDispatches (b : Body Nat) (s : State) : Host.Outcome State Fault Refusal :=
  request b s (fun first => readAnswer (dispatchesBody first))

end Sys2Proof.Machine
end

