-- ==== Sys2Proof/Machine/Settings.lean ====
section
/-! DEFINITION. Family: configuration and joining. START, STOP, REJOIN (R43, R49, R55), the SET_ requests (R45 to R48, R63, R85,
R92, R107, R120, R121, R137, R155, R176), SET_ATTENTION_MASK (R169) and UNKNOWN_KIND_REQUEST (R166). -/

namespace Sys2Proof.Machine

/-- A request whose kind byte names no request is answered BAD_KIND (R166); the byte itself is not looked at (log 25; safe). -/
def execUnknownKindRequest (_kind : Nat) (s : State) : Host.Outcome State Fault Refusal :=
  request (.fields ()) s (fun _ s => refuse .badKind s)

/-! ### Station state requests -/

/-- What an accepted START does before its answer (R48, R49). -/
def startStation (s : State) : State :=
  evaluate { s with member :=
    { stationAt .listening s.member with mInForce := s.cfg.beaconM, duplicate := none, peers := unknownPeers,
                                         listeningEnds := some (s.clock + Config.listening) } }

/-- START: in STOPPED with a valid role (R49). -/
def startRequest (s : State) : State :=
  if s.member.state ≠ .stopped then refuse .badState s
  else if s.unit.role.isNone then refuse .roleInvalid s
  else answer .ok [] (startStation s)

def execStart (b : Body Unit) (s : State) : Host.Outcome State Fault Refusal := request b s (fun _ => startRequest)

/-- Work in flight that refuses a STOP (R55). -/
def State.workInFlight (s : State) : Bool :=
  s.custody.table.any (fun c => inHandover c.state)
    || s.custody.inbound.any (fun e => e.state == .taking || e.state == .unsure)
    || s.service.requests.any (fun r => r.phase != .opened)
    || s.count.state.sessionOpen
    || s.safe.window.isSome

/-- STOP (R55). -/
def stopRequest (s : State) : State :=
  if s.member.state = .unconfigured ∨ s.member.state = .stopped then refuse .badState s
  else if s.workInFlight then refuse .badState s
  else answer .ok [] (enterStopped s)

def execStop (b : Body Unit) (s : State) : Host.Outcome State Fault Refusal := request b s (fun _ => stopRequest)

/-- REJOIN: taken in WITHDRAWN (R43). -/
def rejoinRequest (s : State) : State :=
  if s.member.state = .withdrawn then answer .ok [] (rejoinLoop s) else refuse .badState s

def execRejoin (b : Body Unit) (s : State) : Host.Outcome State Fault Refusal := request b s (fun _ => rejoinRequest)

/-! ### SET_ requests (R45) -/

/-- The station states in which a SET_ request is taken. -/
def settable : StationState → Bool
  | .unconfigured => true
  | .stopped => true
  | .listening => false
  | .announcing => false
  | .onLoop => false
  | .duplicate => false
  | .withdrawn => false

/-- An accepted SET_ request: UNCONFIGURED becomes STOPPED once the configuration is complete; answered OK (R45). -/
def accepted (s : State) : State :=
  answer .ok [] (if s.member.state == .unconfigured && s.cfg.complete then setStation .stopped s else s)

/-- A SET_ request: refused with BAD_STATE outside UNCONFIGURED and STOPPED (R45). -/
def setting (run : α → State → State) (a : α) (s : State) : State :=
  if settable s.member.state then run a s else refuse .badState s

def setCfg (cfg : Settings) (s : State) : State := { s with cfg := cfg }

/-- SET_STATION (R46). The place of the new own number holds no peer record from now on (R58; DEDUCED, log 13). -/
def writeStation (number : Nat) (s : State) : State :=
  let n := clamp 1 Config.maxStation number
  if s.member.state = .stopped ∧ ¬ (s.custody.inbound.isEmpty ∧ s.service.requests.isEmpty) then refuse .badState s
  else accepted (setPeer n unknownPeer (setCfg { s.cfg with number := some n } s))

def execSetStation (b : Body Nat) (s : State) : Host.Outcome State Fault Refusal := request b s (setting writeStation)

/-- The denomination a SET_DENOMINATION writes, clamped (R47). -/
def denominationOf (f : DenominationFields) (kind : SlotKind) : Denomination :=
  { face := clamp 0 500000 f.face, kind := kind, unit := clamp 1 1000 f.unit }

/-- The position holds no piece. -/
def State.positionEmpty (s : State) : Bool := slots.all (fun d => s.pieces d == 0)

/-- No slot but this one is in use. -/
def Settings.onlySlot (cfg : Settings) (slot : Nat) : Bool := slots.all (fun d => d == slot || !cfg.inUse d)

/-- SET_DENOMINATION, then an evaluation (R47, R122). A kind byte that 11.4 does not list is a field outside its permitted values
(R166) and BAD_LENGTH, not clamped to COIN as R45 could be read (DEDUCED, log 22; unsafe). -/
def writeDenomination (f : DenominationFields) (s : State) : State :=
  if Config.slotCount ≤ f.slot then refuse .badLength s
  else
    match slotKindOfCode f.kind with
    | none => refuse .badLength s
    | some k =>
      if ¬ (s.positionEmpty ∧ s.custody.table.isEmpty) then refuse .badState s
      else if s.member.state = .stopped ∧ f.face = 0 ∧ s.cfg.inUse f.slot ∧ s.cfg.onlySlot f.slot then refuse .badState s
      else accepted (evaluate (setCfg { s.cfg with denoms := s.cfg.denoms.setIfInBounds f.slot (denominationOf f k) } s))

def execSetDenomination (b : Body DenominationFields) (s : State) : Host.Outcome State Fault Refusal :=
  request b s (setting writeDenomination)

/-- SET_LOOP (R48). -/
def writeLoop (f : LoopFields) (s : State) : State :=
  accepted (setCfg { s.cfg with autoRejoin := onOff f.autoRejoin, beaconM := clamp 0 15 f.m } s)

def execSetLoop (b : Body LoopFields) (s : State) : Host.Outcome State Fault Refusal := request b s (setting writeLoop)

/-- The transit limits with the limit of a class written; a sack has none (R63). -/
def TransitLimits.write (t : TransitLimits) (c : ContainerClass) (minutes : Nat) : TransitLimits :=
  match c with
  | .floatBag => { t with floatBag := minutes }
  | .pickupPouch => { t with pickupPouch := minutes }
  | .depositBag => { t with depositBag := minutes }
  | .changeStock => { t with changeStock := minutes }
  | .courierSack => t

/-- SET_TRANSIT (R63). -/
def writeTransit (f : TransitFields) (s : State) : State :=
  match classOfCode f.cls with
  | none => refuse .badLength s
  | some .courierSack => refuse .badLength s
  | some c => accepted (setCfg { s.cfg with transit := s.cfg.transit.write c (clamp 1 240 f.minutes) } s)

def execSetTransit (b : Body TransitFields) (s : State) : Host.Outcome State Fault Refusal :=
  request b s (setting writeTransit)

/-- SET_COUNT_LINE; a record being assembled is abandoned as stray (R85), one of which State has not been told too (log 14). On the loop with a session open both BAD_STATE
(R45) and BUSY (R85) apply: BAD_STATE, since `setting` checks the station state first (DEDUCED, log 10; unsafe). -/
def writeCountLine (midRecord : Bool) (f : CountLineFields) (s : State) : State :=
  if s.count.state.sessionOpen then refuse .busy s
  else
    let t := setCfg { s.cfg with
      countLine := { baud := clamp 0 3 f.baud, parity := clamp 0 2 f.parity, stop := clamp 1 2 f.stop } } s
    accepted (if midRecord && !t.count.discarding then recordAbandoned t else abandonAssembly t)

def execSetCountLine (b : Body CountLineFields) (midRecord : Bool) (s : State) : Host.Outcome State Fault Refusal :=
  request b s (setting (writeCountLine midRecord))

/-- SET_COUNT writes the progress threshold (R92); what it means for a batch in progress is said at `progressReached`. -/
def writeThreshold (n : Nat) (s : State) : State := accepted (setCfg { s.cfg with threshold := clamp 0 65535 n } s)

def execSetCount (b : Body Nat) (s : State) : Host.Outcome State Fault Refusal := request b s (setting writeThreshold)

/-- SET_TOLERANCE (R107). -/
def writeTolerance (f : ToleranceFields) (s : State) : State :=
  accepted (setCfg { s.cfg with tolAbs := clamp 0 65535 f.absolute, tolRel := clamp 0 500 f.relative } s)

def execSetTolerance (b : Body ToleranceFields) (s : State) : Host.Outcome State Fault Refusal :=
  request b s (setting writeTolerance)

/-- The float settings a SET_FLOAT writes (R120). -/
def floatSlotOf (f : FloatFields) : FloatSlot :=
  { target := clamp 0 65535 f.target, pickup := clamp 0 65535 f.pickup, change := clamp 0 65535 f.change }

/-- SET_FLOAT, then an evaluation (R120, R122). -/
def writeFloat (f : FloatFields) (s : State) : State :=
  if Config.slotCount ≤ f.slot then refuse .badLength s
  else accepted (evaluate (setCfg { s.cfg with floats := s.cfg.floats.setIfInBounds f.slot (floatSlotOf f) } s))

def execSetFloat (b : Body FloatFields) (s : State) : Host.Outcome State Fault Refusal := request b s (setting writeFloat)

/-- The settings after a SET_FLOAT_STATION; auto-raise bits 0 to 2 are PICKUP, TOPUP, CHANGE (R121, 11.4); bits
3 to 7 are not looked at (DESIGN CHOICE, log 22; unsafe). -/
def floatStationOf (f : FloatStationFields) (cfg : Settings) : Settings :=
  { cfg with pickupTrigger := clamp 0 Config.valueMax f.pickupTrigger, topupCap := clamp 0 Config.valueMax f.topupCap,
             autoPickup := f.autoRaise.getLsbD 0, autoTopup := f.autoRaise.getLsbD 1,
             autoChange := f.autoRaise.getLsbD 2 }

/-- SET_FLOAT_STATION, then an evaluation (R121, R122). -/
def writeFloatStation (f : FloatStationFields) (s : State) : State :=
  accepted (evaluate (setCfg (floatStationOf f s.cfg) s))

def execSetFloatStation (b : Body FloatStationFields) (s : State) : Host.Outcome State Fault Refusal :=
  request b s (setting writeFloatStation)

/-- SET_SERVICE (R137). -/
def writeService (f : ServiceFields) (s : State) : State :=
  accepted (setCfg { s.cfg with requestLimit := clamp 1 240 f.requestLimit, escalation := clamp 0 240 f.escalation,
                                claimLimit := clamp 1 120 f.claimLimit } s)

def execSetService (b : Body ServiceFields) (s : State) : Host.Outcome State Fault Refusal :=
  request b s (setting writeService)

/-- The cover a SET_COVER writes (R137). -/
def coverOf (f : CoverFields) : Cover :=
  { primaryLow := clamp 1 56 f.primaryLow, primaryHigh := clamp 1 56 f.primaryHigh, backupLow := clamp 1 56 f.backupLow,
    backupHigh := clamp 1 56 f.backupHigh, delay := clamp 0 600 f.delay }

def writeCover (f : CoverFields) (s : State) : State := accepted (setCfg { s.cfg with cover := coverOf f } s)

def execSetCover (b : Body CoverFields) (s : State) : Host.Outcome State Fault Refusal := request b s (setting writeCover)

/-- SET_SACK (R155). -/
def writeSack (n : Nat) (s : State) : State := accepted (setCfg { s.cfg with uncounted := onOff n } s)

def execSetSack (b : Body Nat) (s : State) : Host.Outcome State Fault Refusal := request b s (setting writeSack)

/-- SET_DOOR (R176). -/
def writeDoor (n : Nat) (s : State) : State := accepted (setCfg { s.cfg with holdLimit := clamp 10 600 n } s)

def execSetDoor (b : Body Nat) (s : State) : Host.Outcome State Fault Refusal := request b s (setting writeDoor)

/-- SET_ATTENTION_MASK, taken in every station state; bits that stand for no ordinary reason are not kept (R169;
DESIGN CHOICE, log 22; safe). -/
def writeMask (m : FlagWord) (s : State) : State :=
  answer .ok [] { s with attn := { s.attn with mask := m &&& ordinaryReasons } }

def execSetAttentionMask (b : Body FlagWord) (s : State) : Host.Outcome State Fault Refusal := request b s writeMask

end Sys2Proof.Machine
end

