-- ==== Sys2Proof/Machine/Starts.lean ====
section
/-! DEFINITION. Family: starts and supply (R19 to R23, R177): POWER_UP, COLD_START, WARM_START, RESET_PIN_LOW,
SELECT_RELEASE, MAIN_SUPPLY_LOSS, and the RESET and ERASE requests. -/

namespace Sys2Proof.Machine

/-! ### What a warm start does to the retained records (R22) -/

/-- A container after a warm start (R22, R66): its refusal window and recall timer are gone, its OVERDUE alarm is the one
that R23 raises again. -/
def warmContainer (cfg : Settings) (clock : Nat) (c : Container) : Container :=
  let d : Container := { c with refusal := none, recallEnds := none, overdueAlarm := c.state == .overdue }
  match c.state with
  | .offering => { d with state := .held, handover := none, lastResult := .noAnswer }
  | .outbound =>
    { d with handover := c.handover.map (fun h => { h with deadline := clock + cfg.transitSteps c.cls }) }
  | .recalling =>
    { d with state := .outbound,
             handover := c.handover.map (fun h => { h with deadline := clock + cfg.transitSteps c.cls }) }
  | .counting => { d with state := .held, deferred := none }
  | .held => d
  | .overdue => d
  | .nested => d

def warmInbound (cfg : Settings) (clock : Nat) (e : InboundEntry) : InboundEntry :=
  { e with state := if e.state = .taking then .unsure else e.state, queryPending := false, queryWaitEnds := none,
           lapse := clock + cfg.transitSteps e.cls + Config.lapseMargin }

/-- Claim age 0, claimant and linked tag kept. -/
def freshAge : RequestPhase → RequestPhase
  | .opened => .opened
  | .claimed c _ => .claimed c 0
  | .serving c _ t => .serving c 0 t

def warmRequest (clock : Nat) (r : OwnRequest) : OwnRequest :=
  { r with raisedAt := clock, openAge := 0, phase := freshAge r.phase }

/-- The role taken at a warm start: the straps' role when it is the recorded one, else invalid (R23). -/
def warmRole (pins : Pins) (recorded : Option Role) : Option Role :=
  if strapRole pins.roleStraps = recorded then recorded else none

/-- A warm start (R21 to R23, R90, R132, R149, R167, R169, R174 to R176): books kept and adjusted, exchanges and sessions
cleared, condition alarms set from the books, STOPPED or UNCONFIGURED. -/
def warmStart (pins : Pins) (s : State) : State :=
  showLamps
    { s with
      unit := { s.unit with power := .running, role := warmRole pins s.unit.recordedRole, rate := pins.rateStraps },
      custody := { s.custody with table := s.custody.table.map (warmContainer s.cfg s.clock),
                                  inbound := s.custody.inbound.map (warmInbound s.cfg s.clock) },
      loop := idleLoop,
      member := { state := if s.cfg.complete then .stopped else .unconfigured, mInForce := s.cfg.beaconM,
                  listeningEnds := none, announceWaitEnds := none, beaconDue := none, withdrawnAt := none,
                  duplicate := none, peers := unknownPeers },
      count := idleCount,
      position := { s.position with float := clearedFloat },
      service := { s.service with requests := s.service.requests.map (warmRequest s.clock), list := [] },
      safe := { s.safe with window := none },
      attn := quietAttention,
      door := { isOpen := pins.doorOpen, openSince := if pins.doorOpen then some s.clock else none, heldRaised := false,
                allowanceEnds := none },
      lamps := { step := 0, ms := 0, service := false, alarm := false },
      port := { response := none, owed := none } }

/-- A cold start (R20): empty books, defaults, UNCONFIGURED, the retention marker valid, the role recorded (R23). -/
def coldStart (pins : Pins) (s : State) : State := State.cold pins s.unit.serial s.pending

/-- POWER_UP of an unpowered part: warm with the retention marker valid, cold without (R19). POWER_UP of a powered part and a
start of an unpowered one change nothing (DESIGN CHOICE, log 26; safe). -/
def powerUp (pins : Pins) (s : State) : State :=
  if s.unit.power ≠ .off then s else if s.unit.marker then warmStart pins s else coldStart pins s

def execPowerUp (pins : Pins) (s : State) : Host.Outcome State Fault Refusal := .next (powerUp pins s)

/-- COLD_START of a powered part (R20). -/
def execColdStart (pins : Pins) (s : State) : Host.Outcome State Fault Refusal :=
  .next (if s.unit.power = .off then s else coldStart pins s)

/-- WARM_START of a powered part: by the RESET pin returning high, or by RESET (R19, R177). -/
def execWarmStart (pins : Pins) (s : State) : Host.Outcome State Fault Refusal :=
  .next (if s.unit.power = .off then s else warmStart pins s)

/-- What the part stops driving when it is held in reset or unpowered: loop driver, acknowledge slot, response, lamps
(R177). -/
def releaseOutputs (s : State) : State :=
  { s with loop := { s.loop with sending := none, slotDriven := false },
           lamps := { s.lamps with service := false, alarm := false },
           port := { response := none, owed := none } }

/-- RESET_PIN_LOW: a pulse shorter than 10 us is ignored; a longer one holds the part in reset (R177). -/
def resetPinLow (microseconds : Nat) (s : State) : State :=
  if microseconds < 10 || s.unit.power == .off then s
  else releaseOutputs { s with unit := { s.unit with power := .inReset } }

def execResetPinLow (microseconds : Nat) (s : State) : Host.Outcome State Fault Refusal :=
  .next (resetPinLow microseconds s)

/-- MAIN_SUPPLY_LOSS: the part stops; the marker stays valid only while the backup supply holds the memory (R19, R20). -/
def supplyLoss (backupHeld : Bool) (s : State) : State :=
  releaseOutputs { s with unit := { s.unit with power := .off, marker := s.unit.marker && backupHeld } }

def execMainSupplyLoss (backupHeld : Bool) (s : State) : Host.Outcome State Fault Refusal :=
  .next (supplyLoss backupHeld s)

/-- SELECT_RELEASE: the start that a completed RESET or ERASE owes takes place; a response not clocked out is lost, and a
READ_ATTENTION cut short clears nothing (R19, R165, R168). -/
def selectRelease (pins : Pins) (s : State) : State :=
  match s.port.owed with
  | none => newSelect s
  | some .warm => warmStart pins s
  | some .cold => coldStart pins s

def execSelectRelease (pins : Pins) (s : State) : Host.Outcome State Fault Refusal := event s (selectRelease pins)

def oweStart (k : StartKind) (s : State) : State := { s with port := { s.port with owed := some k } }

/-- RESET is answered OK; the warm start follows at select release (R19). -/
def execReset (b : Body Unit) (s : State) : Host.Outcome State Fault Refusal :=
  request b s (fun _ s => answer .ok [] (oweStart .warm s))

/-- The books are empty enough for ERASE (R19). -/
def State.erasable (s : State) : Bool :=
  s.accountable == 0 && s.custody.table.isEmpty && s.custody.inbound.isEmpty && s.service.requests.isEmpty

/-- ERASE with empty books is answered OK; the cold start follows at select release (R19). -/
def execErase (b : Body Unit) (s : State) : Host.Outcome State Fault Refusal :=
  request b s (fun _ s => if s.erasable then answer .ok [] (oweStart .cold s) else refuse .badState s)

end Sys2Proof.Machine
end

