-- ==== Sys2Proof/Machine/Counting.lean ====
section
/-! DEFINITION. Family: counting (chapter 5). COUNT_OPEN, COUNT_CLOSE, COUNT_ABORT; what the count line brings: COUNT_RECORD,
END_RECORD, HALT_RECORD, DROPPED_RECORD, RECORD_ABANDONED, COUNT_LINE_RESYNCHRONISATION, BATCH_IDLE_END; and
NO_RECORD_TIMEOUT. -/

namespace Sys2Proof.Machine

/-! ### COUNT_OPEN (R91) -/

/-- The session a COUNT_OPEN stores; 0 expected pieces mean that none are given. -/
def countJob (m : CountMode) (f : CountOpenFields) : CountJob :=
  { mode := m, tag := f.tag, expected := if f.expected = 0 then none else some f.expected }

/-- The count engine of a session just opened. -/
def openedEngine (s : State) (m : CountMode) (f : CountOpenFields) : CountEngine :=
  { s.count with
    state := .opened, job := some (countJob m f), batchNumber := 0, batch := noBatch, fifo := [], stray := 0, result := none,
    noRecordEnds := if isStanding m then none else some (s.clock + Config.noRecordLimit) }

/-- The lock on the target; its refusal window closes as it leaves HELD (R66, R99). -/
def locked (c : Container) : Container := { c with state := .counting, refusal := none }

def countOpenStanding (m : CountMode) (f : CountOpenFields) (s : State) : State :=
  answer .ok [] (setCount (openedEngine s m f) s)

def countOpenTarget (m : CountMode) (f : CountOpenFields) (s : State) : State :=
  match s.container? f.tag with
  | none => refuse .notFound s
  | some c =>
    if c.cls = .courierSack then refuse .classNotAllowed s
    else if c.state ≠ .held then refuse .badState s
    else answer .ok [] (updateContainer f.tag locked (setCount (openedEngine s m f) s))

/-- The tag is 0 for INTAKE and PAYOUT and not 0 for RECOUNT and UNPACK; expected pieces are at most 999,999. -/
def countOpenForm (m : CountMode) (f : CountOpenFields) : Bool := isStanding m == (f.tag == 0) && f.expected ≤ 999999

def countOpen (f : CountOpenFields) (s : State) : State :=
  if s.member.state = .unconfigured then refuse .badState s
  else
    match modeOfCode f.mode with
    | none => refuse .badLength s
    | some m =>
      if !countOpenForm m f then refuse .badLength s
      else if s.count.state.sessionOpen then refuse .busy s
      else if isStanding m then countOpenStanding m f s
      else countOpenTarget m f s

def execCountOpen (b : Body CountOpenFields) (s : State) : Host.Outcome State Fault Refusal := request b s countOpen

/-! ### COUNT_CLOSE (R97) and COUNT_ABORT (R98) -/

/-- COUNT_CLOSE of a standing session, by its state. -/
def closeStanding (j : CountJob) (s : State) : State :=
  match s.count.state with
  | .opened => answer .ok [] (closeSession j .completed s)
  | .paused => answer .ok [] (closeSession j .completed s)
  | .running => refuse .busy s
  | .idle => refuse .badState s
  | .closed => refuse .badState s

/-- COUNT_CLOSE. A RECOUNT or UNPACK session is refused with BAD_STATE in every state, RUNNING too: R97 says so, and the table
of 5.4, whose RUNNING row shows BUSY, sets nothing of its own. -/
def countClose (s : State) : State :=
  match s.count.job with
  | none => refuse .badState s
  | some j => if isStanding j.mode then closeStanding j s else refuse .badState s

def execCountClose (b : Body Unit) (s : State) : Host.Outcome State Fault Refusal := request b s (fun _ => countClose)

/-- What an abort does by mode and session state (R98). -/
def abortSession (j : CountJob) (s : State) : State :=
  if isStanding j.mode then
    if s.count.state = .running then endBatch .abort none s else closeSession j (.aborted .request) s
  else abandonCount j .request s

def countAbort (s : State) : State :=
  if s.count.state.sessionOpen then
    match s.count.job with
    | none => refuse .badState s
    | some j => answer .ok [] (abortSession j s)
  else refuse .badState s

def execCountAbort (b : Body Unit) (s : State) : Host.Outcome State Fault Refusal := request b s (fun _ => countAbort)

/-! ### The count line (R86 to R94) -/

/-- Something of the count line that is not seen while the receiver discards characters (R86). -/
def onCountLine (run : State → State) (s : State) : State := if s.count.discarding then s else run s

def setDiscarding (on : Bool) (s : State) : State := setCount { s.count with discarding := on } s

/-- A record dropped for a character error or a failed check of R87; after it the receiver discards characters until an idle
gap, and assembles nothing (R86). -/
def dropAndDiscard (r : DropReason) (s : State) : State := setDiscarding true (recordDropped r (endAssembly s))

/-- A complete COUNT record (R87 to R89, R92). -/
def countRecord (r : CountEntry) (s : State) : State :=
  if r.count = 0 then dropAndDiscard .format s
  else if !s.cfg.inUse r.slot then dropAndDiscard .slot s
  else if s.count.state.sessionOpen then recordCounted r s
  else strayRecord s

def execCountRecord (slot : Nat) (suspect : Bool) (count : Nat) (s : State) : Host.Outcome State Fault Refusal :=
  event s (onCountLine (countRecord { slot := slot, suspect := suspect, count := count }))

/-- An END record ends the batch in progress, or begins one and ends it at once (R93). -/
def endRecord (total : Nat) (s : State) : State :=
  if s.count.state.sessionOpen then endBatch .endRecord (some total) (beginBatch s) else strayRecord s

def execEndRecord (total : Nat) (s : State) : Host.Outcome State Fault Refusal :=
  event s (onCountLine (endRecord total))

/-- A HALT record adds HALTED and ends the batch; in PAUSED a further one is ignored (R94). -/
def haltRecord (s : State) : State :=
  match s.count.state with
  | .opened => endBatch .halt none (damageBatch .halted (beginBatch s))
  | .running => endBatch .halt none (damageBatch .halted s)
  | .paused => s
  | .idle => strayRecord s
  | .closed => strayRecord s

def execHaltRecord (s : State) : Host.Outcome State Fault Refusal := event s (onCountLine haltRecord)

/-- A character can have a parity error: parity code 1 or 2 (R86). -/
def parityChecked (cfg : Settings) : Bool := cfg.countLine.parity != 0

/-- The receiver can drop a record for the reason: for PARITY only with a parity bit in the format (R86; DEDUCED, log 15; safe). -/
def dropPossible (cfg : Settings) (r : DropReason) : Bool := r != .parity || parityChecked cfg

/-- A dropped record (R86, R87). -/
def droppedRecord (r : DropReason) (s : State) : State :=
  if dropPossible s.cfg r then dropAndDiscard r s else s

def execDroppedRecord (r : DropReason) (s : State) : Host.Outcome State Fault Refusal :=
  event s (onCountLine (droppedRecord r))

/-- A record abandoned at a gap, which has already passed (R86): the command says that characters of a record had come, whether
or not State has been told of them (DESIGN CHOICE, log 14; safe). -/
def execRecordAbandoned (s : State) : Host.Outcome State Fault Refusal := event s (onCountLine recordAbandoned)

/-- The line has been idle for 2 character times: the receiver stops discarding, and the next character begins a record
(R86). -/
def resynchronise (s : State) : State := setDiscarding false s

def execCountLineResynchronisation (s : State) : Host.Outcome State Fault Refusal := event s resynchronise

/-- The line has been idle for 12 character times: a record being assembled is abandoned, a discarding receiver has had its
gap, and the batch in progress ends (R86, R93; the order is DEDUCED, log 15; unsafe). -/
def batchIdleEnd (s : State) : State :=
  let t := abandonAssembly (setDiscarding false s)
  if t.count.state = .running then endBatch .idle none t else t

def execBatchIdleEnd (s : State) : Host.Outcome State Fault Refusal := event s batchIdleEnd

/-! ### The no-record timer (R96) -/

/-- The no-record timer expires: the session closes as ABORTED with NO_RECORDS and COUNT_DONE is raised. -/
def noRecords (s : State) : State :=
  if reached s.count.noRecordEnds s then
    match s.count.job with
    | none => s
    | some j => raise .countDone (abandonCount j .noRecords s)
  else s

def execNoRecordTimeout (s : State) : Host.Outcome State Fault Refusal := event s noRecords

end Sys2Proof.Machine
end

