-- ==== Sys2Proof/Machine/Handover.lean ====
section
/-! DEFINITION. Family: handover requests (R62, R64, R70, R73, R76, R77, R80, R83): OFFER, TAKE, TAKE_RESOLVE, RECALL, QUERY,
DECLINE. -/

namespace Sys2Proof.Machine

/-- A request that puts a frame on the queue: refused with BAD_STATE outside the four states of R62. -/
def onLoop (run : α → State → State) (a : α) (s : State) : State :=
  if joiningOrJoined s.member.state then run a s else refuse .badState s

/-! ### OFFER (R64, R65, R83) -/

/-- A station number that names a peer: 1 to 56 and not the station's own (R64). -/
def State.namesPeer (s : State) (n : Nat) : Bool := 1 ≤ n && n ≤ Config.maxStation && n != s.own

/-- A deferred offer on a COUNTING container (R83). -/
def offerDeferred (c : Container) (f : OfferFields) (s : State) : State :=
  if c.deferred.isSome then refuse .busy s
  else answer .started []
    (updateContainer c.tag (fun c => { c with deferred := some { peer := f.receiver, purpose := f.purpose } }) s)

/-- The checks of R64 after the state check. -/
def offerHeld (c : Container) (f : OfferFields) (s : State) : State :=
  if c.disputed then refuse .disputed s
  else if !peerReachable (s.peer f.receiver) then refuse .peerAbsent s
  else if !routed s.unit.role (s.peer f.receiver).role c.cls then refuse .classNotAllowed s
  else if !s.portRoom then refuse .loopQueueFull s
  else answer .started [] (makeOffer c f.receiver f.purpose s)

def offerFound (c : Container) (f : OfferFields) (s : State) : State :=
  if c.cls = .courierSack then refuse .classNotAllowed s
  else if c.state = .counting then offerDeferred c f s
  else if c.state ≠ .held then refuse .badState s
  else offerHeld c f s

def offer (f : OfferFields) (s : State) : State :=
  if !s.namesPeer f.receiver then refuse .badLength s
  else
    match s.container? f.tag with
    | none => refuse .notFound s
    | some c => offerFound c f s

def execOffer (b : Body OfferFields) (s : State) : Host.Outcome State Fault Refusal := request b s (onLoop offer)

/-! ### TAKE (R70) -/

/-- The TAKEN frame of an entry; number and value are read again when it goes on the line (R68). -/
def takenPayload (e : InboundEntry) : Payload := .taken { tag := e.tag, number := e.number, value := e.value }

def takeExpected (e : InboundEntry) (s : State) : State :=
  answer .started []
    (enqueue true e.giver (takenPayload e) (updateInbound e.tag (fun e => { e with state := .taking }) s))

/-- The entry of a take without an expectation. -/
def takeEntry (f : TakeFields) (c : ContainerClass) (s : State) : InboundEntry :=
  { giver := f.giver, number := 0, tag := f.tag, cls := c, value := f.value, comp := none, counted := none, purpose := 0,
    origin := f.giver, lapse := s.clock + s.cfg.transitSteps c + Config.lapseMargin, state := .taking,
    queryPending := false, queryWaitEnds := none }

def takeNew (f : TakeFields) (c : ContainerClass) (s : State) : State :=
  let e := takeEntry f c s
  answer .started [] (enqueue true e.giver (takenPayload e) (appendInbound e s))

/-- The checks of every TAKE. -/
def takeRoom (accept : State → State) (s : State) : State :=
  if s.tableFull then refuse .tableFull s
  else if !s.portRoom then refuse .loopQueueFull s
  else accept s

/-- A TAKE whose tag is in the Inbound List. -/
def takeListed (e : InboundEntry) (f : TakeFields) (s : State) : State :=
  if f.giver ≠ 0 ∧ f.giver ≠ e.giver then refuse .duplicateTag s
  else
    match e.state with
    | .expected => takeRoom (takeExpected e) s
    | .taking => refuse .busy s
    | .unsure => refuse .busy s
    | .unresolved => refuse .badState s

/-- A TAKE without an expectation. -/
def takeUnlisted (f : TakeFields) (c : ContainerClass) (s : State) : State :=
  if c = .courierSack ∨ s.namesPeer f.giver = false then refuse .badLength s
  else if !canHold s.unit.role c then refuse .classNotAllowed s
  else if (s.container? f.tag).isSome then refuse .duplicateTag s
  else if Config.inboundCap ≤ s.custody.inbound.length then refuse .tableFull s
  else takeRoom (takeNew f c) s

/-- TAKE; a class code outside the five or tag 0 makes the body invalid (R178; log 10). -/
def take (f : TakeFields) (s : State) : State :=
  match classOfCode f.cls with
  | none => refuse .badLength s
  | some c =>
    if f.tag = 0 then refuse .badLength s
    else
      match s.inbound? f.tag with
      | some e => takeListed e f s
      | none => takeUnlisted f c s

def execTake (b : Body TakeFields) (s : State) : Host.Outcome State Fault Refusal := request b s (onLoop take)

/-! ### TAKE_RESOLVE (R76) -/

/-- The container of an UNRESOLVED entry enters and the UNRESOLVED alarm clears for its tag. -/
def resolveEntry (e : InboundEntry) (s : State) : State := unresolvedCleared e (completeEntry e s)

def takeResolve (tag : Nat) (s : State) : State :=
  if s.member.state = .unconfigured then refuse .badState s
  else
    match s.inbound? tag with
    | none => refuse .notFound s
    | some e =>
      if e.state ≠ .unresolved then refuse .badState s
      else if s.tableFull then refuse .tableFull s
      else answer .ok [] (resolveEntry e s)

def execTakeResolve (b : Body Nat) (s : State) : Host.Outcome State Fault Refusal := request b s takeResolve

/-! ### RECALL (R77) -/

def recallPayload (tag : Nat) (h : HandoverFields) : Payload := .recall { tag := tag, number := h.number }

def recallAccepted (c : Container) (h : HandoverFields) (s : State) : State :=
  answer .started []
    (enqueue true h.peer (recallPayload c.tag h)
      (updateContainer c.tag
        (fun c => { c with state := .recalling, recallEnds := some (s.clock + Config.recallLimit) }) s))

/-- OUTBOUND and OVERDUE containers carry handover fields (R5). -/
def recallFound (c : Container) (s : State) : State :=
  if c.state ≠ .outbound ∧ c.state ≠ .overdue then refuse .badState s
  else if !s.portRoom then refuse .loopQueueFull s
  else
    match c.handover with
    | none => refuse .badState s
    | some h => recallAccepted c h s

def recallRequest (tag : Nat) (s : State) : State :=
  match s.container? tag with
  | none => refuse .notFound s
  | some c => recallFound c s

def execRecall (b : Body Nat) (s : State) : Host.Outcome State Fault Refusal := request b s (onLoop recallRequest)

/-! ### QUERY (R73) -/

def queryAccepted (e : InboundEntry) (s : State) : State :=
  answer .started []
    (enqueue true e.giver (queryPayload e)
      (updateInbound e.tag (fun e => { e with queryPending := true, queryWaitEnds := none }) s))

def queryRequest (tag : Nat) (s : State) : State :=
  match s.inbound? tag with
  | none => refuse .notFound s
  | some e =>
    if e.state = .expected ∨ e.state = .taking then refuse .badState s
    else if e.queryPending then refuse .busy s
    else if !s.portRoom then refuse .loopQueueFull s
    else queryAccepted e s

def execQuery (b : Body Nat) (s : State) : Host.Outcome State Fault Refusal := request b s (onLoop queryRequest)

/-! ### DECLINE (R80) -/

def refusePayload (tag number : Nat) (r : RefuseReason) : Payload := .refuse { tag := tag, number := number, reason := r }

def declineAccepted (e : InboundEntry) (s : State) : State :=
  answer .ok []
    (enqueue true e.giver (refusePayload e.tag e.number .declined) (toldSetback false e.tag (removeInbound e.tag s)))

def decline (tag : Nat) (s : State) : State :=
  match s.inbound? tag with
  | none => refuse .notFound s
  | some e =>
    if e.state ≠ .expected then refuse .badState s
    else if !s.portRoom then refuse .loopQueueFull s
    else declineAccepted e s

def execDecline (b : Body Nat) (s : State) : Host.Outcome State Fault Refusal := request b s (onLoop decline)

end Sys2Proof.Machine
end

