-- ==== Sys2Proof/Machine/Receive.lean ====
section
/-! DEFINITION. Family: reception (R28, R32 to R35, R50, R52, R53, R59 and the rules of the owning blocks). FRAME_DISCARDED,
INTACT_FRAME_HEARD and the fifteen X_RECEIVED commands. A block's handling answers the state and whether it has acted (R35). -/

namespace Sys2Proof.Machine

/-- What an owning block makes of a frame: the state, and whether it has acted on the frame (R35). -/
abbrev Handled := State × Bool

def acted (s : State) : Handled := (s, true)
def notActed (s : State) : Handled := (s, false)

/-! ### Alarms (R173) -/

/-- The active kind of an ALARM is recorded in the sender's Peer Table entry; the station's own number has none (R58). -/
def recordAlarm (sender : Nat) (active : Option AlarmKind) (s : State) : State :=
  if sender = s.own then s else setPeer sender { s.peer sender with alarm := active } s

/-- An ALARM (R173). One under the station's own number comes from another station too, so that its RAISED is told (DEDUCED,
log 18; unsafe). -/
def hearAlarm (sender : Nat) (p : AlarmPayload) (s : State) : Handled :=
  acted (raiseIf (p.action == .raised) .peerAlarm (recordAlarm sender p.active s))

/-! ### The giver's side -/

/-- The release conditions of R71. -/
def releases (sender : Nat) (p : TakenPayload) (c : Container) (h : HandoverFields) : Bool :=
  inTransit c.state && h.peer == sender && (p.number == h.number || p.number == 0) && p.value == c.value

/-- The container and the handover fields that a TAKEN releases. -/
def State.releasedBy (s : State) (sender : Nat) (p : TakenPayload) : Option (Container × HandoverFields) :=
  match s.container? p.tag with
  | none => none
  | some c =>
    match c.handover with
    | none => none
    | some h => if releases sender p c h then some (c, h) else none

/-- A TAKEN (R71). -/
def hearTaken (sender : Nat) (p : TakenPayload) (s : State) : Handled :=
  match s.releasedBy sender p with
  | some (c, h) => acted (releaseContainer c h s)
  | none => notActed (chipFrame sender (refusePayload p.tag p.number .notOffered) s)

/-- A container in transit to the sender under the number (R79, R81). -/
def State.inTransitTo (s : State) (sender tag number : Nat) : Option Container :=
  (s.container? tag).filter (fun c => inTransit c.state && c.offeredTo sender number)

/-- A RECALL_OK (R79). -/
def hearRecallOk (sender : Nat) (p : TagNumber) (s : State) : Handled :=
  match s.inTransitTo sender p.tag p.number with
  | some c => acted (returnToHeld c .recalled .recalled s)
  | none => notActed s

/-- A refusal window is open for the sender and number (R66). -/
def windowFor (sender number : Nat) (c : Container) : Bool :=
  match c.refusal with
  | none => false
  | some w => w.receiver == sender && w.number == number

/-- A HELD container whose refusal window is open for the sender and number. -/
def State.heldWithWindow (s : State) (sender tag number : Nat) : Option Container :=
  (s.container? tag).filter (fun c => c.state == .held && windowFor sender number c)

/-- A REFUSE applied within the refusal window: the result is written and the window closes (R81). -/
def applyWindow (tag : Nat) (result : LastResult) (note : NoteOutcome) (s : State) : State :=
  raiseResult tag .giver note
    (toldSetback true tag (updateContainer tag (fun c => { c with lastResult := result, refusal := none }) s))

/-- CLASS_NOT_ACCEPTED, DUPLICATE_TAG, INBOUND_FULL (R81). -/
def hearRefused (sender : Nat) (p : RefusePayload) (s : State) : Handled :=
  match s.heldWithWindow sender p.tag p.number with
  | some _ => acted (applyWindow p.tag (.refused p.reason) (.refused p.reason) s)
  | none => notActed s

/-- DECLINED (R81). -/
def hearDeclined (sender : Nat) (p : RefusePayload) (s : State) : Handled :=
  match s.inTransitTo sender p.tag p.number, s.heldWithWindow sender p.tag p.number with
  | some c, _ => acted (returnToHeld c .declined .declined s)
  | none, some _ => acted (applyWindow p.tag .declined .declined s)
  | none, none => notActed s

/-- TOO_LATE (R81). -/
def hearTooLate (sender : Nat) (p : RefusePayload) (s : State) : Handled :=
  match s.inTransitTo sender p.tag p.number with
  | some _ =>
    acted (raiseResult p.tag .giver (.refused .tooLate)
      (updateContainer p.tag (fun c => { c with lastResult := .refused .tooLate }) s))
  | none => notActed s

/-- An Inbound List entry from the sender for the tag is TAKING or UNSURE. -/
def State.takingFrom (s : State) (sender tag : Nat) : Bool :=
  match s.inbound? tag with
  | none => false
  | some e => e.giver == sender && (e.state == .taking || e.state == .unsure)

/-- NOT_OFFERED (R81). -/
def hearNotOffered (sender : Nat) (p : RefusePayload) (s : State) : Handled :=
  if s.takingFrom sender p.tag then acted (raiseResult p.tag .receiver (.refused .notOffered) s) else notActed s

/-- A REFUSE, by its reason (R81); COUNT_BLOCKED is in no frame. -/
def hearRefuse (sender : Nat) (p : RefusePayload) (s : State) : Handled :=
  match p.reason with
  | .classNotAccepted => hearRefused sender p s
  | .duplicateTag => hearRefused sender p s
  | .inboundFull => hearRefused sender p s
  | .declined => hearDeclined sender p s
  | .tooLate => hearTooLate sender p s
  | .notOffered => hearNotOffered sender p s
  | .countBlocked => notActed s

/-- Remaining transit time in minutes, 0 when OVERDUE (R74). -/
def remainingMinutes (s : State) (c : Container) (h : HandoverFields) : Nat :=
  if c.state = .overdue then 0 else minutesLeft s.clock h.deadline

/-- The answer from the Custody Table (R74). -/
def State.heldAnswer (s : State) (asker : Nat) (p : TagNumber) : Option AnswerPayload :=
  match s.container? p.tag with
  | none => none
  | some c =>
    match c.handover with
    | none => none
    | some h =>
      if inTransit c.state && h.peer == asker then
        some { tag := p.tag, answer := .heldForYou, number := h.number, remaining := remainingMinutes s c h, value := 0 }
      else none

/-- The newest release of the tag to the asker, under the number unless it is 0 (R74). -/
def State.releaseFor (s : State) (asker : Nat) (p : TagNumber) : Option ReleaseEntry :=
  s.custody.releases.reverse.find? (fun r => r.tag == p.tag && r.receiver == asker && (p.number == 0 || r.number == p.number))

/-- What the giver finds, in the order of R74's rows. A container on its books that is not in transit to the asker is passed over, so
that a matching release of its tag answers, where R99, R163 and the sentence after R74's table say NOT_KNOWN of one COUNTING, NESTED,
HELD or OFFERING (DEDUCED, log 30; unsafe). -/
def State.answerTo (s : State) (asker : Nat) (p : TagNumber) : AnswerPayload :=
  match s.heldAnswer asker p, s.releaseFor asker p with
  | some a, _ => a
  | none, some r => { tag := p.tag, answer := .releasedToYou, number := r.number, remaining := 0, value := r.value }
  | none, none => { tag := p.tag, answer := .notKnown, number := p.number, remaining := 0, value := 0 }

/-- A QUERY; acknowledged when the ANSWER has joined the queue (R74). -/
def hearQuery (sender : Nat) (p : TagNumber) (s : State) : Handled :=
  (chipFrame sender (.answer (s.answerTo sender p)) s, s.chipJoins)

/-! ### The receiver's side -/

/-- An entry is removed as lapsed (R69); its UNRESOLVED alarm, if it has one, clears (R76). -/
def lapseEntry (e : InboundEntry) (s : State) : State :=
  unresolvedCleared e (raise .inboundLapsed (toldSetback false e.tag (removeInbound e.tag s)))

/-- The lapse time that a carried remaining transit time gives (R69, R75), also one above 240 minutes (DEDUCED, log 19; unsafe). -/
def lapseAfter (s : State) (minutes : Nat) : Nat := s.clock + minutes * Config.minute + Config.lapseMargin

/-- The entry an OFFER registers (R67, R69). -/
def offeredEntry (sender : Nat) (p : OfferPayload) (s : State) : InboundEntry :=
  { giver := sender, number := p.number, tag := p.tag, cls := p.cls, value := p.value, comp := p.comp, counted := p.counted,
    purpose := p.purpose, origin := p.origin, lapse := lapseAfter s p.remaining, state := .expected, queryPending := false,
    queryWaitEnds := none }

/-- The state of an entry that an OFFER updates (R68). -/
def stateUpdated : InboundState → InboundState
  | .expected => .expected
  | .taking => .taking
  | .unsure => .expected
  | .unresolved => .expected

/-- The arrival of an OFFER is told: OFFER_ARRIVED and the service unit (R67, R68). -/
def offerTold (sender : Nat) (p : OfferPayload) (s : State) : State :=
  raise .offerArrived (toldOffer false sender p.purpose p.tag s)

/-- An OFFER updates the entry it finds, in its place (R68). -/
def updateOffered (sender : Nat) (p : OfferPayload) (e : InboundEntry) (s : State) : State :=
  let fresh := { offeredEntry sender p s with state := stateUpdated e.state }
  offerTold sender p (unresolvedCleared e (updateInbound p.tag (fun _ => fresh) s))

def refuseOffer (sender : Nat) (p : OfferPayload) (r : RefuseReason) (s : State) : Handled :=
  notActed (chipFrame sender (refusePayload p.tag p.number r) s)

/-- Registration of an OFFER when the list has room (R67). -/
def registerOffer (sender : Nat) (p : OfferPayload) (s : State) : Handled :=
  if Config.inboundCap ≤ s.custody.inbound.length then refuseOffer sender p .inboundFull s
  else acted (offerTold sender p (appendInbound (offeredEntry sender p s) s))

/-- The entries of a giver with a handover number and another tag (R67, R68). -/
def State.sameNumber (s : State) (giver number tag : Nat) : List InboundEntry :=
  s.custody.inbound.filter (fun e => e.giver == giver && e.number == number && e.tag != tag)

/-- The container of the entry is on its way in, or may have come in: TAKING or UNSURE (R7, R67). -/
def underTake (e : InboundEntry) : Bool := e.state == .taking || e.state == .unsure

/-- An OFFER that passes the number check of R67: an entry of its tag is updated, another tag is registered (R67, R68). -/
def placeOffer (sender : Nat) (p : OfferPayload) (s : State) : Handled :=
  match s.inbound? p.tag with
  | some e => acted (updateOffered sender p e s)
  | none => registerOffer sender p s

/-- The number check of R67, with the removal of R68: every OFFER reaches it, one that updates an entry too, so that no two
entries of a giver come to share a number (R9; DEDUCED, log 19). -/
def offerNumbered (sender : Nat) (p : OfferPayload) (s : State) : Handled :=
  let others := s.sameNumber sender p.number p.tag
  if others.any underTake then refuseOffer sender p .duplicateTag s
  else placeOffer sender p (others.foldl (fun s e => lapseEntry e s) s)

/-- The Inbound List holds the tag under another giver (R67). -/
def State.listedElsewhere (s : State) (sender tag : Nat) : Bool :=
  match s.inbound? tag with
  | none => false
  | some e => e.giver != sender

/-- An OFFER, checked in the order of R67. -/
def hearOffer (sender : Nat) (p : OfferPayload) (s : State) : Handled :=
  if !routed (some p.role) s.unit.role p.cls then refuseOffer sender p .classNotAccepted s
  else if (s.container? p.tag).isSome then refuseOffer sender p .duplicateTag s
  else if s.listedElsewhere sender p.tag then refuseOffer sender p .duplicateTag s
  else offerNumbered sender p s

/-- An ANSWER is for the entry (R75). -/
def answersEntry (sender : Nat) (p : AnswerPayload) (e : InboundEntry) : Bool :=
  e.giver == sender && (e.state == .unsure || e.state == .unresolved) && (e.number == p.number || e.number == 0)

/-- The entry of HELD_FOR_YOU (R75). -/
def heldEntry (p : AnswerPayload) (s : State) (e : InboundEntry) : InboundEntry :=
  { clearQuery e with state := .expected, number := p.number, lapse := lapseAfter s p.remaining }

/-- Another entry of the giver under the carried number has it no more: the number is the answered entry's now (R75), and no two
may share one (R9; DEDUCED, log 19; unsafe). -/
def giveUpNumber (giver number : Nat) (e : InboundEntry) : InboundEntry :=
  if e.giver == giver && e.number == number then { e with number := 0 } else e

/-- HELD_FOR_YOU (R75). -/
def answerHeld (p : AnswerPayload) (e : InboundEntry) (s : State) : State :=
  raise .offerArrived
    (unresolvedCleared e
      (setInbound (s.custody.inbound.map (fun d =>
        if d.tag == e.tag then heldEntry p s d else giveUpNumber e.giver p.number d)) s))

/-- NOT_KNOWN (R75). -/
def answerNotKnown (e : InboundEntry) (s : State) : State := becomeUnresolved e (updateInbound e.tag clearQuery s)

/-- RELEASED_TO_YOU: another value is taken as NOT_KNOWN; an UNRESOLVED entry needs a Custody Table place (R75). -/
def answerReleased (p : AnswerPayload) (e : InboundEntry) (s : State) : Handled :=
  if p.value ≠ e.value then acted (answerNotKnown e s)
  else if e.state = .unresolved ∧ s.tableFull then notActed s
  else acted (resolveEntry e s)

/-- An ANSWER (R75). -/
def hearAnswer (sender : Nat) (p : AnswerPayload) (s : State) : Handled :=
  match (s.inbound? p.tag).filter (answersEntry sender p) with
  | none => notActed s
  | some e =>
    match p.answer with
    | .heldForYou => acted (answerHeld p e s)
    | .releasedToYou => answerReleased p e s
    | .notKnown => acted (answerNotKnown e s)

def recallOkPayload (p : TagNumber) : Payload := .recallOk { tag := p.tag, number := p.number }

/-- RECALL_OK for an EXPECTED entry (R78). -/
def giveBack (sender : Nat) (p : TagNumber) (s : State) : State :=
  chipFrame sender (recallOkPayload p)
    (raiseResult p.tag .receiver .recalled (toldSetback false p.tag (removeInbound p.tag s)))

def recallTooLate (sender : Nat) (p : TagNumber) (s : State) : Handled :=
  notActed (chipFrame sender (refusePayload p.tag p.number .tooLate) s)

/-- The entry that a RECALL of the sender names (R78). -/
def State.entryFrom (s : State) (sender tag : Nat) : Option InboundEntry :=
  (s.inbound? tag).filter (fun e => e.giver == sender)

/-- A RECALL (R78). -/
def hearRecall (sender : Nat) (p : TagNumber) (s : State) : Handled :=
  match s.entryFrom sender p.tag with
  | some e => if e.state = .expected then acted (giveBack sender p s) else recallTooLate sender p s
  | none =>
    if (s.container? p.tag).isSome then recallTooLate sender p s else acted (chipFrame sender (recallOkPayload p) s)

/-! ### The service unit -/

/-- A CLAIM fits an OPEN request (R138). -/
def claimFits (p : ClaimPayload) (r : OwnRequest) : Bool :=
  r.phase == .opened && r.kind == p.kind && servesNeed (some p.role) p.kind

def awardPayload (claimant : Nat) (r : OwnRequest) : Payload :=
  .award { id := r.id, claimant := claimant, kind := r.kind, urgency := r.urgency, value := r.value, comp := r.comp }

/-- The award of a request (R134, R138). -/
def awardRequest (claimant : Nat) (r : OwnRequest) (s : State) : State :=
  raise .claimAwarded
    (chipFrame (needTarget r.kind) (awardPayload claimant r)
      (dropNeed r.id (updateRequest r.id (fun r => { r with phase := .claimed claimant 0 }) s)))

/-- A CLAIM (R138). -/
def hearClaim (sender : Nat) (p : ClaimPayload) (s : State) : Handled :=
  match (s.request? p.id).filter (claimFits p) with
  | none => notActed s
  | some r => acted (awardRequest sender r s)

/-- An entry made WON by an AWARD, with the fields it carries (R146). -/
def wonBy (p : AwardPayload) (e : ServiceEntry) : ServiceEntry :=
  { e with kind := p.kind, urgency := p.urgency, value := p.value, comp := p.comp, state := .won, listedRaised := false }

/-- The entry an AWARD inserts; the reopened mark, which it does not carry, is clear (DEDUCED, log 16), and an id of 0 is
listed like any other (DEDUCED, log 19; unsafe). -/
def awardedEntry (sender : Nat) (p : AwardPayload) (s : State) : ServiceEntry :=
  { requester := sender, id := p.id, kind := p.kind, urgency := p.urgency, value := p.value, comp := p.comp,
    reopened := false, heard := s.clock, state := .won, listedRaised := false }

/-- An AWARD naming another station (R146). -/
def awardedElsewhere (e : ServiceEntry) (s : State) : Handled :=
  match e.state with
  | .listed => acted (removeService e.requester e.id s)
  | .won => acted (raise .claimLapsed (removeService e.requester e.id s))
  | .claiming => notActed s

/-- An AWARD naming this station, for an entry it holds (R146), whatever its commitments (DEDUCED, log 16; unsafe). -/
def awardedHere (p : AwardPayload) (e : ServiceEntry) (s : State) : Handled :=
  match e.state with
  | .listed => acted (raise .claimWon (updateService e.requester e.id (wonBy p) s))
  | .claiming => acted (raise .claimWon (updateService e.requester e.id (wonBy p) s))
  | .won => notActed s

/-- An AWARD naming this station, for which it holds no entry (R146). -/
def awardedAnew (sender : Nat) (p : AwardPayload) (s : State) : Handled :=
  if s.service.list.length < Config.serviceCap ∧ s.commitments < Config.commitmentCap then
    acted (raise .claimWon (setServiceList (s.service.list ++ [awardedEntry sender p s]) s))
  else notActed s

/-- An AWARD (R146). -/
def hearAward (sender : Nat) (p : AwardPayload) (s : State) : Handled :=
  match s.service? sender p.id with
  | some e => if p.claimant = s.own then awardedHere p e s else awardedElsewhere e s
  | none => if p.claimant = s.own then awardedAnew sender p s else notActed s

/-- The fields that a NEED brings up to date (R144). -/
def heardNeed (p : NeedPayload) (e : ServiceEntry) : ServiceEntry :=
  { e with kind := p.kind, urgency := p.urgency, value := p.value, comp := p.comp, reopened := p.reopened }

/-- The entry a NEED inserts. Its id is what the frame carries: 0, which no requester gives (R132, R142), is not called
malformed by R178 and is listed like any other (DEDUCED, log 19; unsafe). -/
def neededEntry (sender : Nat) (p : NeedPayload) (s : State) : ServiceEntry :=
  { requester := sender, id := p.id, kind := p.kind, urgency := p.urgency, value := p.value, comp := p.comp,
    reopened := p.reopened, heard := s.clock, state := .listed, listedRaised := false }

/-- The entry joins the list as LISTED, with SERVICE_LISTED when it is eligible at once (R143). -/
def listEntry (e : ServiceEntry) (s : State) : State :=
  announceListed e (setServiceList (s.service.list ++ [markListed s e]) s)

/-- A WON entry is turned back to LISTED (R143, R144). -/
def relistEntry (p : NeedPayload) (e : ServiceEntry) (s : State) : State :=
  let back : ServiceEntry := { heardNeed p e with state := .listed }
  announceListed back (raise .claimLapsed (updateService e.requester e.id (fun _ => markListed s back) s))

/-- A NEED for an entry of the list (R144). -/
def needKnown (p : NeedPayload) (e : ServiceEntry) (s : State) : State :=
  if e.state = .won then relistEntry p e s else updateService e.requester e.id (heardNeed p) s

/-- The last LISTED entry in list order (R144). -/
def State.lastListed (s : State) : Option ServiceEntry :=
  ((serviceOrder s.service.list).filter (fun e => e.state == .listed)).getLast?

/-- The LISTED entry that a new NEED outranks in a full list (R144). -/
def State.outranked (s : State) (p : NeedPayload) : Option ServiceEntry :=
  s.lastListed.filter (fun e => p.urgency == .urgent && e.urgency == .normal)

/-- A NEED that meets a full list (R144). -/
def needFull (sender : Nat) (p : NeedPayload) (s : State) : Handled :=
  let t := raise .serviceListFull s
  match s.outranked p with
  | none => notActed t
  | some e => acted (listEntry (neededEntry sender p s) (removeService e.requester e.id t))

/-- A NEED (R144). -/
def hearNeed (sender : Nat) (p : NeedPayload) (s : State) : Handled :=
  if !servesNeed s.unit.role p.kind then notActed s
  else
    match s.service? sender p.id with
    | some e => acted (needKnown p e s)
    | none =>
      if s.service.list.length < Config.serviceCap then acted (listEntry (neededEntry sender p s) s)
      else needFull sender p s

/-- A WITHDRAW ends a WON claim for want of the request (R146). -/
def withdrawsWon (r : WithdrawReason) (e : ServiceEntry) : Bool :=
  e.state == .won && (r == .cancelled || r == .expired)

/-- A WITHDRAW (R146). -/
def hearWithdraw (sender : Nat) (p : WithdrawPayload) (s : State) : Handled :=
  match s.service? sender p.id with
  | none => notActed s
  | some e => acted (raiseIf (withdrawsWon p.reason e) .claimLapsed (removeService e.requester e.id s))

/-! ### Delivery (R28, R33, R34) -/

/-- The handling of a delivered frame by the block that owns its kind (R27, R35). ANNOUNCE and BEACON have been recorded
by the tracking of R59; a CONFLICT from another number is not acted on (R53; DEDUCED, log 23; safe). -/
def handle (f : Frame) (s : State) : Handled :=
  match f.payload with
  | .alarm p => hearAlarm f.sender p s
  | .taken p => hearTaken f.sender p s
  | .recallOk p => hearRecallOk f.sender p s
  | .refuse p => hearRefuse f.sender p s
  | .answer p => hearAnswer f.sender p s
  | .offer p => hearOffer f.sender p s
  | .recall p => hearRecall f.sender p s
  | .query p => hearQuery f.sender p s
  | .claim p => hearClaim f.sender p s
  | .award p => hearAward f.sender p s
  | .need p => hearNeed f.sender p s
  | .withdraw p => hearWithdraw f.sender p s
  | .announce _ => acted s
  | .conflict _ => notActed s
  | .beacon _ => acted s

/-- The block handles the frame, and the slot is driven when it has acted in a state that allows it (R34). -/
def deliver (f : Frame) (s : State) : State :=
  let r := handle f s
  if r.2 && acknowledgedIn s.member.state f.payload then driveSlot r.1 else r.1

/-- A frame reaches the block that owns its kind when its target and the station state let it (R28, R33). -/
def deliverTargeted (f : Frame) (s : State) : State :=
  if s.targeted f.target && deliveredIn s.member.state f.payload then deliver f s else s

/-- An intact frame of a peer: tracked, and delivered as R33 gives. -/
def hearPeer (f : Frame) (s : State) : State := deliverTargeted f (trackPeer f s)

/-- An intact frame under the station's own number, which updates no Peer Table entry (R59). The membership unit takes it first;
then it is delivered as R33 gives for any frame, but for ON_LOOP, where it is delivered to no block (R53). LISTENING and
ANNOUNCING have become DUPLICATE by then, which delivers no kind that they do not and leaves out the CONFLICT, the membership
unit's already (DEDUCED, log 18; unsafe). -/
def hearOwnNumber (f : Frame) (s : State) : State :=
  if s.member.state = .onLoop then ownNumberHeard f s else deliverTargeted f (ownNumberHeard f s)

/-- An intact frame arrives; a malformed one is discarded (R32). -/
def receive (f : Frame) (s : State) : State :=
  if !onTheLine s.member.state then s
  else if !Frame.wellFormed f then lineTaken s
  else if f.sender = s.own then hearOwnNumber f (lineTaken s)
  else hearPeer f (lineTaken s)

/-- A discarded frame changes nothing but the line: this station is not sending (R32). -/
def frameDiscarded (s : State) : State := if onTheLine s.member.state then lineTaken s else s

def execFrameDiscarded (_reason : DiscardReason) (s : State) : Host.Outcome State Fault Refusal := event s frameDiscarded

def execIntactFrameHeard (f : Frame) (s : State) : Host.Outcome State Fault Refusal := event s (receive f)

def execAlarmReceived (sender target : Nat) (p : AlarmPayload) (s : State) : Host.Outcome State Fault Refusal :=
  event s (receive { sender := sender, target := target, payload := .alarm p })

def execTakenReceived (sender target : Nat) (p : TakenPayload) (s : State) : Host.Outcome State Fault Refusal :=
  event s (receive { sender := sender, target := target, payload := .taken p })

def execRecallOkReceived (sender target : Nat) (p : TagNumber) (s : State) : Host.Outcome State Fault Refusal :=
  event s (receive { sender := sender, target := target, payload := .recallOk p })

def execRefuseReceived (sender target : Nat) (p : RefusePayload) (s : State) : Host.Outcome State Fault Refusal :=
  event s (receive { sender := sender, target := target, payload := .refuse p })

def execAnswerReceived (sender target : Nat) (p : AnswerPayload) (s : State) : Host.Outcome State Fault Refusal :=
  event s (receive { sender := sender, target := target, payload := .answer p })

def execOfferReceived (sender target : Nat) (p : OfferPayload) (s : State) : Host.Outcome State Fault Refusal :=
  event s (receive { sender := sender, target := target, payload := .offer p })

def execRecallReceived (sender target : Nat) (p : TagNumber) (s : State) : Host.Outcome State Fault Refusal :=
  event s (receive { sender := sender, target := target, payload := .recall p })

def execQueryReceived (sender target : Nat) (p : TagNumber) (s : State) : Host.Outcome State Fault Refusal :=
  event s (receive { sender := sender, target := target, payload := .query p })

def execClaimReceived (sender target : Nat) (p : ClaimPayload) (s : State) : Host.Outcome State Fault Refusal :=
  event s (receive { sender := sender, target := target, payload := .claim p })

def execAwardReceived (sender target : Nat) (p : AwardPayload) (s : State) : Host.Outcome State Fault Refusal :=
  event s (receive { sender := sender, target := target, payload := .award p })

def execNeedReceived (sender target : Nat) (p : NeedPayload) (s : State) : Host.Outcome State Fault Refusal :=
  event s (receive { sender := sender, target := target, payload := .need p })

def execWithdrawReceived (sender target : Nat) (p : WithdrawPayload) (s : State) : Host.Outcome State Fault Refusal :=
  event s (receive { sender := sender, target := target, payload := .withdraw p })

def execAnnounceReceived (sender target : Nat) (p : AnnouncePayload) (s : State) : Host.Outcome State Fault Refusal :=
  event s (receive { sender := sender, target := target, payload := .announce p })

def execConflictReceived (sender target : Nat) (p : ConflictPayload) (s : State) : Host.Outcome State Fault Refusal :=
  event s (receive { sender := sender, target := target, payload := .conflict p })

def execBeaconReceived (sender target : Nat) (p : BeaconPayload) (s : State) : Host.Outcome State Fault Refusal :=
  event s (receive { sender := sender, target := target, payload := .beacon p })

end Sys2Proof.Machine
end

