-- ==== Sys2Proof/Machine/Service.lean ====
section
/-! DEFINITION. Family: service requests and claims (chapter 8). RAISE_NEED, CANCEL_NEED, CLAIM_NEXT, CLAIM; the timers
REQUEST_EXPIRY, ESCALATION, CLAIM_LAPSE, BACKUP_ELIGIBLE. -/

namespace Sys2Proof.Machine

/-! ### RAISE_NEED (R133) -/

/-- The composition of a RAISE_NEED: required, and every slot in use. -/
def needComp (cfg : Settings) (c : Composition) : Bool := compRequired c && c.all (fun p => cfg.inUse p.1)

def raiseNeedAccepted (k : NeedKind) (u : Urgency) (c : Composition) (s : State) : State :=
  let r := newRequest k u c (s.cfg.valueOf c) s
  answer .ok (numBytes 1 r.id) (raise .needRaised (enqueue true (needTarget k) (needPayload r) (addRequest r s)))

def raiseNeedChecked (k : NeedKind) (u : Urgency) (c : Composition) (s : State) : State :=
  if !raisesNeed s.unit.role k then refuse .roleNotAllowed s
  else if Config.requestCap ≤ s.service.requests.length then refuse .tableFull s
  else if !s.portRoom then refuse .loopQueueFull s
  else raiseNeedAccepted k u c s

def raiseNeed (f : NeedFields) (s : State) : State :=
  match needOfCode f.kind, urgencyOfCode f.urgency with
  | some k, some u => if needComp s.cfg f.comp then raiseNeedChecked k u f.comp s else refuse .badLength s
  | _, _ => refuse .badLength s

def execRaiseNeed (b : Body NeedFields) (s : State) : Host.Outcome State Fault Refusal := request b s (onLoop raiseNeed)

/-! ### CANCEL_NEED (R135) -/

def isServing : RequestPhase → Bool
  | .opened => false
  | .claimed _ _ => false
  | .serving _ _ _ => true

/-- The request and a NEED still waiting for it are gone (R134). -/
def dropRequest (id : Nat) (s : State) : State := dropNeed id (removeRequest id s)

def cancelNeedFound (r : OwnRequest) (s : State) : State :=
  if isServing r.phase then refuse .badState s
  else if joiningOrJoined s.member.state then
    if !s.portRoom then refuse .loopQueueFull s
    else answer .ok [] (enqueue true (needTarget r.kind) (withdrawPayload r .cancelled) (dropRequest r.id s))
  else answer .ok [] (dropRequest r.id s)

/-- CANCEL_NEED in UNCONFIGURED is BAD_STATE whatever id it names; R135 does not order that against NOT_FOUND (DEDUCED, log 10;
unsafe). -/
def cancelNeed (id : Nat) (s : State) : State :=
  if s.member.state = .unconfigured then refuse .badState s
  else
    match s.request? id with
    | none => refuse .notFound s
    | some r => cancelNeedFound r s

def execCancelNeed (b : Body Nat) (s : State) : Host.Outcome State Fault Refusal := request b s cancelNeed

/-! ### CLAIM_NEXT and CLAIM (R145) -/

/-- The roles that keep a Service List (R142, R145). -/
def isServer : Option Role → Bool
  | some .desk => true
  | some .safe => true
  | some .till => false
  | none => false

def claimPayload (role : Role) (e : ServiceEntry) : Payload := .claim { id := e.id, kind := e.kind, role := role }

/-- An accepted claim; a station whose role is invalid never claims. -/
def claimAccepted (e : ServiceEntry) (s : State) : State :=
  answer .started (numBytes 1 e.requester ++ numBytes 1 e.id)
    (enqueue true e.requester (claimPayload (s.unit.role.getD .desk) e)
      (updateService e.requester e.id (fun e => { e with state := .claiming }) s))

/-- The first eligible entry in list order. -/
def State.nextEligible (s : State) : Option ServiceEntry := (serviceOrder s.service.list).find? s.eligible

def claimNext (s : State) : State :=
  if !isServer s.unit.role then refuse .roleNotAllowed s
  else if Config.commitmentCap ≤ s.commitments then refuse .limit s
  else
    match s.nextEligible with
    | none => refuse .notFound s
    | some e => if s.portRoom then claimAccepted e s else refuse .loopQueueFull s

def execClaimNext (b : Body Unit) (s : State) : Host.Outcome State Fault Refusal :=
  request b s (onLoop (fun _ => claimNext))

def claimFound (e : ServiceEntry) (s : State) : State :=
  if e.state ≠ .listed then refuse .badState s
  else if s.portRoom then claimAccepted e s
  else refuse .loopQueueFull s

def claim (f : ClaimFields) (s : State) : State :=
  if !s.namesPeer f.requester || f.id == 0 || 255 < f.id then refuse .badLength s
  else if !isServer s.unit.role then refuse .roleNotAllowed s
  else if Config.commitmentCap ≤ s.commitments then refuse .limit s
  else
    match s.service? f.requester f.id with
    | none => refuse .notFound s
    | some e => claimFound e s

def execClaim (b : Body ClaimFields) (s : State) : Host.Outcome State Fault Refusal := request b s (onLoop claim)

/-! ### Timers of a request -/

/-- An OPEN request has reached the request limit (R136). One whose age stands still in STOPPED and is already past a limit that
SET_SERVICE lowers there expires at the next timer step (DESIGN CHOICE, log 28; unsafe). -/
def expired (cfg : Settings) (r : OwnRequest) : Bool := r.phase == .opened && cfg.requestLimit * Config.minute ≤ r.openAge

/-- Expiry (R136). -/
def expireRequest (r : OwnRequest) (s : State) : State :=
  raise .requestExpired (sendWithdraw r .expired (dropRequest r.id s))

def requestExpiry (id : Nat) (s : State) : State :=
  match s.request? id with
  | none => s
  | some r => if expired s.cfg r then expireRequest r s else s

def execRequestExpiry (id : Nat) (s : State) : Host.Outcome State Fault Refusal := event s (requestExpiry id)

/-- A NORMAL OPEN request has reached the escalation time; 0 is off (R136). One already past a time lowered in STOPPED escalates
at the next timer step (DESIGN CHOICE, log 28; unsafe). -/
def escalates (cfg : Settings) (r : OwnRequest) : Bool :=
  r.phase == .opened && r.urgency == .normal && cfg.escalation != 0 && cfg.escalation * Config.minute ≤ r.openAge

def urgentRequest (r : OwnRequest) : OwnRequest := { r with urgency := .urgent }

/-- Escalation (R136). -/
def escalate (id : Nat) (s : State) : State :=
  match s.request? id with
  | none => s
  | some r => if escalates s.cfg r then sendNeed (urgentRequest r) (updateRequest id urgentRequest s) else s

def execEscalation (id : Nat) (s : State) : Host.Outcome State Fault Refusal := event s (escalate id)

/-- A CLAIMED request has reached the claim limit (R139). -/
def claimOver (cfg : Settings) (r : OwnRequest) : Bool :=
  match r.phase with
  | .claimed _ age => cfg.claimLimit * Config.minute ≤ age
  | _ => false

def claimLapse (id : Nat) (s : State) : State :=
  match s.request? id with
  | none => s
  | some r => if claimOver s.cfg r then lapseRequest s r else s

def execClaimLapse (id : Nat) (s : State) : Host.Outcome State Fault Refusal := event s (claimLapse id)

/-! ### The backup delay (R143) -/

/-- A LISTED backup entry has just become eligible: SERVICE_LISTED has not been raised for its present stay in LISTED. -/
def State.backupDueNow (s : State) (e : ServiceEntry) : Bool :=
  s.eligible e && !inPrimary s.cfg.cover e.requester && !e.listedRaised

def backupEligible (requester id : Nat) (s : State) : State :=
  match s.service? requester id with
  | none => s
  | some e =>
    if s.backupDueNow e then
      raise .serviceListed (updateService requester id (fun e => { e with listedRaised := true }) s)
    else s

def execBackupEligible (requester id : Nat) (s : State) : Host.Outcome State Fault Refusal :=
  event s (backupEligible requester id)

end Sys2Proof.Machine
end

