-- ==== Sys2Proof/Machine/Timers.lean ====
section
/-! DEFINITION. Family: timers of the handover engine and the membership unit (R43, R49 to R52, R56, R60, R66, R69, R73, R79,
R82), and the 10 ms timer step with the timer events that it makes due (00_scope.md, "Times"; log 1). A timer command acts
only when its timer is due. -/

namespace Sys2Proof.Machine

/-! ### Handover timers -/

/-- The transit deadline of a container has passed. -/
def deadlinePassed (clock : Nat) (c : Container) : Bool :=
  match c.handover with
  | none => false
  | some h => h.deadline ≤ clock

/-- An OUTBOUND container whose deadline has passed (R82). -/
def overdueNow (clock : Nat) (c : Container) : Bool := c.state == .outbound && deadlinePassed clock c

def transitDeadline (tag : Nat) (s : State) : State :=
  match (s.container? tag).filter (overdueNow s.clock) with
  | none => s
  | some c => becomeOverdue c s

def execTransitDeadline (tag : Nat) (s : State) : Host.Outcome State Fault Refusal := event s (transitDeadline tag)

/-- An EXPECTED entry whose lapse time has passed (R69). -/
def lapsed (clock : Nat) (e : InboundEntry) : Bool := e.state == .expected && e.lapse ≤ clock

def inboundLapse (tag : Nat) (s : State) : State :=
  match (s.inbound? tag).filter (lapsed s.clock) with
  | none => s
  | some e => lapseEntry e s

def execInboundLapse (tag : Nat) (s : State) : Host.Outcome State Fault Refusal := event s (inboundLapse tag)

/-- A time, when set, has been reached. -/
def timeUp (clock : Nat) (limit : Option Nat) : Bool :=
  match limit with
  | none => false
  | some t => t ≤ clock

/-- A RECALLING container whose recall timer has reached 60 s (R79). -/
def recallOver (clock : Nat) (c : Container) : Bool := c.state == .recalling && timeUp clock c.recallEnds

/-- RECALLING ends in OUTBOUND, or in OVERDUE when the deadline has passed (R77, R79). -/
def endRecall (c : Container) (s : State) : State :=
  if deadlinePassed s.clock c then becomeOverdue c s
  else updateContainer c.tag (fun c => { c with state := .outbound, recallEnds := none }) s

def recallTimeout (tag : Nat) (s : State) : State :=
  match (s.container? tag).filter (recallOver s.clock) with
  | none => s
  | some c => raise .recallUnanswered (endRecall c s)

def execRecallTimeout (tag : Nat) (s : State) : Host.Outcome State Fault Refusal := event s (recallTimeout tag)

/-- 2 s have passed since the QUERY was acknowledged, and no ANSWER has been applied (R73). -/
def queryOver (clock : Nat) (e : InboundEntry) : Bool := e.queryPending && timeUp clock e.queryWaitEnds

def queryWaitEnd (tag : Nat) (s : State) : State :=
  match (s.inbound? tag).filter (queryOver s.clock) with
  | none => s
  | some e => queryUnanswered e s

def execQueryWaitEnd (tag : Nat) (s : State) : Host.Outcome State Fault Refusal := event s (queryWaitEnd tag)

/-- The refusal window of a container has been open for 5 s (R66). -/
def windowUp (clock : Nat) (c : Container) : Bool := timeUp clock (c.refusal.map (·.closes))

def refusalWindowEnd (tag : Nat) (s : State) : State :=
  match (s.container? tag).filter (windowUp s.clock) with
  | none => s
  | some c => updateContainer c.tag (fun c => { c with refusal := none }) s

def execRefusalWindowEnd (tag : Nat) (s : State) : Host.Outcome State Fault Refusal := event s (refusalWindowEnd tag)

/-! ### Membership timers -/

def State.listeningOver (s : State) : Bool := s.member.state == .listening && timeUp s.clock s.member.listeningEnds

/-- The listening period ends (R50). -/
def listeningPeriodEnd (s : State) : State := if s.listeningOver then enterAnnouncing s else s

def execListeningPeriodEnd (s : State) : Host.Outcome State Fault Refusal := event s listeningPeriodEnd

def State.waitOver (s : State) : Bool := s.member.state == .announcing && timeUp s.clock s.member.announceWaitEnds

/-- The announce wait ends (R52). -/
def announceWaitEnd (s : State) : State := if s.waitOver then enterOnLoop s else s

def execAnnounceWaitEnd (s : State) : Host.Outcome State Fault Refusal := event s announceWaitEnd

def State.beaconOver (s : State) : Bool := s.member.state == .onLoop && timeUp s.clock s.member.beaconDue

/-- The beacon timer reaches the beacon period, makes a BEACON ready and starts again (R56). -/
def beaconTimer (s : State) : State :=
  if s.beaconOver then
    { s with member := { s.member with beaconDue := s.member.beaconDue.map (· + beaconPeriod s.member.mInForce) },
             loop := { s.loop with beaconReady := true } }
  else s

def execBeaconTimer (s : State) : Host.Outcome State Fault Refusal := event s beaconTimer

def State.rejoinOver (s : State) : Bool :=
  s.member.state == .withdrawn && s.cfg.autoRejoin && timeUp s.clock (s.member.withdrawnAt.map (· + Config.rejoinDelay))

/-- Auto-rejoin, 5 s after the station became WITHDRAWN (R43). -/
def autoRejoin (s : State) : State := if s.rejoinOver then rejoinLoop s else s

def execAutoRejoin (s : State) : Host.Outcome State Fault Refusal := event s autoRejoin

/-- A LIVE entry has been silent for two periods (R60). -/
def quietNow (e : PeerEntry) : Bool := e.state == .live && 2 * peerPeriod e ≤ e.silence

def peerQuiet (n : Nat) (s : State) : State :=
  if onTheLine s.member.state && quietNow (s.peer n) then setPeer n { s.peer n with state := .quiet } s else s

def execPeerQuiet (n : Nat) (s : State) : Host.Outcome State Fault Refusal := event s (peerQuiet n)

/-- A LIVE or QUIET entry has been silent for eight periods (R60). -/
def goneNow (e : PeerEntry) : Bool := (e.state == .live || e.state == .quiet) && 8 * peerPeriod e ≤ e.silence

def peerGone (n : Nat) (s : State) : State :=
  if onTheLine s.member.state && goneNow (s.peer n) then peerDeparts n s else s

def execPeerGone (n : Nat) (s : State) : Host.Outcome State Fault Refusal := event s (peerGone n)

/-! ### The timer step (log 1) -/

/-- The silence of a peer that is not UNKNOWN advances and stops at 655.35 s (R58, R60). -/
def agePeer (e : PeerEntry) : PeerEntry :=
  if e.state = .unknown then e else { e with silence := min Config.silenceMax (e.silence + 1) }

/-- The open age advances in OPEN, the claim age in CLAIMED and SERVING (R132). -/
def ageRequest (r : OwnRequest) : OwnRequest :=
  match r.phase with
  | .opened => { r with openAge := r.openAge + 1 }
  | .claimed c a => { r with phase := .claimed c (a + 1) }
  | .serving c a t => { r with phase := .serving c (a + 1) t }

/-- What 10 ms do to clock, lamps, silence times and ages. -/
def advance (s : State) : State :=
  let t := { s with clock := s.clock + 1, lamps := { s.lamps with ms := s.lamps.ms + 10 } }
  if onTheLine s.member.state then
    { t with member := { t.member with peers := t.member.peers.map agePeer },
             service := { t.service with requests := t.service.requests.map ageRequest } }
  else t

/-- A command that waits when its timer is due. -/
def due (now : Bool) (i : Instr) : List Instr := if now then [i] else []

def State.dueMembership (s : State) : List Instr :=
  due s.listeningOver .listeningPeriodEnd ++ due s.waitOver .announceWaitEnd ++ due s.beaconOver .beaconTimer
    ++ due s.rejoinOver .autoRejoin
    ++ (List.range' 1 56).flatMap (fun n => due (onTheLine s.member.state && quietNow (s.peer n)) (.peerQuiet n))
    ++ (List.range' 1 56).flatMap (fun n => due (onTheLine s.member.state && goneNow (s.peer n)) (.peerGone n))

def State.dueHandover (s : State) : List Instr :=
  s.custody.table.flatMap (fun c => due (overdueNow s.clock c) (.transitDeadline c.tag))
    ++ s.custody.inbound.flatMap (fun e => due (lapsed s.clock e) (.inboundLapse e.tag))
    ++ s.custody.table.flatMap (fun c => due (recallOver s.clock c) (.recallTimeout c.tag))
    ++ s.custody.inbound.flatMap (fun e => due (queryOver s.clock e) (.queryWaitEnd e.tag))
    ++ s.custody.table.flatMap (fun c => due (windowUp s.clock c) (.refusalWindowEnd c.tag))

def State.dueService (s : State) : List Instr :=
  s.service.requests.flatMap (fun r => due (expired s.cfg r) (.requestExpiry r.id))
    ++ s.service.requests.flatMap (fun r => due (escalates s.cfg r) (.escalation r.id))
    ++ s.service.requests.flatMap (fun r => due (claimOver s.cfg r) (.claimLapse r.id))
    ++ s.service.list.flatMap (fun e => due (s.backupDueNow e) (.backupEligible e.requester e.id))

def State.dueStation (s : State) : List Instr :=
  due (windowOver s) .windowExpiry ++ due (reached s.door.allowanceEnds s) .doorAllowanceEnd
    ++ due (s.door.isOpen && !s.door.heldRaised && s.heldTooLong) .doorHeld
    ++ due (Config.lampStepMs ≤ s.lamps.ms) .lampStep

/-- The timer commands that are due, in the order of the table (log 1). -/
def State.dueEvents (s : State) : List Instr :=
  s.dueMembership ++ s.dueHandover ++ due (reached s.count.noRecordEnds s) .noRecordTimeout ++ s.dueService ++ s.dueStation

/-- One timer step of a running part: time advances and the timer commands then due wait in the queue; a part that is held in
reset or unpowered stands still (R177). -/
def tick (s : State) : State :=
  if s.unit.power = .running then
    let t := advance s
    { t with pending := t.pending ++ t.dueEvents }
  else s

end Sys2Proof.Machine
end

