-- ==== Sys2Proof/Machine/Dispatch.lean ====
section
/-! DEFINITION. exec: one arm per command, each a direct call of its meaning. -/

namespace Sys2Proof.Machine

def exec (i : Instr) (s : State) : Host.Outcome State Fault Refusal :=
  match i with
  | .powerUp pins => Sys2Proof.Machine.execPowerUp pins s
  | .coldStart pins => Sys2Proof.Machine.execColdStart pins s
  | .warmStart pins => Sys2Proof.Machine.execWarmStart pins s
  | .resetPinLow microseconds => Sys2Proof.Machine.execResetPinLow microseconds s
  | .selectRelease pins => Sys2Proof.Machine.execSelectRelease pins s
  | .unknownKindRequest kind => Sys2Proof.Machine.execUnknownKindRequest kind s
  | .start body => Sys2Proof.Machine.execStart body s
  | .stop body => Sys2Proof.Machine.execStop body s
  | .rejoin body => Sys2Proof.Machine.execRejoin body s
  | .reset body => Sys2Proof.Machine.execReset body s
  | .erase body => Sys2Proof.Machine.execErase body s
  | .setStation body => Sys2Proof.Machine.execSetStation body s
  | .setDenomination body => Sys2Proof.Machine.execSetDenomination body s
  | .setLoop body => Sys2Proof.Machine.execSetLoop body s
  | .setTransit body => Sys2Proof.Machine.execSetTransit body s
  | .setCountLine body midRecord => Sys2Proof.Machine.execSetCountLine body midRecord s
  | .setCount body => Sys2Proof.Machine.execSetCount body s
  | .setTolerance body => Sys2Proof.Machine.execSetTolerance body s
  | .setFloat body => Sys2Proof.Machine.execSetFloat body s
  | .setFloatStation body => Sys2Proof.Machine.execSetFloatStation body s
  | .setService body => Sys2Proof.Machine.execSetService body s
  | .setCover body => Sys2Proof.Machine.execSetCover body s
  | .setSack body => Sys2Proof.Machine.execSetSack body s
  | .setDoor body => Sys2Proof.Machine.execSetDoor body s
  | .setAttentionMask body => Sys2Proof.Machine.execSetAttentionMask body s
  | .makeUp body => Sys2Proof.Machine.execMakeUp body s
  | .dismantle body => Sys2Proof.Machine.execDismantle body s
  | .acceptVariance body => Sys2Proof.Machine.execAcceptVariance body s
  | .dayClose body => Sys2Proof.Machine.execDayClose body s
  | .offer body => Sys2Proof.Machine.execOffer body s
  | .take body => Sys2Proof.Machine.execTake body s
  | .takeResolve body => Sys2Proof.Machine.execTakeResolve body s
  | .recall body => Sys2Proof.Machine.execRecall body s
  | .query body => Sys2Proof.Machine.execQuery body s
  | .decline body => Sys2Proof.Machine.execDecline body s
  | .countOpen body => Sys2Proof.Machine.execCountOpen body s
  | .countClose body => Sys2Proof.Machine.execCountClose body s
  | .countAbort body => Sys2Proof.Machine.execCountAbort body s
  | .raiseNeed body => Sys2Proof.Machine.execRaiseNeed body s
  | .cancelNeed body => Sys2Proof.Machine.execCancelNeed body s
  | .claimNext body => Sys2Proof.Machine.execClaimNext body s
  | .claim body => Sys2Proof.Machine.execClaim body s
  | .windowOpen body => Sys2Proof.Machine.execWindowOpen body s
  | .windowClose body => Sys2Proof.Machine.execWindowClose body s
  | .admitStock body => Sys2Proof.Machine.execAdmit body s
  | .sackOpen body => Sys2Proof.Machine.execSackOpen body s
  | .nest body => Sys2Proof.Machine.execNest body s
  | .unnest body => Sys2Proof.Machine.execUnnest body s
  | .sackClose body => Sys2Proof.Machine.execSackClose body s
  | .sackReopen body => Sys2Proof.Machine.execSackReopen body s
  | .sackAbandon body => Sys2Proof.Machine.execSackAbandon body s
  | .dispatch body => Sys2Proof.Machine.execDispatch body s
  | .alarmClear body => Sys2Proof.Machine.execAlarmClear body s
  | .doorAllow body => Sys2Proof.Machine.execDoorAllow body s
  | .readAttention body => Sys2Proof.Machine.execReadAttention body s
  | .attentionReadCleared => Sys2Proof.Machine.execAttentionReadCleared s
  | .readStation body => Sys2Proof.Machine.execReadStation body s
  | .readLoop body => Sys2Proof.Machine.execReadLoop body s
  | .readPeers body => Sys2Proof.Machine.execReadPeers body s
  | .readCustody body => Sys2Proof.Machine.execReadCustody body s
  | .readContainer body => Sys2Proof.Machine.execReadContainer body s
  | .readInbound body => Sys2Proof.Machine.execReadInbound body s
  | .readReleases body => Sys2Proof.Machine.execReadReleases body s
  | .readTotals body => Sys2Proof.Machine.execReadTotals body s
  | .readDayTotals body => Sys2Proof.Machine.execReadDayTotals body s
  | .readCount body => Sys2Proof.Machine.execReadCount body s
  | .readPosition body => Sys2Proof.Machine.execReadPosition body s
  | .readRequests body => Sys2Proof.Machine.execReadRequests body s
  | .readService body => Sys2Proof.Machine.execReadService body s
  | .readWindow body => Sys2Proof.Machine.execReadWindow body s
  | .readSack body => Sys2Proof.Machine.execReadSack body s
  | .readDispatches body => Sys2Proof.Machine.execReadDispatches body s
  | .frameSendStart => Sys2Proof.Machine.execFrameSendStart s
  | .announceLostSerial winner => Sys2Proof.Machine.execAnnounceLostSerial winner s
  | .readBackFault => Sys2Proof.Machine.execReadBackFault s
  | .frameSent acknowledged => Sys2Proof.Machine.execFrameSent acknowledged s
  | .offerReport acknowledged => Sys2Proof.Machine.execOfferReport acknowledged s
  | .takenReport acknowledged => Sys2Proof.Machine.execTakenReport acknowledged s
  | .queryReport acknowledged => Sys2Proof.Machine.execQueryReport acknowledged s
  | .claimReport acknowledged => Sys2Proof.Machine.execClaimReport acknowledged s
  | .announceCompleted => Sys2Proof.Machine.execAnnounceCompleted s
  | .frameDiscarded reason => Sys2Proof.Machine.execFrameDiscarded reason s
  | .intactFrameHeard frame => Sys2Proof.Machine.execIntactFrameHeard frame s
  | .alarmReceived sender target payload => Sys2Proof.Machine.execAlarmReceived sender target payload s
  | .takenReceived sender target payload => Sys2Proof.Machine.execTakenReceived sender target payload s
  | .recallOkReceived sender target payload => Sys2Proof.Machine.execRecallOkReceived sender target payload s
  | .refuseReceived sender target payload => Sys2Proof.Machine.execRefuseReceived sender target payload s
  | .answerReceived sender target payload => Sys2Proof.Machine.execAnswerReceived sender target payload s
  | .offerReceived sender target payload => Sys2Proof.Machine.execOfferReceived sender target payload s
  | .recallReceived sender target payload => Sys2Proof.Machine.execRecallReceived sender target payload s
  | .queryReceived sender target payload => Sys2Proof.Machine.execQueryReceived sender target payload s
  | .claimReceived sender target payload => Sys2Proof.Machine.execClaimReceived sender target payload s
  | .awardReceived sender target payload => Sys2Proof.Machine.execAwardReceived sender target payload s
  | .needReceived sender target payload => Sys2Proof.Machine.execNeedReceived sender target payload s
  | .withdrawReceived sender target payload => Sys2Proof.Machine.execWithdrawReceived sender target payload s
  | .announceReceived sender target payload => Sys2Proof.Machine.execAnnounceReceived sender target payload s
  | .conflictReceived sender target payload => Sys2Proof.Machine.execConflictReceived sender target payload s
  | .beaconReceived sender target payload => Sys2Proof.Machine.execBeaconReceived sender target payload s
  | .listeningPeriodEnd => Sys2Proof.Machine.execListeningPeriodEnd s
  | .announceWaitEnd => Sys2Proof.Machine.execAnnounceWaitEnd s
  | .beaconTimer => Sys2Proof.Machine.execBeaconTimer s
  | .autoRejoin => Sys2Proof.Machine.execAutoRejoin s
  | .peerQuiet station => Sys2Proof.Machine.execPeerQuiet station s
  | .peerGone station => Sys2Proof.Machine.execPeerGone station s
  | .transitDeadline tag => Sys2Proof.Machine.execTransitDeadline tag s
  | .inboundLapse tag => Sys2Proof.Machine.execInboundLapse tag s
  | .recallTimeout tag => Sys2Proof.Machine.execRecallTimeout tag s
  | .queryWaitEnd tag => Sys2Proof.Machine.execQueryWaitEnd tag s
  | .refusalWindowEnd tag => Sys2Proof.Machine.execRefusalWindowEnd tag s
  | .countRecord slot suspect count => Sys2Proof.Machine.execCountRecord slot suspect count s
  | .endRecord total => Sys2Proof.Machine.execEndRecord total s
  | .haltRecord => Sys2Proof.Machine.execHaltRecord s
  | .droppedRecord reason => Sys2Proof.Machine.execDroppedRecord reason s
  | .recordAbandoned => Sys2Proof.Machine.execRecordAbandoned s
  | .batchIdleEnd => Sys2Proof.Machine.execBatchIdleEnd s
  | .noRecordTimeout => Sys2Proof.Machine.execNoRecordTimeout s
  | .requestExpiry id => Sys2Proof.Machine.execRequestExpiry id s
  | .escalation id => Sys2Proof.Machine.execEscalation id s
  | .claimLapse id => Sys2Proof.Machine.execClaimLapse id s
  | .backupEligible requester id => Sys2Proof.Machine.execBackupEligible requester id s
  | .windowExpiry => Sys2Proof.Machine.execWindowExpiry s
  | .doorOpeningEdge => Sys2Proof.Machine.execDoorOpeningEdge s
  | .doorClosing => Sys2Proof.Machine.execDoorClosing s
  | .doorAllowanceEnd => Sys2Proof.Machine.execDoorAllowanceEnd s
  | .doorHeld => Sys2Proof.Machine.execDoorHeld s
  | .lampStep => Sys2Proof.Machine.execLampStep s
  | .mainSupplyLoss backupHeld => Sys2Proof.Machine.execMainSupplyLoss backupHeld s
  | .countLineResynchronisation => Sys2Proof.Machine.execCountLineResynchronisation s

end Sys2Proof.Machine
end

