-- ==== Sys2Proof/Machine/Wire.lean ====
section
/-! DEFINITION. From bytes to commands: the frame that a run of characters carries (R26 to R28, R32, R178, 11.2), the request that
a kind byte and a body carry (R165, R166, 11.4), the bytes the port returns (R165), the command of a count record (R87, R179). The machine takes its commands
already read; these say which bytes stand for which command. -/

namespace Sys2Proof.Machine

/-! ### Reading fields (R178) -/

/-- Read a number of `k` bytes, high byte first. -/
def readNum : (k : Nat) → List Byte → Option (Nat × List Byte)
  | 0, l => some (0, l)
  | _ + 1, [] => none
  | k + 1, b :: l =>
    match readNum k l with
    | none => none
    | some (n, rest) => some (b.toNat * 256 ^ k + n, rest)

/-- Read `n` pairs of a composition. -/
def readPairs : (n : Nat) → List Byte → Option (Composition × List Byte)
  | 0, l => some ([], l)
  | n + 1, l => do
    let (slot, l) ← readNum 1 l
    let (count, l) ← readNum 2 l
    let (c, l) ← readPairs n l
    some ((slot, count) :: c, l)

/-- Read a composition: a count byte, then its pairs. -/
def readComp (l : List Byte) : Option (Composition × List Byte) := do
  let (n, l) ← readNum 1 l
  readPairs n l

/-- The payload or body has been read to its end. -/
def ended (l : List Byte) (a : α) : Option α := if l.isEmpty then some a else none

/-! ### Loop payloads (11.2) -/

/-- An active alarm kind, 0 for none. -/
def readActive (n : Nat) : Option (Option AlarmKind) := if n = 0 then some none else (alarmOfCode n).map some

/-- An ALARM. A kind field of 0 makes the frame malformed: R178's table has "none 0" among the alarm kinds, and 11.2 allows 0 for the
active kind and the tag alone (DEDUCED, log 18; safe). -/
def readAlarm (l : List Byte) : Option Payload := do
  let (k, l) ← readNum 1 l
  let (a, l) ← readNum 1 l
  let (v, l) ← readNum 1 l
  let (t, l) ← readNum 4 l
  let kind ← alarmOfCode k
  let action ← alarmActionOfCode a
  let active ← readActive v
  ended l (.alarm { kind := kind, action := action, active := active, tag := t })

def readTaken (l : List Byte) : Option Payload := do
  let (t, l) ← readNum 4 l
  let (n, l) ← readNum 2 l
  let (v, l) ← readNum 5 l
  ended l (.taken { tag := t, number := n, value := v })

def readTagNumber (make : TagNumber → Payload) (l : List Byte) : Option Payload := do
  let (t, l) ← readNum 4 l
  let (n, l) ← readNum 2 l
  ended l (make { tag := t, number := n })

def readRefuse (l : List Byte) : Option Payload := do
  let (t, l) ← readNum 4 l
  let (n, l) ← readNum 2 l
  let (r, l) ← readNum 1 l
  let reason ← refuseOfCode r
  ended l (.refuse { tag := t, number := n, reason := reason })

def readAnswerFrame (l : List Byte) : Option Payload := do
  let (t, l) ← readNum 4 l
  let (a, l) ← readNum 1 l
  let (n, l) ← readNum 2 l
  let (m, l) ← readNum 1 l
  let (v, l) ← readNum 5 l
  let answer ← answerOfCode a
  ended l (.answer { tag := t, answer := answer, number := n, remaining := m, value := v })

/-- The composition of an OFFER, present when flag bit 0 is set; n = 0 means absent (R178). -/
def readOfferComp (flags : Nat) (l : List Byte) : Option (Option Composition × List Byte) :=
  if flags % 2 = 1 then
    match readComp l with
    | none => none
    | some (c, l) => some (if c.isEmpty then none else some c, l)
  else some (none, l)

def readOffer (l : List Byte) : Option Payload := do
  let (r, l) ← readNum 1 l
  let (n, l) ← readNum 2 l
  let (t, l) ← readNum 4 l
  let (k, l) ← readNum 1 l
  let (v, l) ← readNum 5 l
  let (cv, l) ← readNum 5 l
  let (o, l) ← readNum 1 l
  let (p, l) ← readNum 1 l
  let (m, l) ← readNum 1 l
  let (f, l) ← readNum 1 l
  let (comp, l) ← readOfferComp f l
  let role ← roleOfCode r
  let cls ← classOfCode k
  ended l (.offer { role := role, number := n, tag := t, cls := cls, value := v,
                    counted := if f / 2 % 2 = 1 then some cv else none, origin := o, purpose := p, remaining := m,
                    comp := comp })

def readClaim (l : List Byte) : Option Payload := do
  let (i, l) ← readNum 1 l
  let (k, l) ← readNum 1 l
  let (r, l) ← readNum 1 l
  let kind ← needOfCode k
  let role ← roleOfCode r
  ended l (.claim { id := i, kind := kind, role := role })

def readAward (l : List Byte) : Option Payload := do
  let (i, l) ← readNum 1 l
  let (c, l) ← readNum 1 l
  let (k, l) ← readNum 1 l
  let (u, l) ← readNum 1 l
  let (v, l) ← readNum 5 l
  let (comp, l) ← readComp l
  let kind ← needOfCode k
  let urgency ← urgencyOfCode u
  ended l (.award { id := i, claimant := c, kind := kind, urgency := urgency, value := v, comp := comp })

def readNeed (l : List Byte) : Option Payload := do
  let (i, l) ← readNum 1 l
  let (k, l) ← readNum 1 l
  let (f, l) ← readNum 1 l
  let (v, l) ← readNum 5 l
  let (comp, l) ← readComp l
  let kind ← needOfCode k
  let urgency ← urgencyOfCode (f % 2)
  ended l (.need { id := i, kind := kind, urgency := urgency, reopened := f / 2 % 2 == 1, value := v, comp := comp })

def readWithdraw (l : List Byte) : Option Payload := do
  let (i, l) ← readNum 1 l
  let (k, l) ← readNum 1 l
  let (r, l) ← readNum 1 l
  let kind ← needOfCode k
  let reason ← withdrawOfCode r
  ended l (.withdraw { id := i, kind := kind, reason := reason })

/-- Four mirrored characters, most significant first (R30). -/
def readSerial (l : List Byte) : Option (BitVec 32 × List Byte) := do
  let (n, _) ← readNum 4 (l.map mirror)
  some (BitVec.ofNat 32 n, l.drop 4)

def readAnnounce (l : List Byte) : Option Payload := do
  let (x, l) ← readSerial l
  let (r, l) ← readNum 1 l
  let (m, l) ← readNum 1 l
  let role ← roleOfCode r
  ended l (.announce { serial := x, role := role, m := m })

def readConflict (l : List Byte) : Option Payload := do
  let (x, l) ← readNum 4 l
  let (y, l) ← readNum 4 l
  ended l (.conflict { serial := BitVec.ofNat 32 x, answered := BitVec.ofNat 32 y })

/-- The flag byte of a BEACON (11.2). -/
def readFlags (n : Nat) : BeaconFlags :=
  { pickupNeed := n % 2 == 1, topupNeed := n / 2 % 2 == 1, changeNeed := n / 4 % 2 == 1, windowOpen := n / 8 % 2 == 1,
    alarmActive := n / 16 % 2 == 1, countBusy := n / 32 % 2 == 1 }

def readBeacon (l : List Byte) : Option Payload := do
  let (r, l) ← readNum 1 l
  let (st, l) ← readNum 1 l
  let (m, l) ← readNum 1 l
  let (f, l) ← readNum 1 l
  let (c, l) ← readNum 1 l
  let (o, l) ← readNum 1 l
  let (q, l) ← readNum 1 l
  let role ← roleOfCode r
  ended l (.beacon { role := role, stationCode := st, m := m, flags := readFlags f, custodyCount := c, outbound := o,
                     openRequests := q })

/-- The payload of a kind, by character 0 (R27). -/
def readPayload (c0 : Byte) (l : List Byte) : Option Payload :=
  if c0 = 0x00#8 then readAlarm l
  else if c0 = 0x24#8 then readTaken l
  else if c0 = 0x34#8 then readTagNumber .recallOk l
  else if c0 = 0x2C#8 then readRefuse l
  else if c0 = 0x3C#8 then readAnswerFrame l
  else if c0 = 0x42#8 then readOffer l
  else if c0 = 0x52#8 then readTagNumber .recall l
  else if c0 = 0x4A#8 then readTagNumber .query l
  else if c0 = 0x66#8 then readClaim l
  else if c0 = 0x76#8 then readAward l
  else if c0 = 0x81#8 then readNeed l
  else if c0 = 0x91#8 then readWithdraw l
  else if c0 = 0xA5#8 then readAnnounce l
  else if c0 = 0xB5#8 then readConflict l
  else if c0 = 0xC3#8 then readBeacon l
  else none

/-! ### Frames (R26, R32) -/

/-- The frame whose header has been read, when it is not malformed. -/
def frameWith (c0 sender target : Byte) (payload : List Byte) : Option Frame := do
  let p ← readPayload c0 payload
  let f : Frame := { sender := (mirror sender).toNat, target := target.toNat, payload := p }
  if Frame.wellFormed f then some f else none

/-- The frame a receiver reads from the characters on the line; none for one it discards (R32). Reserved flag bits are not looked
at (DEDUCED, log 25; unsafe). -/
def readFrame (cs : List Byte) : Option Frame :=
  match cs with
  | c0 :: c1 :: c2 :: c3 :: rest =>
    let n := c3.toNat
    if n ≤ 64 ∧ rest.length = n + 2 ∧ rest.drop n = numBytes 2 (crc16 (c0 :: c1 :: c2 :: c3 :: rest.take n)).toNat then
      frameWith c0 c1 c2 (rest.take n)
    else none
  | _ => none

/-- The frame a receiver reads from the levels of the line, one for each bit time and `false` dominant; none for one it discards or
that breaks off (R25, R32). -/
def readLine (bits : List Bool) : Option Frame :=
  let r := bits.foldl LineReceiver.takeBit noFrame
  if r.discarded then none else readFrame r.taken

/-- The command that an intact frame is at a receiver. -/
def receivedCommand (f : Frame) : Instr :=
  match f.payload with
  | .alarm p => .alarmReceived f.sender f.target p
  | .taken p => .takenReceived f.sender f.target p
  | .recallOk p => .recallOkReceived f.sender f.target p
  | .refuse p => .refuseReceived f.sender f.target p
  | .answer p => .answerReceived f.sender f.target p
  | .offer p => .offerReceived f.sender f.target p
  | .recall p => .recallReceived f.sender f.target p
  | .query p => .queryReceived f.sender f.target p
  | .claim p => .claimReceived f.sender f.target p
  | .award p => .awardReceived f.sender f.target p
  | .need p => .needReceived f.sender f.target p
  | .withdraw p => .withdrawReceived f.sender f.target p
  | .announce p => .announceReceived f.sender f.target p
  | .conflict p => .conflictReceived f.sender f.target p
  | .beacon p => .beaconReceived f.sender f.target p

/-! ### Count records (R87, R179) -/

/-- The command of four characters of the count line. -/
def recordCommand (c0 c1 c2 c3 : Byte) : Instr :=
  match readRecord c0 c1 c2 c3 with
  | .count slot suspect pieces => .countRecord slot suspect pieces
  | .endOfRun total => .endRecord total
  | .halt => .haltRecord
  | .dropped r => .droppedRecord r

/-- The count receiver takes a character without error: it joins the record being assembled, and a fourth completes the record,
whose command then waits its turn; a receiver that is off or discards takes none (R86). No row of the table is one character:
this stands outside the commands, as a request's bytes do (DESIGN CHOICE, log 14; safe). -/
def State.withCountCharacter (c : Byte) (s : State) : State :=
  if s.unit.power ≠ .running || s.count.discarding then s
  else match s.count.assembled with
    | [c0, c1, c2] => { endAssembly s with pending := s.pending ++ [recordCommand c0 c1 c2 c] }
    | held => setCount { s.count with assembled := held ++ [c] } s

/-- The count receiver finds an error in a character: the record is dropped for it, by a command that waits its turn; a receiver
that is off or discards finds none (R86; outside the commands, log 14). -/
def State.withCountError (reason : DropReason) (s : State) : State :=
  if s.unit.power ≠ .running || s.count.discarding then s
  else { endAssembly s with pending := s.pending ++ [.droppedRecord reason] }

/-- The count receiver takes the bits of one character, in the format in force (R85, R86; outside the commands, log 14). -/
def State.withCountBits (bits : List Bool) (s : State) : State :=
  match readCountCharacter s.cfg.countLine bits with
  | .noStart => s
  | .good c => s.withCountCharacter c
  | .parityError => s.withCountError .parity
  | .framingError => s.withCountError .framing

/-! ### Requests (R165, R166, 11.4) -/

/-- A body of the length its kind requires carries its fields (R166). -/
def bodyOf (parse : List Byte → Option α) (l : List Byte) : Body α :=
  match parse l with
  | none => .wrongLength
  | some a => .fields a

def noBody (l : List Byte) : Body Unit := bodyOf (fun l => ended l ()) l

/-- A body of one number of `k` bytes. -/
def oneNum (k : Nat) (l : List Byte) : Body Nat :=
  bodyOf (fun l => do let (n, l) ← readNum k l; ended l n) l

def denominationBody (l : List Byte) : Option DenominationFields := do
  let (a, l) ← readNum 1 l
  let (b, l) ← readNum 3 l
  let (c, l) ← readNum 1 l
  let (d, l) ← readNum 2 l
  ended l { slot := a, face := b, kind := c, unit := d }

def loopBodyOf (l : List Byte) : Option LoopFields := do
  let (a, l) ← readNum 1 l
  let (b, l) ← readNum 1 l
  ended l { autoRejoin := a, m := b }

def transitBody (l : List Byte) : Option TransitFields := do
  let (a, l) ← readNum 1 l
  let (b, l) ← readNum 1 l
  ended l { cls := a, minutes := b }

def countLineBody (l : List Byte) : Option CountLineFields := do
  let (a, l) ← readNum 1 l
  let (b, l) ← readNum 1 l
  let (c, l) ← readNum 1 l
  ended l { baud := a, parity := b, stop := c }

def toleranceBody (l : List Byte) : Option ToleranceFields := do
  let (a, l) ← readNum 2 l
  let (b, l) ← readNum 2 l
  ended l { absolute := a, relative := b }

def floatBody (l : List Byte) : Option FloatFields := do
  let (a, l) ← readNum 1 l
  let (b, l) ← readNum 2 l
  let (c, l) ← readNum 2 l
  let (d, l) ← readNum 2 l
  ended l { slot := a, target := b, pickup := c, change := d }

def floatStationBody (l : List Byte) : Option FloatStationFields := do
  let (a, l) ← readNum 5 l
  let (b, l) ← readNum 5 l
  let (c, l) ← readNum 1 l
  ended l { pickupTrigger := a, topupCap := b, autoRaise := BitVec.ofNat 8 c }

def serviceBodyOf (l : List Byte) : Option ServiceFields := do
  let (a, l) ← readNum 1 l
  let (b, l) ← readNum 1 l
  let (c, l) ← readNum 1 l
  ended l { requestLimit := a, escalation := b, claimLimit := c }

def coverBody (l : List Byte) : Option CoverFields := do
  let (a, l) ← readNum 1 l
  let (b, l) ← readNum 1 l
  let (c, l) ← readNum 1 l
  let (d, l) ← readNum 1 l
  let (e, l) ← readNum 2 l
  ended l { primaryLow := a, primaryHigh := b, backupLow := c, backupHigh := d, delay := e }

def maskBody (l : List Byte) : Option FlagWord := do
  let (a, l) ← readNum 4 l
  ended l (BitVec.ofNat 32 a)

def makeUpBody (l : List Byte) : Option MakeUpFields := do
  let (a, l) ← readNum 4 l
  let (b, l) ← readNum 1 l
  let (c, l) ← readComp l
  ended l { tag := a, cls := b, comp := c }

def offerBody (l : List Byte) : Option OfferFields := do
  let (a, l) ← readNum 4 l
  let (b, l) ← readNum 1 l
  let (c, l) ← readNum 1 l
  ended l { tag := a, receiver := b, purpose := c }

def takeBody (l : List Byte) : Option TakeFields := do
  let (a, l) ← readNum 4 l
  let (b, l) ← readNum 1 l
  let (c, l) ← readNum 1 l
  let (d, l) ← readNum 5 l
  ended l { tag := a, giver := b, cls := c, value := d }

def countOpenBody (l : List Byte) : Option CountOpenFields := do
  let (a, l) ← readNum 1 l
  let (b, l) ← readNum 4 l
  let (c, l) ← readNum 3 l
  ended l { mode := a, tag := b, expected := c }

def needBody (l : List Byte) : Option NeedFields := do
  let (a, l) ← readNum 1 l
  let (b, l) ← readNum 1 l
  let (c, l) ← readComp l
  ended l { kind := a, urgency := b, comp := c }

def claimBody (l : List Byte) : Option ClaimFields := do
  let (a, l) ← readNum 1 l
  let (b, l) ← readNum 1 l
  ended l { requester := a, id := b }

def admitBody (l : List Byte) : Option AdmitFields := do
  let (a, l) ← readNum 4 l
  let (b, l) ← readNum 1 l
  let (c, l) ← readNum 5 l
  let (d, l) ← readComp l
  ended l { tag := a, cls := b, value := c, comp := d }

def nestBody (l : List Byte) : Option NestFields := do
  let (a, l) ← readNum 4 l
  let (b, l) ← readNum 4 l
  ended l { sack := a, member := b }

/-- Requests 0x01 to 0x1D: station state and settings. -/
def settingRequest (midRecord : Bool) (kind : Nat) (l : List Byte) : Option Instr :=
  match kind with
  | 0x01 => some (.start (noBody l))
  | 0x02 => some (.stop (noBody l))
  | 0x03 => some (.rejoin (noBody l))
  | 0x04 => some (.reset (noBody l))
  | 0x05 => some (.erase (noBody l))
  | 0x10 => some (.setStation (oneNum 1 l))
  | 0x11 => some (.setDenomination (bodyOf denominationBody l))
  | 0x12 => some (.setLoop (bodyOf loopBodyOf l))
  | 0x13 => some (.setTransit (bodyOf transitBody l))
  | 0x14 => some (.setCountLine (bodyOf countLineBody l) midRecord)
  | 0x15 => some (.setCount (oneNum 2 l))
  | 0x16 => some (.setTolerance (bodyOf toleranceBody l))
  | 0x17 => some (.setFloat (bodyOf floatBody l))
  | 0x18 => some (.setFloatStation (bodyOf floatStationBody l))
  | 0x19 => some (.setService (bodyOf serviceBodyOf l))
  | 0x1A => some (.setCover (bodyOf coverBody l))
  | 0x1B => some (.setSack (oneNum 1 l))
  | 0x1C => some (.setDoor (oneNum 2 l))
  | 0x1D => some (.setAttentionMask (bodyOf maskBody l))
  | _ => none

/-- Requests 0x20 to 0x53: books, handover, counting, service. -/
def workRequest (kind : Nat) (l : List Byte) : Option Instr :=
  match kind with
  | 0x20 => some (.makeUp (bodyOf makeUpBody l))
  | 0x21 => some (.dismantle (oneNum 4 l))
  | 0x22 => some (.acceptVariance (oneNum 4 l))
  | 0x23 => some (.dayClose (noBody l))
  | 0x30 => some (.offer (bodyOf offerBody l))
  | 0x31 => some (.take (bodyOf takeBody l))
  | 0x32 => some (.takeResolve (oneNum 4 l))
  | 0x33 => some (.recall (oneNum 4 l))
  | 0x34 => some (.query (oneNum 4 l))
  | 0x35 => some (.decline (oneNum 4 l))
  | 0x40 => some (.countOpen (bodyOf countOpenBody l))
  | 0x41 => some (.countClose (noBody l))
  | 0x42 => some (.countAbort (noBody l))
  | 0x50 => some (.raiseNeed (bodyOf needBody l))
  | 0x51 => some (.cancelNeed (oneNum 1 l))
  | 0x52 => some (.claimNext (noBody l))
  | 0x53 => some (.claim (bodyOf claimBody l))
  | _ => none

/-- Requests 0x60 to 0x71: safe, alarms, door. -/
def safeRequest (kind : Nat) (l : List Byte) : Option Instr :=
  match kind with
  | 0x60 => some (.windowOpen (oneNum 1 l))
  | 0x61 => some (.windowClose (noBody l))
  | 0x62 => some (.admitStock (bodyOf admitBody l))
  | 0x63 => some (.sackOpen (oneNum 4 l))
  | 0x64 => some (.nest (bodyOf nestBody l))
  | 0x65 => some (.unnest (oneNum 4 l))
  | 0x66 => some (.sackClose (oneNum 4 l))
  | 0x67 => some (.sackReopen (oneNum 4 l))
  | 0x68 => some (.sackAbandon (oneNum 4 l))
  | 0x69 => some (.dispatch (oneNum 4 l))
  | 0x70 => some (.alarmClear (oneNum 1 l))
  | 0x71 => some (.doorAllow (oneNum 1 l))
  | _ => none

/-- Requests 0x80 to 0x90: reads. -/
def readRequest (kind : Nat) (l : List Byte) : Option Instr :=
  match kind with
  | 0x80 => some (.readAttention (noBody l))
  | 0x81 => some (.readStation (noBody l))
  | 0x82 => some (.readLoop (noBody l))
  | 0x83 => some (.readPeers (oneNum 1 l))
  | 0x84 => some (.readCustody (oneNum 1 l))
  | 0x85 => some (.readContainer (oneNum 4 l))
  | 0x86 => some (.readInbound (oneNum 1 l))
  | 0x87 => some (.readReleases (oneNum 1 l))
  | 0x88 => some (.readTotals (noBody l))
  | 0x89 => some (.readDayTotals (noBody l))
  | 0x8A => some (.readCount (noBody l))
  | 0x8B => some (.readPosition (noBody l))
  | 0x8C => some (.readRequests (oneNum 1 l))
  | 0x8D => some (.readService (oneNum 1 l))
  | 0x8E => some (.readWindow (noBody l))
  | 0x8F => some (.readSack (oneNum 4 l))
  | 0x90 => some (.readDispatches (oneNum 1 l))
  | _ => none

/-- The first of two readings that gives a command. -/
def orElse (a b : Option Instr) : Option Instr :=
  match a with
  | none => b
  | some i => some i

/-- The command of a complete request; `midRecord` says that a count record is being assembled of which State has not been told
(R85). -/
def requestCommand (midRecord : Bool) (kind : Nat) (body : List Byte) : Instr :=
  (orElse (settingRequest midRecord kind body)
    (orElse (workRequest kind body) (orElse (safeRequest kind body) (readRequest kind body)))).getD
    (.unknownKindRequest kind)

/-! ### The bytes of a select period (R165) -/

/-- The byte the port returns while it has nothing to say (R165). -/
abbrev filler : Byte := 0xFF#8

/-- A response in bytes: status, length, body. What follows the status of a body above 255 bytes, for which R165 has no length
byte, is a free value (DESIGN CHOICE, log 9; safe). -/
def Response.bytes (r : Response) : List Byte :=
  numBytes 1 (statusCode r.status) ++
    (if r.body.length ≤ Config.bodyMax then numBytes 1 r.body.length ++ r.body else Config.longResponse r.body)

/-- A request in bytes: kind, body length, body (R165). -/
def sentBytes (kind : Byte) (body : List Byte) : List Byte := kind :: numBytes 1 body.length ++ body

/-- The byte that the port returns for byte `i` of a select period: 0xFF while the request of `request` bytes is clocked in and for
the `wait` bytes until the response is ready, whose number R165 does not fix; then the response; then 0xFF again. -/
def returnedByte (request wait : Nat) (r : Option Response) (i : Nat) : Byte :=
  if i < request + wait then filler
  else match r with
    | none => filler
    | some r => (Response.bytes r).getD (i - (request + wait)) filler

/-- The byte the part returns at its port for byte `i` of the select period whose request it has run: 0xFF while it is held in
reset, none while it is unpowered (R165, R177). -/
def State.portByte (request wait i : Nat) (s : State) : Option Byte :=
  match s.unit.power with
  | .off => none
  | .inReset => some filler
  | .running => some (returnedByte request wait s.port.response i)

/-- What the station processor reads: the first byte that is not 0xFF is the status, then the length, then the body (R165). -/
def readResponse (bytes : List Byte) : Option (Byte × List Byte) :=
  match bytes.dropWhile (· == filler) with
  | status :: n :: rest => if n.toNat ≤ rest.length then some (status, rest.take n.toNat) else none
  | _ => none

end Sys2Proof.Machine
end

