-- ==== Sys2Proof/WellFormed.lean ====
section
/-! DEFINITION. Well-formed commands: every operand within what its field can carry (R178, 11.2 to 11.4, R26, R87). -/

namespace Sys2Proof

open Machine

/-! ### Fields -/

def isByte (n : Nat) : Bool := n < 256
def isPair (n : Nat) : Bool := n < 65536
def isTriple (n : Nat) : Bool := n < 16777216
def isTag (n : Nat) : Bool := n < 4294967296
def isValue (n : Nat) : Bool := n ≤ Config.valueMax
def isStation (n : Nat) : Bool := 1 ≤ n && n ≤ Config.maxStation
def isId (n : Nat) : Bool := 1 ≤ n && n ≤ 255

/-- A composition as a body or payload can carry it: at most 255 pairs of a slot byte and a 2-byte count. -/
def isComp (c : Composition) : Bool := isByte c.length && c.all (fun p => isByte p.1 && isPair p.2)

/-- A body of the wrong length carries no fields. -/
def Body.wellFormed (b : Body α) (ok : α → Bool) : Bool :=
  match b with
  | .wrongLength => true
  | .fields a => ok a

/-! ### Frames -/

def optValue (o : Option Nat) : Bool :=
  match o with
  | none => true
  | some v => isValue v

/-- An optional composition lists 1 to 12 pairs when it is present (R178). -/
def optComp (o : Option Composition) : Bool :=
  match o with
  | none => true
  | some c => 1 ≤ c.length && c.length ≤ Config.slotCount && compProper c

/-- The fields of a payload within their ranges. -/
def Payload.wellFormed : Payload → Bool
  | .alarm p => isTag p.tag
  | .taken p => isTag p.tag && isPair p.number && isValue p.value
  | .recallOk p => isTag p.tag && isPair p.number
  | .refuse p => isTag p.tag && isPair p.number
  | .answer p => isTag p.tag && isPair p.number && p.remaining ≤ 240 && isValue p.value
  | .offer p => 1 ≤ p.number && isPair p.number && 1 ≤ p.tag && isTag p.tag && isValue p.value && optValue p.counted
      && isStation p.origin && isByte p.purpose && p.remaining ≤ 240 && optComp p.comp
  | .recall p => isTag p.tag && isPair p.number
  | .query p => isTag p.tag && isPair p.number
  | .claim p => isId p.id
  | .award p => isId p.id && isStation p.claimant && isValue p.value && compRequired p.comp
  | .need p => isId p.id && isValue p.value && compRequired p.comp
  | .withdraw p => isId p.id
  | .announce p => p.m ≤ 15
  | .conflict _ => true
  | .beacon p => p.m ≤ 15 && p.custodyCount ≤ Config.custodyCap && p.outbound ≤ Config.custodyCap
      && p.openRequests ≤ Config.requestCap

/-- A frame that a peer can send: not malformed, its fields within their ranges. -/
def frameOk (sender target : Nat) (p : Payload) : Bool :=
  Frame.wellFormed { sender := sender, target := target, payload := p } && p.wellFormed

/-! ### Kind bytes (11.4) -/

/-- The kind bytes that name a request. -/
def knownKinds : List Nat :=
  [0x01, 0x02, 0x03, 0x04, 0x05, 0x10, 0x11, 0x12, 0x13, 0x14, 0x15, 0x16, 0x17, 0x18, 0x19, 0x1A, 0x1B, 0x1C, 0x1D]
    ++ [0x20, 0x21, 0x22, 0x23, 0x30, 0x31, 0x32, 0x33, 0x34, 0x35, 0x40, 0x41, 0x42, 0x50, 0x51, 0x52, 0x53]
    ++ [0x60, 0x61, 0x62, 0x63, 0x64, 0x65, 0x66, 0x67, 0x68, 0x69, 0x70, 0x71]
    ++ [0x80, 0x81, 0x82, 0x83, 0x84, 0x85, 0x86, 0x87, 0x88, 0x89, 0x8A, 0x8B, 0x8C, 0x8D, 0x8E, 0x8F, 0x90]

/-! ### Commands -/

def Instr.wellFormed : Instr → Bool
  | .powerUp _ => true
  | .coldStart _ => true
  | .warmStart _ => true
  | .resetPinLow _ => true
  | .selectRelease _ => true
  | .unknownKindRequest k => isByte k && !knownKinds.contains k
  | .start _ => true
  | .stop _ => true
  | .rejoin _ => true
  | .reset _ => true
  | .erase _ => true
  | .setStation b => b.wellFormed isByte
  | .setDenomination b => b.wellFormed (fun f => isByte f.slot && isTriple f.face && isByte f.kind && isPair f.unit)
  | .setLoop b => b.wellFormed (fun f => isByte f.autoRejoin && isByte f.m)
  | .setTransit b => b.wellFormed (fun f => isByte f.cls && isByte f.minutes)
  | .setCountLine b _ => b.wellFormed (fun f => isByte f.baud && isByte f.parity && isByte f.stop)
  | .setCount b => b.wellFormed isPair
  | .setTolerance b => b.wellFormed (fun f => isPair f.absolute && isPair f.relative)
  | .setFloat b => b.wellFormed (fun f => isByte f.slot && isPair f.target && isPair f.pickup && isPair f.change)
  | .setFloatStation b => b.wellFormed (fun f => isValue f.pickupTrigger && isValue f.topupCap)
  | .setService b => b.wellFormed (fun f => isByte f.requestLimit && isByte f.escalation && isByte f.claimLimit)
  | .setCover b => b.wellFormed (fun f => isByte f.primaryLow && isByte f.primaryHigh && isByte f.backupLow
      && isByte f.backupHigh && isPair f.delay)
  | .setSack b => b.wellFormed isByte
  | .setDoor b => b.wellFormed isPair
  | .setAttentionMask _ => true
  | .makeUp b => b.wellFormed (fun f => isTag f.tag && isByte f.cls && isComp f.comp)
  | .dismantle b => b.wellFormed isTag
  | .acceptVariance b => b.wellFormed isTag
  | .dayClose _ => true
  | .offer b => b.wellFormed (fun f => isTag f.tag && isByte f.receiver && isByte f.purpose)
  | .take b => b.wellFormed (fun f => isTag f.tag && isByte f.giver && isByte f.cls && isValue f.value)
  | .takeResolve b => b.wellFormed isTag
  | .recall b => b.wellFormed isTag
  | .query b => b.wellFormed isTag
  | .decline b => b.wellFormed isTag
  | .countOpen b => b.wellFormed (fun f => isByte f.mode && isTag f.tag && isTriple f.expected)
  | .countClose _ => true
  | .countAbort _ => true
  | .raiseNeed b => b.wellFormed (fun f => isByte f.kind && isByte f.urgency && isComp f.comp)
  | .cancelNeed b => b.wellFormed isByte
  | .claimNext _ => true
  | .claim b => b.wellFormed (fun f => isByte f.requester && isByte f.id)
  | .windowOpen b => b.wellFormed isByte
  | .windowClose _ => true
  | .admitStock b => b.wellFormed (fun f => isTag f.tag && isByte f.cls && isValue f.value && isComp f.comp)
  | .sackOpen b => b.wellFormed isTag
  | .nest b => b.wellFormed (fun f => isTag f.sack && isTag f.member)
  | .unnest b => b.wellFormed isTag
  | .sackClose b => b.wellFormed isTag
  | .sackReopen b => b.wellFormed isTag
  | .sackAbandon b => b.wellFormed isTag
  | .dispatch b => b.wellFormed isTag
  | .alarmClear b => b.wellFormed isByte
  | .doorAllow b => b.wellFormed isByte
  | .readAttention _ => true
  | .attentionReadCleared => true
  | .readStation _ => true
  | .readLoop _ => true
  | .readPeers b => b.wellFormed isByte
  | .readCustody b => b.wellFormed isByte
  | .readContainer b => b.wellFormed isTag
  | .readInbound b => b.wellFormed isByte
  | .readReleases b => b.wellFormed isByte
  | .readTotals _ => true
  | .readDayTotals _ => true
  | .readCount _ => true
  | .readPosition _ => true
  | .readRequests b => b.wellFormed isByte
  | .readService b => b.wellFormed isByte
  | .readWindow _ => true
  | .readSack b => b.wellFormed isTag
  | .readDispatches b => b.wellFormed isByte
  | .frameSendStart => true
  | .announceLostSerial _ => true
  | .readBackFault => true
  | .frameSent _ => true
  | .offerReport _ => true
  | .takenReport _ => true
  | .queryReport _ => true
  | .claimReport _ => true
  | .announceCompleted => true
  | .frameDiscarded _ => true
  | .intactFrameHeard f => frameOk f.sender f.target f.payload
  | .alarmReceived sender target p => frameOk sender target (.alarm p)
  | .takenReceived sender target p => frameOk sender target (.taken p)
  | .recallOkReceived sender target p => frameOk sender target (.recallOk p)
  | .refuseReceived sender target p => frameOk sender target (.refuse p)
  | .answerReceived sender target p => frameOk sender target (.answer p)
  | .offerReceived sender target p => frameOk sender target (.offer p)
  | .recallReceived sender target p => frameOk sender target (.recall p)
  | .queryReceived sender target p => frameOk sender target (.query p)
  | .claimReceived sender target p => frameOk sender target (.claim p)
  | .awardReceived sender target p => frameOk sender target (.award p)
  | .needReceived sender target p => frameOk sender target (.need p)
  | .withdrawReceived sender target p => frameOk sender target (.withdraw p)
  | .announceReceived sender target p => frameOk sender target (.announce p)
  | .conflictReceived sender target p => frameOk sender target (.conflict p)
  | .beaconReceived sender target p => frameOk sender target (.beacon p)
  | .listeningPeriodEnd => true
  | .announceWaitEnd => true
  | .beaconTimer => true
  | .autoRejoin => true
  | .peerQuiet n => isStation n
  | .peerGone n => isStation n
  | .transitDeadline t => isTag t
  | .inboundLapse t => isTag t
  | .recallTimeout t => isTag t
  | .queryWaitEnd t => isTag t
  | .refusalWindowEnd t => isTag t
  | .countRecord slot _ count => slot < 16 && count ≤ 4095
  | .endRecord total => total ≤ 4095
  | .haltRecord => true
  | .droppedRecord _ => true
  | .recordAbandoned => true
  | .batchIdleEnd => true
  | .noRecordTimeout => true
  | .requestExpiry id => isId id
  | .escalation id => isId id
  | .claimLapse id => isId id
  | .backupEligible requester id => isStation requester && isId id
  | .windowExpiry => true
  | .doorOpeningEdge => true
  | .doorClosing => true
  | .doorAllowanceEnd => true
  | .doorHeld => true
  | .lampStep => true
  | .mainSupplyLoss _ => true
  | .countLineResynchronisation => true

end Sys2Proof
end

