-- ==== Sys2Proof/Safety.lean ====
section
/-! DEFINITION. The terms of the claims: a part that takes requests, a request answered without effect, and the laws that the
records of a sound part obey. -/

namespace Sys2Proof.Machine

/-! ### Requests -/

/-- The part runs and no start waits for select to be released, so that the port takes a request (R165, R177). -/
structure Ready (s : State) : Prop where
  running : s.unit.power = .running
  noStart : s.port.owed = none

/-- The state with the answer of a new select period and nothing else: "changes nothing" (R165, R166). -/
def answered (st : Status) (body : List Byte) (s : State) : State :=
  { s with port := { s.port with response := some { status := st, body := body } }, attn := { s.attn with returned := 0 } }

/-- A refused request: an empty body, nothing changed (R166, 11.4). -/
def refused (st : Status) (s : State) : State := answered st [] s

/-- An accepted SET_ request: the settings, the answer OK, and STOPPED once an UNCONFIGURED station's configuration is
complete (R45). -/
def configured (cfg : Settings) (s : State) : State :=
  { answered .ok [] s with
    cfg := cfg,
    member := { s.member with
      state := if s.member.state = .unconfigured ∧ cfg.complete = true then .stopped else s.member.state } }

/-- The answer that a state shows. -/
def Answers (t : State) (st : Status) (body : List Byte) : Prop :=
  t.port.response = some { status := st, body := body }

/-- An ordinary reason is set (R167). -/
def Raised (r : Reason) (t : State) : Prop := t.attn.reasons &&& reasonMask r = reasonMask r

/-! ### Timer commands -/

/-- The commands that a timer step puts into the queue when they are due (log 1). -/
def timerCommand : Instr → Bool
  | .listeningPeriodEnd => true
  | .announceWaitEnd => true
  | .beaconTimer => true
  | .autoRejoin => true
  | .peerQuiet _ => true
  | .peerGone _ => true
  | .transitDeadline _ => true
  | .inboundLapse _ => true
  | .recallTimeout _ => true
  | .queryWaitEnd _ => true
  | .refusalWindowEnd _ => true
  | .noRecordTimeout => true
  | .requestExpiry _ => true
  | .escalation _ => true
  | .claimLapse _ => true
  | .backupEligible _ _ => true
  | .windowExpiry => true
  | .doorAllowanceEnd => true
  | .doorHeld => true
  | .lampStep => true
  | _ => false

/-! ### Parts of a next state -/

/-- The attention record with an ordinary reason raised (R167, R168). -/
def Attention.with (a : Attention) (r : Reason) : Attention :=
  { a with reasons := a.reasons ||| reasonMask r, returned := a.returned &&& ~~~(reasonMask r) }

/-- The attention record with HANDOVER_RESULT raised and its note written (R167). -/
def Attention.withResult (a : Attention) (tag : Nat) (side : Side) (outcome : NoteOutcome) : Attention :=
  { a.with .handoverResult with note := some { tag := tag, side := side, outcome := outcome } }

/-- The Transmit Queue after a frame has joined it (R37). -/
def State.queueWith (s : State) (port : Bool) (target : Nat) (p : Payload) : List QueuedFrame :=
  insertFrame { target := target, payload := p, port := port, onLine := false } s.loop.queue

/-- The totals after a change that reaches no bound (R14). -/
def State.totalsWith (s : State) (k : TotalName) (delta : Int) : Totals :=
  s.custody.totals.put k (s.custody.totals.get k + delta)

/-- The Custody Table with the container of a tag changed. -/
def State.tableWith (s : State) (tag : Nat) (f : Container → Container) : List Container :=
  s.custody.table.map (fun c => if c.tag = tag then f c else c)

/-- The Inbound List with the entry of a tag changed. -/
def State.inboundWith (s : State) (tag : Nat) (f : InboundEntry → InboundEntry) : List InboundEntry :=
  s.custody.inbound.map (fun e => if e.tag = tag then f e else e)

/-! ### Frames heard -/

/-- The loop interface once an intact frame of another station is on the line: a frame this station was contending with
has lost and stays where it was (R30). -/
def LoopInterface.yielded (l : LoopInterface) : LoopInterface :=
  { l with sending := none, slotDriven := false, queue := l.queue.map (fun f => { f with onLine := false }) }

/-- What hearing a frame of a peer does that is LIVE or QUIET already: LIVE, silence 0 (R59); `driven` for the acknowledge
slot (R34). -/
def State.heard (s : State) (sender : Nat) (driven : Bool) : State :=
  { s with
    loop := { s.loop.yielded with slotDriven := driven },
    member := { s.member with
      peers := s.member.peers.setIfInBounds (sender - 1) { s.peer sender with state := .live, silence := 0 } } }

/-- A frame of a known peer that a station ON_LOOP delivers (R28, R33). -/
structure Hears (s : State) (sender target : Nat) (p : Payload) : Prop where
  running : s.unit.power = .running
  onLoop : s.member.state = .onLoop
  form : Frame.wellFormed { sender := sender, target := target, payload := p } = true
  foreign : sender ≠ s.own
  known : (s.peer sender).state = .live ∨ (s.peer sender).state = .quiet
  targeted : s.targeted target = true

/-! ### Frames sent -/

/-- A queued frame of this station is on the line (R37). -/
structure OnLine (s : State) (target : Nat) (p : Payload) : Prop where
  running : s.unit.power = .running
  sending : s.loop.sending = some { sender := s.own, target := target, payload := p }
  line : ∃ q, s.loop.queue.find? (·.onLine) = some q ∧ q.target = target ∧ q.payload = p

/-- The loop interface after a frame has ended cleanly (R37, R41). -/
def LoopInterface.ended (l : LoopInterface) : LoopInterface :=
  { l with sending := none, queue := l.queue.filter (fun f => !f.onLine), faultScore := l.faultScore - 1 }

/-- A request that adds a port frame is taken in this station state, and the queue has room for it (R37, R62). -/
structure PortRoom (s : State) : Prop where
  ready : Ready s
  state : joiningOrJoined s.member.state = true
  ports : portFrames s.loop.queue < 8
  room : s.loop.queue.length < 12

/-! ### Laws of the custody unit -/

/-- No tag twice, none in both collections, no handover number twice under one giver, every capacity kept (R7, R9, R10,
R162). -/
structure BooksInv (s : State) : Prop where
  tableTags : (s.custody.table.map (·.tag)).Nodup
  inboundTags : (s.custody.inbound.map (·.tag)).Nodup
  inboundNumbers : ∀ e ∈ s.custody.inbound, ∀ f ∈ s.custody.inbound,
    e.number ≠ 0 → e.giver = f.giver → e.number = f.number → e.tag = f.tag
  apart : ∀ c ∈ s.custody.table, ∀ e ∈ s.custody.inbound, c.tag ≠ e.tag
  room : s.custody.table.length + s.reserved ≤ Config.custodyCap
  inboundRoom : s.custody.inbound.length ≤ Config.inboundCap
  releaseRoom : s.custody.releases.length ≤ Config.releaseCap
  dispatchRoom : s.safe.dispatches.length ≤ Config.dispatchCap

/-- The container is the target of the open RECOUNT or UNPACK session (R99). -/
def State.lockedBySession (s : State) (tag : Nat) : Prop :=
  s.count.state.sessionOpen = true ∧ ∃ j, s.count.job = some j ∧ isStanding j.mode = false ∧ j.tag = tag

/-- The optional parts of a record are present in the states R5 gives them, a sack stays HELD (R6), a refusal window is open
in HELD only (R66), and a COUNTING container is the target of the open session (R99). -/
structure PartsInv (s : State) : Prop where
  handover : ∀ c ∈ s.custody.table, c.handover.isSome = inHandover c.state
  nesting : ∀ c ∈ s.custody.table, c.nesting.isSome = (c.state == .nested)
  sack : ∀ c ∈ s.custody.table, c.sack.isSome = (c.cls == .courierSack)
  sackHeld : ∀ c ∈ s.custody.table, c.cls = .courierSack → c.state = .held
  deferred : ∀ c ∈ s.custody.table, c.deferred.isSome → c.state = .counting
  refusal : ∀ c ∈ s.custody.table, c.refusal.isSome → c.state = .held
  lock : ∀ c ∈ s.custody.table, c.state = .counting → s.lockedBySession c.tag
  noSackInbound : ∀ e ∈ s.custody.inbound, e.cls ≠ .courierSack

/-- The containers are read from the table one after another, from a first tag on, each naming the next, the last none
(R153). -/
def State.chained (s : State) : List Container → Option Nat → Prop
  | [], first => first = none
  | c :: l, first => (∃ tag, first = some tag ∧ s.container? tag = some c) ∧ s.chained l c.nextMember

/-- The law of the sacks: value and count are those of the chain, whose members name the sack, and every NESTED container is in
the chain of the sack it names (R153). -/
structure SackInv (s : State) : Prop where
  chain : ∀ k ∈ s.custody.table, ∀ q, k.sack = some q → s.chained (s.members q) q.first
  count : ∀ k ∈ s.custody.table, ∀ q, k.sack = some q → (s.members q).length = q.count
  value : ∀ k ∈ s.custody.table, ∀ q, k.sack = some q → k.value = ((s.members q).map (·.value)).sum
  parent : ∀ k ∈ s.custody.table, ∀ q, k.sack = some q → ∀ m ∈ s.members q, ∀ n, m.nesting = some n → n.parent = k.tag
  nested : ∀ k ∈ s.custody.table, ∀ q, k.sack = some q → ∀ m ∈ s.members q, m.state = .nested
  listed : ∀ m ∈ s.custody.table, ∀ n, m.nesting = some n →
    ∃ k ∈ s.custody.table, ∃ q, k.tag = n.parent ∧ k.sack = some q ∧ m ∈ s.members q
  settled : ∀ k ∈ s.custody.table, k.sack.isSome = true → k.disputed = false

/-- A declared or counted composition is worth the value it stands beside (R2, R3). -/
structure WorthInv (s : State) : Prop where
  declared : ∀ c ∈ s.custody.table, ∀ k, c.comp = some k → compProper k = true ∧ s.cfg.valueOf k = c.value
  counted : ∀ c ∈ s.custody.table, ∀ g, c.counted = some g → ∀ k, g.comp = some k →
    compProper k = true ∧ s.cfg.valueOf k = g.value

/-! ### Laws of the loop interface -/

/-- The station states in which the queue is empty and nothing is sent or ready (R40, R44). -/
def offLine : StationState → Bool
  | .unconfigured => true
  | .stopped => true
  | .duplicate => true
  | .listening => false
  | .announcing => false
  | .onLoop => false
  | .withdrawn => false

/-- A frame on the line is an ANNOUNCE exactly in ANNOUNCING, and there is one in ON_LOOP and ANNOUNCING only (R33). -/
def sendsRightly (st : StationState) (f : Frame) : Bool :=
  match st with
  | .onLoop => !isAnnounce f.payload
  | .announcing => isAnnounce f.payload
  | _ => false

/-- The queue is ordered by class and within its limits, the score within its range, and what is ready or sent fits the
station state (R33, R37 to R41). -/
structure LoopInv (s : State) : Prop where
  room : s.loop.queue.length ≤ Config.queueCap
  portRoom : portFrames s.loop.queue ≤ Config.portCap
  kinds : ∀ f ∈ s.loop.queue, frameClass f.payload ≤ 4
  ordered : s.loop.queue.Pairwise (fun a b => frameClass a.payload ≤ frameClass b.payload)
  score : s.loop.faultScore ≤ Config.faultMax
  empty : offLine s.member.state = true → s.loop.queue = []
  sending : ∀ f, s.loop.sending = some f → sendsRightly s.member.state f = true
  beacon : s.loop.beaconReady = true → s.member.state = .onLoop
  conflict : s.loop.conflictReady.isSome → s.member.state = .onLoop
  announce : s.loop.announceReady = true → s.member.state = .announcing

/-! ### Laws of the service, count and membership units -/

/-- At most 4 Own Requests with distinct ids from 1 to 255, at most 16 Service List entries with distinct keys
(R132, R142). -/
structure ServiceInv (s : State) : Prop where
  requestRoom : s.service.requests.length ≤ Config.requestCap
  ids : (s.service.requests.map (·.id)).Nodup
  idRange : ∀ r ∈ s.service.requests, 1 ≤ r.id ∧ r.id ≤ 255
  nextRange : 1 ≤ s.service.nextId ∧ s.service.nextId ≤ 255
  listRoom : s.service.list.length ≤ Config.serviceCap
  keys : (s.service.list.map (fun e => (e.requester, e.id))).Nodup

/-- The figures of the count engine stay in range, a batch has records only while RUNNING, and a receiver that discards
assembles nothing (R86, R88, R89, R92, R96). -/
structure CountInv (s : State) : Prop where
  fifoRoom : s.count.fifo.length ≤ Config.fifoCap
  taken : s.count.batch.taken = s.count.fifo.length
  dropped : s.count.batch.dropped ≤ 255
  lost : s.count.batch.lost ≤ 255
  stray : s.count.stray ≤ 65535
  number : s.count.batchNumber ≤ 65535
  quiet : s.count.state ≠ .running → s.count.fifo = [] ∧ s.count.batch = noBatch
  job : s.count.state.sessionOpen = true → s.count.job.isSome
  timer : s.count.noRecordEnds.isSome → s.count.state = .opened
  assembled : s.count.assembled.length ≤ 3
  discarding : s.count.discarding = true → s.count.assembled = []

/-- UNCONFIGURED is the state of an incomplete configuration; a station on the line has a role; its own place in the Peer
Table is UNKNOWN; silence times stop at 655.35 s (R45, R47, R49, R58). -/
structure MemberInv (s : State) : Prop where
  configured : s.member.state = .unconfigured ↔ s.cfg.complete = false
  role : onTheLine s.member.state = true → s.unit.role.isSome
  own : ∀ n, s.cfg.number = some n → 1 ≤ n ∧ n ≤ Config.maxStation ∧ s.peer n = unknownPeer
  silence : ∀ n, (s.peer n).silence ≤ Config.silenceMax

/-! ### Money -/

/-- What the identity of R15 says is 0 while the saturation mark is clear. -/
def State.balance (s : State) : Int := s.accountable - s.custody.totals.identity

/-- The identity of R15: it holds while the saturation mark is clear. -/
def IdentityInv (s : State) : Prop := s.custody.saturated = false → s.balance = 0

/-- Position counts, face values, container values and totals lie in their ranges (R14, R15, R115, 00_scope.md). -/
structure MoneyInv (s : State) : Prop where
  pieces : ∀ d, s.pieces d ≤ Config.countMax
  faces : ∀ d, s.cfg.face d ≤ 500000
  values : ∀ c ∈ s.custody.table, c.value ≤ Config.valueMax
  counted : ∀ c ∈ s.custody.table, ∀ g, c.counted = some g → g.value ≤ Config.valueMax
  inboundValues : ∀ e ∈ s.custody.inbound, e.value ≤ Config.valueMax
  inboundCounted : ∀ e ∈ s.custody.inbound, ∀ v, e.counted = some v → v ≤ Config.valueMax
  totals : ∀ k, -Config.totalMax ≤ s.custody.totals.get k ∧ s.custody.totals.get k ≤ Config.totalMax

end Sys2Proof.Machine
end

