-- ==== Sys2Proof/Certificates/Slice0/Obligations.lean ====
section
/-! DEFINITION. The statements for the provers, in the order of OBLIGATIONS.json. -/

open Sys2Proof Sys2Proof.Machine

/-! ### Steps, starts and supply -/

/-- A step runs the command at the front of the queue on the state with the queue's rest. -/
def Obligations.StepRunsFront : Prop :=
  ∀ (c : Instr) (rest : List Instr) (s : State), s.pending = c :: rest → step s = exec c { s with pending := rest }

/-- With nothing waiting, a step is one 10 ms timer step: the model's choice, log 1. Silence times and ages advance on the line
only (R60, R132), a part that does not run stands still (R177), and the timer commands then due wait in the queue: those whose
time, by their rules (R43, R50, R52, R56, R60, R66, R69, R73, R79, R82, R96, R136, R139, R143, R151, R174 to R176), has been
reached at the new clock value, and no other command. -/
def Obligations.IdleStepIsTimerStep : Prop :=
  ∀ s : State, s.pending = [] →
    (s.unit.power ≠ .running → step s = .next s) ∧
    (s.unit.power = .running → ∃ t, step s = .next t ∧ t.pending = t.dueEvents ∧
      (onTheLine s.member.state = false →
        t = { s with clock := s.clock + 1, lamps := { s.lamps with ms := s.lamps.ms + 10 }, pending := t.pending }) ∧
      (onTheLine s.member.state = true →
        (∀ n, t.peer n = if (s.peer n).state = .unknown then s.peer n
          else { s.peer n with silence := min 65535 ((s.peer n).silence + 1) }) ∧
        t.service.requests = s.service.requests.map ageRequest ∧
        t = { s with clock := s.clock + 1, lamps := { s.lamps with ms := s.lamps.ms + 10 },
                     member := { s.member with peers := t.member.peers },
                     service := { s.service with requests := t.service.requests }, pending := t.pending }) ∧
      (∀ c ∈ t.pending, timerCommand c = true) ∧
      (.listeningPeriodEnd ∈ t.pending ↔
        s.member.state = .listening ∧ ∃ w, s.member.listeningEnds = some w ∧ w ≤ t.clock) ∧
      (.announceWaitEnd ∈ t.pending ↔
        s.member.state = .announcing ∧ ∃ w, s.member.announceWaitEnds = some w ∧ w ≤ t.clock) ∧
      (.beaconTimer ∈ t.pending ↔ s.member.state = .onLoop ∧ ∃ w, s.member.beaconDue = some w ∧ w ≤ t.clock) ∧
      (.autoRejoin ∈ t.pending ↔ s.member.state = .withdrawn ∧ s.cfg.autoRejoin = true ∧
        ∃ w, s.member.withdrawnAt = some w ∧ w + 500 ≤ t.clock) ∧
      (∀ n, .peerQuiet n ∈ t.pending ↔ 1 ≤ n ∧ n ≤ 56 ∧ onTheLine s.member.state = true ∧ (t.peer n).state = .live ∧
        2 * (25 * (1 + (t.peer n).m.getD 3)) ≤ (t.peer n).silence) ∧
      (∀ n, .peerGone n ∈ t.pending ↔ 1 ≤ n ∧ n ≤ 56 ∧ onTheLine s.member.state = true ∧
        ((t.peer n).state = .live ∨ (t.peer n).state = .quiet) ∧
        8 * (25 * (1 + (t.peer n).m.getD 3)) ≤ (t.peer n).silence) ∧
      (∀ tag, .transitDeadline tag ∈ t.pending ↔ ∃ c ∈ s.custody.table, c.tag = tag ∧ c.state = .outbound ∧
        ∃ h, c.handover = some h ∧ h.deadline ≤ t.clock) ∧
      (∀ tag, .inboundLapse tag ∈ t.pending ↔ ∃ e ∈ s.custody.inbound, e.tag = tag ∧ e.state = .expected ∧
        e.lapse ≤ t.clock) ∧
      (∀ tag, .recallTimeout tag ∈ t.pending ↔ ∃ c ∈ s.custody.table, c.tag = tag ∧ c.state = .recalling ∧
        ∃ w, c.recallEnds = some w ∧ w ≤ t.clock) ∧
      (∀ tag, .queryWaitEnd tag ∈ t.pending ↔ ∃ e ∈ s.custody.inbound, e.tag = tag ∧ e.queryPending = true ∧
        ∃ w, e.queryWaitEnds = some w ∧ w ≤ t.clock) ∧
      (∀ tag, .refusalWindowEnd tag ∈ t.pending ↔ ∃ c ∈ s.custody.table, c.tag = tag ∧
        ∃ w, c.refusal = some w ∧ w.closes ≤ t.clock) ∧
      (.noRecordTimeout ∈ t.pending ↔ ∃ w, s.count.noRecordEnds = some w ∧ w ≤ t.clock) ∧
      (∀ id, .requestExpiry id ∈ t.pending ↔ ∃ r ∈ t.service.requests, r.id = id ∧ r.phase = .opened ∧
        s.cfg.requestLimit * 6000 ≤ r.openAge) ∧
      (∀ id, .escalation id ∈ t.pending ↔ ∃ r ∈ t.service.requests, r.id = id ∧ r.phase = .opened ∧
        r.urgency = .normal ∧ s.cfg.escalation ≠ 0 ∧ s.cfg.escalation * 6000 ≤ r.openAge) ∧
      (∀ id, .claimLapse id ∈ t.pending ↔ ∃ r ∈ t.service.requests, r.id = id ∧
        ∃ n a, r.phase = .claimed n a ∧ s.cfg.claimLimit * 6000 ≤ a) ∧
      (∀ n id, .backupEligible n id ∈ t.pending ↔ ∃ e ∈ s.service.list, e.requester = n ∧ e.id = id ∧
        e.state = .listed ∧ e.listedRaised = false ∧ ¬ (s.cfg.cover.primaryLow ≤ n ∧ n ≤ s.cfg.cover.primaryHigh) ∧
        s.cfg.cover.backupLow ≤ n ∧ n ≤ s.cfg.cover.backupHigh ∧ e.heard + s.cfg.cover.delay * 100 ≤ t.clock) ∧
      (.windowExpiry ∈ t.pending ↔ ∃ w, s.safe.window = some w ∧ w.ends ≤ t.clock) ∧
      (.doorAllowanceEnd ∈ t.pending ↔ ∃ w, s.door.allowanceEnds = some w ∧ w ≤ t.clock) ∧
      (.doorHeld ∈ t.pending ↔ s.door.isOpen = true ∧ s.door.heldRaised = false ∧
        ∃ o, s.door.openSince = some o ∧ o + s.cfg.holdLimit * 100 ≤ t.clock) ∧
      (.lampStep ∈ t.pending ↔ 125 ≤ t.lamps.ms))

/-- No command stops the part, and none but a step takes commands from the queue. R177: while the RESET pin holds the part, or without
supply, the port takes no request, timers do not run and nothing changes but by the supply and the starts; the attention line
is released. -/
def Obligations.CommandsGoOnAndAHeldPartStandsStill : Prop :=
  (∀ (c : Instr) (s : State), ∃ t, exec c s = .next t ∧ t.pending = s.pending) ∧
  (∀ (c : Instr) (s : State), s.unit.power ≠ .running → (∀ p, c ≠ .powerUp p) → (∀ p, c ≠ .coldStart p) →
    (∀ p, c ≠ .warmStart p) → (∀ n, c ≠ .resetPinLow n) → (∀ b, c ≠ .mainSupplyLoss b) →
    exec c s = .next s ∧ s.attentionLine = false)

/-- R20: a cold start builds empty books. -/
def Obligations.ColdStartBuildsEmptyBooks : Prop :=
  ∀ (pins : Pins) (s : State), s.unit.power ≠ .off →
    ∃ t, exec (.coldStart pins) s = .next t ∧
      (∀ d, t.cfg.face d = 0 ∧ t.pieces d = 0) ∧
      t.custody.totals = zeroTotals ∧ t.custody.saturated = false ∧
      t.custody.table = [] ∧ t.custody.inbound = [] ∧ t.custody.releases = [] ∧ t.service.requests = [] ∧
      t.service.list = [] ∧ t.loop.queue = [] ∧ t.count.fifo = [] ∧ t.safe.dispatches = [] ∧
      (∀ n, t.peer n = unknownPeer) ∧
      t.custody.day = { day := 0, totals := zeroTotals, accountable := 0, saturated := false } ∧
      t.handoverCounter = 1 ∧ t.safe.windowNumber = 0 ∧ t.service.nextId = 1 ∧ t.count.state = .idle ∧
      t.safe.window = none ∧ t.loop.faultScore = 0 ∧ t.attn.reasons = 0 ∧ t.anyAlarm = false ∧
      t.door.allowanceEnds = none ∧ t.cfg = defaultSettings ∧ t.cfg.number = none ∧ t.member.state = .unconfigured ∧
      t.unit.marker = true ∧ t.pending = s.pending

/-- R21 to R23: what a warm start retains, what it clears, the alarms, station state and role it ends in, and the adjustment of every
retained container, inbound entry and Own Request. -/
def Obligations.WarmStartKeepsAndAdjusts : Prop :=
  (∀ (pins : Pins) (s : State), s.unit.power ≠ .off →
    ∃ t, exec (.warmStart pins) s = .next t ∧
      t.cfg = s.cfg ∧ t.position.counts = s.position.counts ∧ t.custody.releases = s.custody.releases ∧
      t.custody.totals = s.custody.totals ∧ t.custody.saturated = s.custody.saturated ∧ t.custody.day = s.custody.day ∧
      t.safe.dispatches = s.safe.dispatches ∧ t.handoverCounter = s.handoverCounter ∧
      t.safe.windowNumber = s.safe.windowNumber ∧ t.service.nextId = s.service.nextId ∧
      t.loop.queue = [] ∧ (∀ n, t.peer n = unknownPeer) ∧ t.service.list = [] ∧ t.count.state = .idle ∧
      t.count.fifo = [] ∧ t.safe.window = none ∧ t.door.allowanceEnds = none ∧ t.attn = quietAttention ∧
      t.loop.faultScore = 0 ∧
      (∀ c ∈ t.custody.table, c.overdueAlarm = (c.state == .overdue)) ∧
      t.alarmSet .unresolved = s.alarmSet .unresolved ∧ t.alarmSet .totalsSaturated = s.custody.saturated ∧
      t.member.state = (if s.cfg.complete = true then .stopped else .unconfigured) ∧
      t.unit.role = (if strapRole pins.roleStraps = s.unit.recordedRole then s.unit.recordedRole else none) ∧
      t.unit.rate = pins.rateStraps ∧ t.unit.power = .running ∧ t.pending = s.pending) ∧
  (∀ (pins : Pins) (s : State), s.unit.power ≠ .off →
    ∃ t, exec (.warmStart pins) s = .next t ∧
      List.Forall₂ (fun (c d : Container) =>
        (d.tag = c.tag ∧ d.cls = c.cls ∧ d.origin = c.origin ∧ d.value = c.value ∧ d.disputed = c.disputed ∧
          d.handovers = c.handovers ∧ d.comp = c.comp ∧ d.counted = c.counted ∧ d.nesting = c.nesting ∧ d.sack = c.sack) ∧
        (c.state = .offering → d.state = .held ∧ d.handover = none ∧ d.lastResult = .noAnswer) ∧
        (c.state = .outbound ∨ c.state = .recalling → d.state = .outbound ∧ d.lastResult = c.lastResult ∧
          d.handover = c.handover.map (fun h => { h with deadline := s.clock + s.cfg.transitSteps c.cls })) ∧
        (c.state = .overdue → d.state = .overdue ∧ d.handover = c.handover ∧ d.lastResult = c.lastResult) ∧
        (c.state = .counting → d.state = .held ∧ d.deferred = none ∧ d.lastResult = c.lastResult) ∧
        (c.state = .held ∨ c.state = .nested → d.state = c.state ∧ d.lastResult = c.lastResult))
        s.custody.table t.custody.table ∧
      List.Forall₂ (fun (e f : InboundEntry) =>
        f = { e with state := if e.state = .taking then .unsure else e.state, queryPending := false, queryWaitEnds := none,
                     lapse := s.clock + s.cfg.transitSteps e.cls + 60 * Config.minute })
        s.custody.inbound t.custody.inbound ∧
      List.Forall₂ (fun (q r : OwnRequest) =>
        r = { q with raisedAt := s.clock, openAge := 0, phase := r.phase } ∧
        (q.phase = .opened → r.phase = .opened) ∧
        (∀ n a, q.phase = .claimed n a → r.phase = .claimed n 0) ∧
        (∀ n a g, q.phase = .serving n a g → r.phase = .serving n 0 g))
        s.service.requests t.service.requests)

/-- R19: a power-up of an unpowered part completes as a warm start with the retention marker valid (R21, R23) and as a cold start
without (R20); the loss of the main supply keeps the marker only while the backup holds. R177: a RESET pulse shorter than 10 us is ignored; a longer one holds the part, releases
line, port and attention line and darkens the lamps; retained records are held.
Times stand still without supply: log 3. A POWER_UP of a powered part changes nothing: the model's choice, log 26. -/
def Obligations.SupplyAndResetPin : Prop :=
  (∀ (pins : Pins) (s : State),
    (s.unit.power = .off → s.unit.marker = true →
      exec (.powerUp pins) s = exec (.warmStart pins) { s with unit := { s.unit with power := .running } }) ∧
    (s.unit.power = .off → s.unit.marker = false →
      exec (.powerUp pins) s = exec (.coldStart pins) { s with unit := { s.unit with power := .running } }) ∧
    (s.unit.power = .off → s.unit.marker = true →
      ∃ t, exec (.powerUp pins) s = .next t ∧ t.unit.power = .running ∧ t.unit.marker = true ∧ t.unit.rate = pins.rateStraps ∧
        t.unit.role = (if strapRole pins.roleStraps = s.unit.recordedRole then s.unit.recordedRole else none) ∧
        t.cfg = s.cfg ∧ t.position.counts = s.position.counts ∧ t.custody.totals = s.custody.totals ∧
        t.custody.releases = s.custody.releases ∧ t.custody.day = s.custody.day ∧
        t.custody.table.map (fun c => (c.tag, c.value)) = s.custody.table.map (fun c => (c.tag, c.value)) ∧
        t.custody.inbound.map (·.tag) = s.custody.inbound.map (·.tag) ∧
        t.service.requests.map (·.id) = s.service.requests.map (·.id) ∧ t.loop.queue = [] ∧ t.service.list = [] ∧
        t.count.state = .idle ∧ t.member.state = (if s.cfg.complete = true then .stopped else .unconfigured) ∧
        t.pending = s.pending) ∧
    (s.unit.power = .off → s.unit.marker = false →
      ∃ t, exec (.powerUp pins) s = .next t ∧ t.unit.power = .running ∧ t.unit.marker = true ∧ t.unit.rate = pins.rateStraps ∧
        t.unit.role = strapRole pins.roleStraps ∧ t.unit.recordedRole = strapRole pins.roleStraps ∧
        t.cfg = defaultSettings ∧ t.custody = emptyCustody ∧ (∀ d, t.pieces d = 0) ∧ t.service.requests = [] ∧
        t.loop.queue = [] ∧ t.service.list = [] ∧ t.count.state = .idle ∧ t.member.state = .unconfigured ∧
        t.pending = s.pending) ∧
    (s.unit.power ≠ .off → exec (.powerUp pins) s = .next s) ∧
    (∀ held, ∃ t, exec (.mainSupplyLoss held) s = .next t ∧ t.unit.power = .off ∧
      t.unit.marker = (s.unit.marker && held) ∧ t.port.response = none ∧ t.port.owed = none ∧ t.loop.sending = none ∧
      t.lamps.service = false ∧ t.lamps.alarm = false ∧ t.attentionLine = false ∧
      t = { s with unit := { s.unit with power := .off, marker := t.unit.marker },
                   loop := { s.loop with sending := none, slotDriven := false },
                   lamps := { s.lamps with service := false, alarm := false }, port := t.port })) ∧
  (∀ (us : Nat) (s : State), s.unit.power ≠ .off →
    (us < 10 → exec (.resetPinLow us) s = .next s) ∧
    (10 ≤ us → ∃ t, exec (.resetPinLow us) s = .next t ∧ t.unit.power = .inReset ∧ t.attentionLine = false ∧
      t = { s with unit := { s.unit with power := .inReset },
                   loop := { s.loop with sending := none, slotDriven := false },
                   lamps := { s.lamps with service := false, alarm := false },
                   port := { response := none, owed := none } }))

/-- R19, R165: RESET and an accepted ERASE are answered OK and start the part when select is released; a release with no start
waiting loses the response and leaves the reasons for the next read. -/
def Obligations.StartsWaitForSelectRelease : Prop :=
  ∀ (pins : Pins) (s : State),
    (Ready s →
      exec (.reset (.fields ())) s =
        .next { answered .ok [] s with port := { response := some { status := .ok, body := [] }, owed := some .warm } } ∧
      (s.accountable = 0 ∧ s.custody.table = [] ∧ s.custody.inbound = [] ∧ s.service.requests = [] →
        exec (.erase (.fields ())) s =
          .next { answered .ok [] s with port := { response := some { status := .ok, body := [] }, owed := some .cold } }) ∧
      (¬ (s.accountable = 0 ∧ s.custody.table = [] ∧ s.custody.inbound = [] ∧ s.service.requests = []) →
        exec (.erase (.fields ())) s = .next (refused .badState s))) ∧
    (s.unit.power = .running →
      (s.port.owed = some .warm → exec (.selectRelease pins) s = exec (.warmStart pins) s) ∧
      (s.port.owed = some .cold → exec (.selectRelease pins) s = exec (.coldStart pins) s) ∧
      (s.port.owed = none → exec (.selectRelease pins) s =
        .next { s with port := { s.port with response := none }, attn := { s.attn with returned := 0 } }))

/-- R166: an unknown kind is answered BAD_KIND, a wrong length byte BAD_LENGTH. R45: every SET_ request is refused with BAD_STATE on the
loop and in DUPLICATE. Nothing changes. That BAD_STATE comes there before BAD_LENGTH for a bad slot or class, and before BUSY for
SET_COUNT_LINE with a session open, is the model's order, log 10. -/
def Obligations.MalformedAndMistimedRequestsChangeNothing : Prop :=
  (∀ s : State, Ready s →
    (∀ kind, exec (.unknownKindRequest kind) s = .next (refused .badKind s)) ∧
    (∀ c ∈ ([.start .wrongLength, .stop .wrongLength, .rejoin .wrongLength, .reset .wrongLength, .erase .wrongLength,
        .setStation .wrongLength, .setDenomination .wrongLength, .setLoop .wrongLength, .setTransit .wrongLength,
        .setCountLine .wrongLength true, .setCountLine .wrongLength false, .setCount .wrongLength, .setTolerance .wrongLength, .setFloat .wrongLength,
        .setFloatStation .wrongLength, .setService .wrongLength, .setCover .wrongLength, .setSack .wrongLength,
        .setDoor .wrongLength, .setAttentionMask .wrongLength, .makeUp .wrongLength, .dismantle .wrongLength,
        .acceptVariance .wrongLength, .dayClose .wrongLength, .offer .wrongLength, .take .wrongLength,
        .takeResolve .wrongLength, .recall .wrongLength, .query .wrongLength, .decline .wrongLength,
        .countOpen .wrongLength, .countClose .wrongLength, .countAbort .wrongLength, .raiseNeed .wrongLength,
        .cancelNeed .wrongLength, .claimNext .wrongLength, .claim .wrongLength, .windowOpen .wrongLength,
        .windowClose .wrongLength, .admitStock .wrongLength, .sackOpen .wrongLength, .nest .wrongLength, .unnest .wrongLength,
        .sackClose .wrongLength, .sackReopen .wrongLength, .sackAbandon .wrongLength, .dispatch .wrongLength,
        .alarmClear .wrongLength, .doorAllow .wrongLength, .readAttention .wrongLength, .readStation .wrongLength,
        .readLoop .wrongLength, .readPeers .wrongLength, .readCustody .wrongLength, .readContainer .wrongLength,
        .readInbound .wrongLength, .readReleases .wrongLength, .readTotals .wrongLength, .readDayTotals .wrongLength,
        .readCount .wrongLength, .readPosition .wrongLength, .readRequests .wrongLength, .readService .wrongLength,
        .readWindow .wrongLength, .readSack .wrongLength, .readDispatches .wrongLength] : List Instr),
      exec c s = .next (refused .badLength s))) ∧
  (∀ s : State, Ready s → onTheLine s.member.state = true →
    (∀ n, exec (.setStation (.fields n)) s = .next (refused .badState s)) ∧
    (∀ f, exec (.setDenomination (.fields f)) s = .next (refused .badState s)) ∧
    (∀ f, exec (.setLoop (.fields f)) s = .next (refused .badState s)) ∧
    (∀ f, exec (.setTransit (.fields f)) s = .next (refused .badState s)) ∧
    (∀ f m, exec (.setCountLine (.fields f) m) s = .next (refused .badState s)) ∧
    (∀ n, exec (.setCount (.fields n)) s = .next (refused .badState s)) ∧
    (∀ f, exec (.setTolerance (.fields f)) s = .next (refused .badState s)) ∧
    (∀ f, exec (.setFloat (.fields f)) s = .next (refused .badState s)) ∧
    (∀ f, exec (.setFloatStation (.fields f)) s = .next (refused .badState s)) ∧
    (∀ f, exec (.setService (.fields f)) s = .next (refused .badState s)) ∧
    (∀ f, exec (.setCover (.fields f)) s = .next (refused .badState s)) ∧
    (∀ n, exec (.setSack (.fields n)) s = .next (refused .badState s)) ∧
    (∀ n, exec (.setDoor (.fields n)) s = .next (refused .badState s)))

/-! ### Settings -/

/-- R45, R46, R48, R63, R85, R92, R107, R137, R155, R176: a SET_ request stores its values clamped to their ranges and changes nothing
else but the answer and, once the configuration is complete, the station state. SET_STATION is refused in STOPPED while the
Inbound List or the Own Requests are not empty, SET_COUNT_LINE while a session is open; the peer place of the new own number
is UNKNOWN after SET_STATION (the model's reading of R58, log 13), and a record being assembled when SET_COUNT_LINE is answered
is abandoned as stray; the flag with the request says that there is one of which State has not been told (the model's, log 14).
An on/off byte above 1 is on by the model's reading, log 22. -/
def Obligations.SettingsAreClampedAndStored : Prop :=
  (∀ s : State, Ready s → (s.member.state = .unconfigured ∨ s.member.state = .stopped) →
    (∀ f : LoopFields, exec (.setLoop (.fields f)) s =
      .next (configured { s.cfg with autoRejoin := decide (f.autoRejoin ≠ 0), beaconM := min 15 f.m } s)) ∧
    (∀ n, exec (.setTransit (.fields { cls := 0, minutes := n })) s =
      .next (configured { s.cfg with transit := { s.cfg.transit with floatBag := max 1 (min 240 n) } } s)) ∧
    (∀ n, exec (.setTransit (.fields { cls := 1, minutes := n })) s =
      .next (configured { s.cfg with transit := { s.cfg.transit with pickupPouch := max 1 (min 240 n) } } s)) ∧
    (∀ n, exec (.setTransit (.fields { cls := 2, minutes := n })) s =
      .next (configured { s.cfg with transit := { s.cfg.transit with depositBag := max 1 (min 240 n) } } s)) ∧
    (∀ n, exec (.setTransit (.fields { cls := 3, minutes := n })) s =
      .next (configured { s.cfg with transit := { s.cfg.transit with changeStock := max 1 (min 240 n) } } s)) ∧
    (∀ k n, 4 ≤ k → exec (.setTransit (.fields { cls := k, minutes := n })) s = .next (refused .badLength s)) ∧
    (∀ n, exec (.setCount (.fields n)) s = .next (configured { s.cfg with threshold := min 65535 n } s)) ∧
    (∀ f : ToleranceFields, exec (.setTolerance (.fields f)) s =
      .next (configured { s.cfg with tolAbs := min 65535 f.absolute, tolRel := min 500 f.relative } s)) ∧
    (∀ f : ServiceFields, exec (.setService (.fields f)) s =
      .next (configured { s.cfg with requestLimit := max 1 (min 240 f.requestLimit), escalation := min 240 f.escalation,
                                     claimLimit := max 1 (min 120 f.claimLimit) } s)) ∧
    (∀ f : CoverFields, exec (.setCover (.fields f)) s =
      .next (configured { s.cfg with
        cover := { primaryLow := max 1 (min 56 f.primaryLow), primaryHigh := max 1 (min 56 f.primaryHigh),
                   backupLow := max 1 (min 56 f.backupLow), backupHigh := max 1 (min 56 f.backupHigh),
                   delay := min 600 f.delay } } s)) ∧
    (∀ n, exec (.setSack (.fields n)) s = .next (configured { s.cfg with uncounted := decide (n ≠ 0) } s)) ∧
    (∀ n, exec (.setDoor (.fields n)) s = .next (configured { s.cfg with holdLimit := max 10 (min 600 n) } s))) ∧
  (∀ s : State, Ready s → (s.member.state = .unconfigured ∨ s.member.state = .stopped) →
    (∀ n, (s.member.state = .stopped → s.custody.inbound = [] ∧ s.service.requests = []) →
      ∃ t, exec (.setStation (.fields n)) s = .next t ∧ t.cfg = { s.cfg with number := some (max 1 (min 56 n)) } ∧
        t = { configured t.cfg s with member := t.member } ∧
        t.member = { (configured t.cfg s).member with peers := t.member.peers } ∧
        t.peer (max 1 (min 56 n)) = unknownPeer ∧ (∀ m, m ≠ max 1 (min 56 n) → t.peer m = s.peer m) ∧ t.custody.table = s.custody.table) ∧
    (∀ n, s.member.state = .stopped → ¬ (s.custody.inbound = [] ∧ s.service.requests = []) →
      exec (.setStation (.fields n)) s = .next (refused .badState s)) ∧
    (∀ f m, s.count.state.sessionOpen = true → exec (.setCountLine (.fields f) m) s = .next (refused .busy s)) ∧
    (∀ f m, s.count.state.sessionOpen = false →
      ∃ t, exec (.setCountLine (.fields f) m) s = .next t ∧
        t.cfg = { s.cfg with countLine := { baud := min 3 f.baud, parity := min 2 f.parity, stop := max 1 (min 2 f.stop) } } ∧
        t.count = { s.count with
          assembled := [],
          stray := if s.count.assembled ≠ [] ∨ (m = true ∧ s.count.discarding = false) then min 65535 (s.count.stray + 1)
            else s.count.stray } ∧
        t = { configured t.cfg s with count := t.count }))

/-- R47, R120 to R122: the settings that start an evaluation. The Float State is that of the new settings, no raise is handed
off the loop (R129), TOPUP_CAPPED is raised when the evaluation sets a capped mark that was clear (R127), and the books are
untouched. In STOPPED a face value of 0 is refused for the last slot in use (R47). R123 to R127: the Float State of any settings and
position, with the trim to the cap unit by unit. Bits 3 to 7 of the auto-raise byte are not looked at, and a kind byte above 1 is
answered BAD_LENGTH, by the model's choice and reading, log 22; that a bad slot or kind is answered before the books are looked
at is its order, log 10. -/
def Obligations.LevelSettingsEvaluate : Prop :=
  (∀ s : State, Ready s → (s.member.state = .unconfigured ∨ s.member.state = .stopped) →
    let evaluated (t : State) : Prop :=
      t.position = { s.position with float := floatStateOf s.unit.role t.cfg s.pieces } ∧
      t.attn = if (s.unit.role = some .till ∨ s.unit.role = some .desk) ∧ t.position.float.capped = true ∧
          s.position.float.capped = false
        then { s.attn.with .topupCapped with returned := 0 } else { s.attn with returned := 0 }
    (∀ (d face unit : Nat) (k : SlotKind), d < 12 → (∀ e, s.pieces e = 0) → s.custody.table = [] →
      (s.member.state = .stopped → face ≠ 0 ∨ s.cfg.inUse d = false ∨ ∃ e, e < 12 ∧ e ≠ d ∧ s.cfg.inUse e = true) →
      ∃ t, exec (.setDenomination (.fields { slot := d, face := face, kind := slotKindCode k, unit := unit })) s = .next t ∧
        t.cfg = { s.cfg with
          denoms := s.cfg.denoms.setIfInBounds d
            { face := min 500000 face, kind := k, unit := max 1 (min 1000 unit) } } ∧ evaluated t ∧
        t = { configured t.cfg s with position := t.position, attn := t.attn }) ∧
    (∀ f : FloatFields, f.slot < 12 →
      ∃ t, exec (.setFloat (.fields f)) s = .next t ∧
        t.cfg = { s.cfg with
          floats := s.cfg.floats.setIfInBounds f.slot
            { target := min 65535 f.target, pickup := min 65535 f.pickup, change := min 65535 f.change } } ∧ evaluated t ∧
        t = { configured t.cfg s with position := t.position, attn := t.attn }) ∧
    (∀ f : FloatStationFields,
      ∃ t, exec (.setFloatStation (.fields f)) s = .next t ∧
        t.cfg = { s.cfg with pickupTrigger := min (2 ^ 40 - 1) f.pickupTrigger, topupCap := min (2 ^ 40 - 1) f.topupCap,
                             autoPickup := f.autoRaise.getLsbD 0, autoTopup := f.autoRaise.getLsbD 1,
                             autoChange := f.autoRaise.getLsbD 2 } ∧ evaluated t ∧
        t = { configured t.cfg s with position := t.position, attn := t.attn }) ∧
    (∀ f : FloatFields, 12 ≤ f.slot → exec (.setFloat (.fields f)) s = .next (refused .badLength s)) ∧
    (∀ f : DenominationFields, 12 ≤ f.slot ∨ 2 ≤ f.kind →
      exec (.setDenomination (.fields f)) s = .next (refused .badLength s)) ∧
    (∀ f : DenominationFields, f.slot < 12 → f.kind ≤ 1 → s.member.state = .stopped → f.face = 0 →
      s.cfg.inUse f.slot = true → (∀ e, e < 12 → e ≠ f.slot → s.cfg.inUse e = false) →
      exec (.setDenomination (.fields f)) s = .next (refused .badState s)) ∧
    (∀ f : DenominationFields, f.slot < 12 → f.kind ≤ 1 → (¬ (∀ e, s.pieces e = 0) ∨ s.custody.table ≠ []) →
      exec (.setDenomination (.fields f)) s = .next (refused .badState s))) ∧
  (∀ (role : Option Role) (cfg : Settings) (p : Nat → Nat),
    let f := floatStateOf role cfg p
    let unit (d : Nat) : Nat := (cfg.denom d).unit
    let note (d : Nat) : Prop := cfg.face d ≠ 0 ∧ (cfg.denom d).kind = .note
    let watched (d : Nat) : Prop := cfg.face d ≠ 0 ∧ (cfg.floatSlot d).change ≠ 0
    let k (d : Nat) : Nat := if note d then (p d - (cfg.floatSlot d).target) / unit d * unit d else 0
    let q (d : Nat) : Nat := if watched d then
      min (((cfg.floatSlot d).target - p d + (unit d - 1)) / unit d * unit d) ((65535 - p d) / unit d * unit d) else 0
    f.pickup = (List.range 12).filterMap (fun d => if k d = 0 then none else some (d, k d)) ∧
    f.pickupValue = ((List.range 12).map (fun d => k d * cfg.face d)).sum ∧
    f.uncapped = (List.range 12).filterMap (fun d => if q d = 0 then none else some (d, q d)) ∧
    f.uncappedValue = ((List.range 12).map (fun d => q d * cfg.face d)).sum ∧
    f.topup = capComposition cfg f.uncapped ∧ f.topupValue = cfg.valueOf f.topup ∧
    f.low = (List.range 12).filter (fun d => decide (watched d ∧ p d ≤ (cfg.floatSlot d).change)) ∧
    (f.urgent = true ↔ ∃ d, d < 12 ∧ watched d ∧ p d = 0) ∧
    (f.pickupNeed = true ↔ role = some .till ∧ f.pickupValue ≠ 0 ∧
      ((cfg.pickupTrigger ≠ 0 ∧ cfg.pickupTrigger ≤ f.pickupValue) ∨
        ∃ d, d < 12 ∧ note d ∧ (cfg.floatSlot d).pickup ≠ 0 ∧ (cfg.floatSlot d).pickup ≤ p d)) ∧
    (f.topupNeed = true ↔ role = some .till ∧ f.low ≠ [] ∧ f.topupValue ≠ 0) ∧
    (f.changeNeed = true ↔ role = some .desk ∧ f.low ≠ [] ∧ f.topupValue ≠ 0) ∧
    (f.capped = true ↔ f.low ≠ [] ∧ f.uncappedValue ≠ 0 ∧ f.topupValue = 0)) ∧
  (∀ (cfg : Settings) (before after : Composition) (d n : Nat),
    let c := before ++ [(d, n)] ++ after
    let u := (cfg.denom d).unit
    (cfg.topupCap = 0 ∨ cfg.valueOf c ≤ cfg.topupCap → capComposition cfg c = c) ∧
    (cfg.topupCap ≠ 0 → cfg.topupCap < cfg.valueOf c → (c.map Prod.fst).Nodup →
      (∀ x ∈ c, 1 ≤ (cfg.denom x.1).unit ∧ (cfg.denom x.1).unit ∣ x.2 ∧ 1 ≤ x.2) →
      (∀ x ∈ c, cfg.face x.1 < cfg.face d ∨ (cfg.face x.1 = cfg.face d ∧ d ≤ x.1)) →
      capComposition cfg c =
        capComposition cfg (before ++ (if n = u then [] else [(d, n - u)]) ++ after)))

/-! ### Attention -/

/-- R168, R169: mask, read and the clearing when the last byte of a READ_ATTENTION has been clocked out; a reason raised in
between stays.
The set of returned reasons and the bits of the mask that are kept are the model's, logs 7 and 22. -/
def Obligations.AttentionMaskReadAndClear : Prop :=
  ∀ s : State,
    (Ready s → ∀ m, exec (.setAttentionMask (.fields m)) s =
      .next { answered .ok [] s with attn := { s.attn with mask := m &&& ordinaryReasons, returned := 0 } }) ∧
    (Ready s → exec (.readAttention (.fields ())) s =
      .next { answered .ok (attentionBody s) s with attn := { s.attn with returned := s.attn.reasons } }) ∧
    (s.unit.power = .running → exec .attentionReadCleared s =
      .next { s with attn := { s.attn with reasons := s.attn.reasons &&& ~~~s.attn.returned, returned := 0 } }) ∧
    (∀ r, Raised r (raise r s) ∧ Raised r (attentionCleared (raise r s))) ∧
    (s.attentionLine = true ↔
      s.unit.power = .running ∧ (s.attn.reasons &&& ~~~s.attn.mask ≠ 0 ∨ ∃ k, s.alarmSet k = true))

/-! ### Joining, leaving, peers -/

/-- R49: START begins the listening period with an empty Peer Table and evaluates the levels; without a valid role, and in
every state but STOPPED, it is refused. R129, R132: the evaluation hands a raise for each need that holds with auto-raise on and no
request of its kind, PICKUP first, and each raise is an OPEN request with its NEED in the queue. -/
def Obligations.StartBeginsListening : Prop :=
  ∀ s : State, Ready s →
    (s.member.state = .stopped → s.unit.role.isSome = true →
      ∃ t, exec (.start (.fields ())) s = .next t ∧ Answers t .ok [] ∧
        t.member = { s.member with
          state := .listening, mInForce := s.cfg.beaconM, listeningEnds := some (s.clock + 850), announceWaitEnds := none,
          beaconDue := none, withdrawnAt := none, duplicate := none, peers := unknownPeers } ∧
        t.position = { s.position with float := floatStateOf s.unit.role s.cfg s.pieces } ∧
        (let f := floatStateOf s.unit.role s.cfg s.pieces
         let calls (k : NeedKind) (on holds : Bool) : Prop := on = true ∧ holds = true ∧ ∀ r ∈ s.service.requests, r.kind ≠ k
         let pickup := calls .pickup s.cfg.autoPickup f.pickupNeed
         let topup := calls .topup s.cfg.autoTopup f.topupNeed
         let change := calls .change s.cfg.autoChange f.changeNeed
         let urgency : Urgency := if f.urgent = true then .urgent else .normal
         let request (r : OwnRequest) (k : NeedKind) (u : Urgency) (c : Composition) (v : Nat) : Prop :=
           r = { id := r.id, kind := k, comp := c, value := v, urgency := u, phase := .opened, reopened := false,
                 raisedAt := s.clock, openAge := 0 } ∧
           (∀ q ∈ s.service.requests, q.id ≠ r.id) ∧ ∃ g ∈ t.loop.queue, isWaitingNeed r.id g = true
         (¬ pickup → ¬ topup → ¬ change → t.service = s.service ∧ t.loop = s.loop) ∧
         (pickup → ¬ topup → s.service.requests.length < 4 → s.loop.queue.length < 12 →
           ∃ r, t.service.requests = s.service.requests ++ [r] ∧ request r .pickup .normal f.pickup f.pickupValue ∧
             Raised .needRaised t) ∧
         (¬ pickup → topup → s.service.requests.length < 4 → s.loop.queue.length < 12 →
           ∃ r, t.service.requests = s.service.requests ++ [r] ∧ request r .topup urgency f.topup f.topupValue ∧
             Raised .needRaised t) ∧
         (change → s.service.requests.length < 4 → s.loop.queue.length < 12 →
           ∃ r, t.service.requests = s.service.requests ++ [r] ∧ request r .change urgency f.topup f.topupValue ∧
             Raised .needRaised t) ∧
         (pickup → topup → s.service.requests.length < 3 → s.loop.queue.length < 11 →
           ∃ r q, t.service.requests = s.service.requests ++ [r, q] ∧
             request r .pickup .normal f.pickup f.pickupValue ∧ request q .topup urgency f.topup f.topupValue ∧
             Raised .needRaised t)) ∧
        t = { answered .ok [] s with
          member := t.member, position := t.position, service := t.service, loop := t.loop, attn := t.attn }) ∧
    (s.member.state = .stopped → s.unit.role = none → exec (.start (.fields ())) s = .next (refused .roleInvalid s)) ∧
    (s.member.state ≠ .stopped → exec (.start (.fields ())) s = .next (refused .badState s))

/-- R55: STOP leaves the loop with queue and Service List empty, the acknowledge slot no longer driven, the containers and
requests as they were, or is refused while work is in flight. -/
def Obligations.StopLeavesTheLoop : Prop :=
  ∀ s : State, Ready s → s.member.state ≠ .unconfigured → s.member.state ≠ .stopped →
    let idle := (∀ c ∈ s.custody.table, inHandover c.state = false) ∧
      (∀ e ∈ s.custody.inbound, e.state ≠ .taking ∧ e.state ≠ .unsure) ∧
      (∀ r ∈ s.service.requests, r.phase = .opened) ∧ s.count.state.sessionOpen = false ∧ s.safe.window = none
    (idle →
      ∃ t, exec (.stop (.fields ())) s = .next t ∧ Answers t .ok [] ∧ t.member = stationAt .stopped s.member ∧
        t.loop = { s.loop with queue := [], beaconReady := false, announceReady := false, conflictReady := none,
                               sending := none, slotDriven := false } ∧
        t.service = { s.service with list := [] } ∧
        List.Forall₂ (fun e f => f = e ∨ f = { e with queryPending := false, queryWaitEnds := none })
          s.custody.inbound t.custody.inbound ∧
        (∀ k, t.alarmSet k = s.alarmSet k) ∧
        t = { answered .ok [] s with
          member := t.member, loop := t.loop, service := t.service, attn := t.attn,
          custody := { s.custody with inbound := t.custody.inbound } }) ∧
    (¬ idle → exec (.stop (.fields ())) s = .next (refused .badState s))

/-- R43: REJOIN, or auto-rejoin 5 s after the withdrawal, announces afresh with fault score 0 and keeps queue and books. R50, R52,
R56: the timers of a join and the beacon timer.
That a timer command before its time changes nothing is the model's choice, log 1. -/
def Obligations.JoiningTimersAndRejoin : Prop :=
  (∀ s : State,
    let back := { s with
      member := stationAt .announcing s.member,
      loop := { s.loop with beaconReady := false, announceReady := true, conflictReady := none, sending := none,
                            faultScore := 0 } }
    (Ready s → s.member.state = .withdrawn → exec (.rejoin (.fields ())) s = .next (answered .ok [] back)) ∧
    (Ready s → s.member.state ≠ .withdrawn → exec (.rejoin (.fields ())) s = .next (refused .badState s)) ∧
    (s.unit.power = .running → s.member.state = .withdrawn → s.cfg.autoRejoin = true →
      ∀ w, s.member.withdrawnAt = some w →
        (w + 500 ≤ s.clock → exec .autoRejoin s = .next back) ∧ (s.clock < w + 500 → exec .autoRejoin s = .next s)) ∧
    (s.unit.power = .running → s.member.state = .withdrawn → s.cfg.autoRejoin = false → exec .autoRejoin s = .next s)) ∧
  (∀ s : State, s.unit.power = .running →
    (∀ w, s.member.state = .listening → s.member.listeningEnds = some w →
      (s.clock < w → exec .listeningPeriodEnd s = .next s) ∧
      (w ≤ s.clock → exec .listeningPeriodEnd s = .next { s with
        member := stationAt .announcing s.member,
        loop := { s.loop with beaconReady := false, announceReady := true, conflictReady := none, sending := none } })) ∧
    (∀ w, s.member.state = .announcing → s.member.announceWaitEnds = some w →
      (s.clock < w → exec .announceWaitEnd s = .next s) ∧
      (w ≤ s.clock → ∃ t, exec .announceWaitEnd s = .next t ∧
        t.member = { stationAt .onLoop s.member with beaconDue := some (s.clock + 25 * (1 + s.member.mInForce)) } ∧
        t = { s with
          member := t.member, attn := t.attn,
          loop := { s.loop with queue := t.loop.queue, beaconReady := true, announceReady := false, conflictReady := none,
                                sending := none } })) ∧
    (∀ w, s.member.state = .onLoop → s.member.beaconDue = some w →
      (s.clock < w → exec .beaconTimer s = .next s) ∧
      (w ≤ s.clock → exec .beaconTimer s = .next { s with
        member := { s.member with beaconDue := some (w + 25 * (1 + s.member.mInForce)) },
        loop := { s.loop with beaconReady := true } })))

/-- R134, R171: on reaching ON_LOOP, while the queue has room, a NEED waits for every OPEN request and an ALARM RAISED for every
alarm set; nothing that was queued is lost. -/
def Obligations.OnLoopSendsNeedsAndAlarms : Prop :=
  ∀ (s t : State) (w : Nat), s.unit.power = .running → s.member.state = .announcing → s.member.announceWaitEnds = some w →
    w ≤ s.clock → exec .announceWaitEnd s = .next t →
    s.loop.queue.length + s.openCount + (alarmInstances s).length ≤ 12 →
    (∀ r ∈ s.service.requests, r.phase = .opened → ∃ f ∈ t.loop.queue, isWaitingNeed r.id f = true) ∧
    (∀ a ∈ alarmInstances s, ∃ f ∈ t.loop.queue, f.target = 0 ∧ f.port = false ∧
      f.payload = .alarm { kind := a.1, action := .raised, active := s.activeAlarm, tag := a.2 }) ∧
    (∀ f ∈ s.loop.queue, (∀ p, f.payload ≠ .need p) → f ∈ t.loop.queue) ∧ t.attn = s.attn

/-- R60, R139, R147: a peer grows QUIET after two of its periods and GONE after eight; its departure raises PEER_CHANGE, clears
its alarm kind, lapses its claims and removes its entries from the Service List. A lapsed claim (CLAIMED, or SERVING a PICKUP
whose container is HELD) leaves the request OPEN and reopened with open age 0, raises CLAIM_LAPSED and sends a NEED.
That a timer command before its time changes nothing is the model's choice, log 1. -/
def Obligations.PeersGrowQuietAndGo : Prop :=
  ∀ (n : Nat) (s : State), 1 ≤ n → n ≤ 56 → s.unit.power = .running → onTheLine s.member.state = true →
    let period := 25 * (1 + ((s.peer n).m.getD 3))
    let lapses (r : OwnRequest) : Bool :=
      match r.phase with
      | .opened => false
      | .claimed c _ => c == n
      | .serving c _ g => c == n && r.kind == .pickup && (s.container? g).any (fun k => k.state == .held)
    ((s.peer n).state = .live → 2 * period ≤ (s.peer n).silence → exec (.peerQuiet n) s = .next { s with
      member := { s.member with peers := s.member.peers.setIfInBounds (n - 1) { s.peer n with state := .quiet } } }) ∧
    ((s.peer n).state ≠ .live ∨ (s.peer n).silence < 2 * period → exec (.peerQuiet n) s = .next s) ∧
    ((s.peer n).state = .live ∨ (s.peer n).state = .quiet → 8 * period ≤ (s.peer n).silence →
      ∃ t, exec (.peerGone n) s = .next t ∧ t.peer n = { s.peer n with state := .gone, alarm := none } ∧
        (∀ m, m ≠ n → t.peer m = s.peer m) ∧ Raised .peerChange t ∧
        t.service.list = s.service.list.filter (fun e => e.requester != n) ∧
        ((∃ e ∈ s.service.list, e.requester = n ∧ e.state = .won) → Raised .claimLapsed t) ∧
        (∀ r ∈ t.service.requests, ∀ a, r.phase ≠ .claimed n a) ∧
        ((s.service.requests.map (·.id)).Nodup → t.service.requests = s.service.requests.map (fun r =>
          if lapses r = true then { r with phase := .opened, openAge := 0, reopened := true } else r)) ∧
        (∀ r ∈ s.service.requests, lapses r = true → Raised .claimLapsed t ∧
          (joiningOrJoined s.member.state = true → s.loop.queue.length + (s.service.requests.filter lapses).length ≤ 12 →
            ∃ f ∈ t.loop.queue, f.onLine = false ∧ ∃ p, f.payload = .need p ∧ p.id = r.id ∧ p.reopened = true)) ∧
        t = { s with
          member := { s.member with peers := t.member.peers }, service := t.service, attn := t.attn,
          loop := { s.loop with queue := t.loop.queue } }) ∧
    ((s.peer n).state = .unknown ∨ (s.peer n).state = .gone ∨ (s.peer n).silence < 8 * period →
      exec (.peerGone n) s = .next s)

/-- R50, R52 to R54: what a frame under the station's own number does, state by state. But for ON_LOOP (R53) the kinds of R33's
table reach their blocks when the target is this station's; no Peer Table entry changes (R59) and no slot is driven but for the
CONFLICT of R52. An ALARM RAISED is told by PEER_ALARM, which is the model's reading, log 18; in WITHDRAWN a NEED, a WITHDRAW and
an AWARD act on the Service List (R144, R146). -/
def Obligations.OwnNumberIsHeard : Prop :=
  ∀ (f : Frame) (s : State), s.unit.power = .running → Frame.wellFormed f = true → f.sender = s.own →
    let duplicated (t : State) (cause : DuplicateCause) (serial : Option (BitVec 32)) : Prop :=
      t.member = { stationAt .duplicate s.member with
        duplicate := some { cause := cause, time := s.clock, serial := serial } } ∧
      t.loop.queue = [] ∧ t.loop.beaconReady = false ∧ t.loop.announceReady = false ∧ t.loop.conflictReady = none ∧
      t.loop.sending = none ∧ t.alarmSet .duplicateStation = true ∧
      (∀ p, f.payload = .alarm p → p.action = .raised → s.targeted f.target = true → Raised .peerAlarm t)
    (s.member.state = .listening →
      ∃ t, exec (.intactFrameHeard f) s = .next t ∧ duplicated t .heardWhileListening none ∧ t.loop.slotDriven = false) ∧
    (∀ p, s.member.state = .announcing → f.payload = .announce p →
      ∃ t, exec (.announceReceived f.sender f.target p) s = .next t ∧
        duplicated t .heardWhileAnnouncing (some p.serial) ∧ t.loop.slotDriven = false) ∧
    (∀ p, s.member.state = .announcing → f.payload = .conflict p → f.target = s.own →
      ∃ t, exec (.conflictReceived f.sender f.target p) s = .next t ∧
        duplicated t .conflictReceived (some p.serial) ∧ t.loop.slotDriven = true) ∧
    (s.member.state = .announcing → (∀ p, f.payload ≠ .announce p) → (∀ p, f.payload ≠ .conflict p) →
      ∃ t, exec (.intactFrameHeard f) s = .next t ∧ duplicated t .heardWhileAnnouncing none ∧ t.loop.slotDriven = false) ∧
    (∀ p, s.member.state = .onLoop → f.payload = .announce p → p.serial ≠ s.unit.serial →
      exec (.announceReceived f.sender f.target p) s =
        .next { s with loop := { s.loop.yielded with conflictReady := some p.serial, slotDriven := true } }) ∧
    (s.member.state = .onLoop → (∀ p, f.payload = .announce p → p.serial = s.unit.serial) →
      ∃ t, exec (.intactFrameHeard f) s = .next t ∧ t.alarmSet .duplicateStation = true ∧ t.loop.slotDriven = false ∧
        t = { s with loop := { s.loop.yielded with queue := t.loop.queue }, attn := t.attn }) ∧
    (let reached := s.targeted f.target = true
     let listKind := (∃ p, f.payload = .need p) ∨ (∃ p, f.payload = .withdraw p) ∨ ∃ p, f.payload = .award p
     let quiet : State := { s with loop := s.loop.yielded }
     (s.member.state = .duplicate ∨ s.member.state = .withdrawn →
       (¬ reached ∨ ((∀ p, f.payload ≠ .alarm p) ∧ (s.member.state = .duplicate ∨ ¬ listKind)) →
         exec (.intactFrameHeard f) s = .next quiet) ∧
       (∀ p, reached → f.payload = .alarm p → exec (.intactFrameHeard f) s =
         .next { quiet with attn := if p.action = .raised then s.attn.with .peerAlarm else s.attn })) ∧
     (s.member.state = .withdrawn → reached →
       let relisted (l : List ServiceEntry) (a : Attention) : State :=
         { quiet with service := { s.service with list := l }, attn := a }
       let known (id : Nat) (e : ServiceEntry) : Prop := s.service? s.own id = some e
       let without (id : Nat) : List ServiceEntry := s.service.list.filter (fun e => !(e.requester == s.own && e.id == id))
       let changed (id : Nat) (g : ServiceEntry → ServiceEntry) : List ServiceEntry :=
         s.service.list.map (fun e => if e.requester = s.own ∧ e.id = id then g e else e)
       (∀ p, f.payload = .need p →
         (servesNeed s.unit.role p.kind = false → exec (.intactFrameHeard f) s = .next quiet) ∧
         (servesNeed s.unit.role p.kind = true → s.service? s.own p.id = none → s.service.list.length < 16 →
           let e : ServiceEntry := { requester := s.own, id := p.id, kind := p.kind, urgency := p.urgency, value := p.value,
                                     comp := p.comp, reopened := p.reopened, heard := s.clock, state := .listed,
                                     listedRaised := false }
           exec (.intactFrameHeard f) s = .next (relisted (s.service.list ++ [{ e with listedRaised := s.eligible e }])
             (if s.eligible e = true then s.attn.with .serviceListed else s.attn))) ∧
         (∀ e, servesNeed s.unit.role p.kind = true → known p.id e → e.state ≠ .won →
           exec (.intactFrameHeard f) s = .next (relisted (changed p.id (fun e => { e with
             kind := p.kind, urgency := p.urgency, value := p.value, comp := p.comp, reopened := p.reopened })) s.attn))) ∧
       (∀ p, f.payload = .withdraw p →
         (s.service? s.own p.id = none → exec (.intactFrameHeard f) s = .next quiet) ∧
         (∀ e, known p.id e → exec (.intactFrameHeard f) s = .next (relisted (without p.id)
           (if e.state = .won ∧ (p.reason = .cancelled ∨ p.reason = .expired) then s.attn.with .claimLapsed else s.attn)))) ∧
       (∀ p e, f.payload = .award p → known p.id e →
         (p.claimant ≠ s.own → e.state ≠ .claiming → exec (.intactFrameHeard f) s = .next (relisted (without p.id)
           (if e.state = .won then s.attn.with .claimLapsed else s.attn))) ∧
         (p.claimant = s.own → e.state ≠ .won →
           exec (.intactFrameHeard f) s = .next (relisted (changed p.id (fun e => { e with
             kind := p.kind, urgency := p.urgency, value := p.value, comp := p.comp, state := .won,
             listedRaised := false })) (s.attn.with .claimWon))) ∧
         ((if p.claimant = s.own then e.state = .won else e.state = .claiming) →
           exec (.intactFrameHeard f) s = .next quiet)))) ∧
    (s.member.state = .unconfigured ∨ s.member.state = .stopped → exec (.intactFrameHeard f) s = .next s)

/-- R59: the Peer Table entry of the sender after a BEACON, an ANNOUNCE, an ALARM (R173) and a frame that this station does not
deliver, because its target is another or because its kind is not delivered in the station state (R33), and the arrival that
raises PEER_CHANGE. R32, R33: a discarded frame changes nothing beyond the line; a station off the line hears nothing;
INTACT_FRAME_HEARD is the frame whatever its kind. The model's readings are that a CONFLICT of another number only tracks
(log 23), and that a frame which no row of the catalogue and no form of R178 allows is malformed (log 18). -/
def Obligations.HeardFramesKeepThePeerTable : Prop :=
  (∀ (n : Nat) (s : State), s.unit.power = .running → onTheLine s.member.state = true → 1 ≤ n → n ≤ 56 → n ≠ s.own →
    let tracked (t : State) : Prop := (∀ m, m ≠ n → t.peer m = s.peer m) ∧ t.custody = s.custody ∧
      t.member = { s.member with peers := t.member.peers } ∧
      ((s.peer n).state = .unknown ∨ (s.peer n).state = .gone → Raised .peerChange t)
    (∀ p : BeaconPayload, p.stationCode = 4 →
      ∃ t, exec (.beaconReceived n 0 p) s = .next t ∧ tracked t ∧
        t.peer n = { state := .live, role := some p.role, m := some p.m,
                     summary := some { flags := p.flags, custodyCount := p.custodyCount, outbound := p.outbound,
                                       openRequests := p.openRequests },
                     serial := (s.peer n).serial, alarm := if p.flags.alarmActive = true then (s.peer n).alarm else none,
                     silence := 0 } ∧
        t.loop.slotDriven = (s.member.state == .onLoop)) ∧
    (∀ p : AnnouncePayload,
      ∃ t, exec (.announceReceived n 0 p) s = .next t ∧ tracked t ∧ Raised .peerChange t ∧
        t.peer n = { state := .live, role := some p.role, m := some p.m, summary := none, serial := some p.serial,
                     alarm := (s.peer n).alarm, silence := 0 } ∧
        t.loop.slotDriven = (s.member.state == .onLoop || s.member.state == .announcing)) ∧
    (∀ f : Frame, f.sender = n → Frame.wellFormed f = true → s.targeted f.target = false →
      ∃ t, exec (.intactFrameHeard f) s = .next t ∧ tracked t ∧
        t.peer n = { s.peer n with state := .live, silence := 0 } ∧ t.loop.slotDriven = false) ∧
    (∀ f : Frame, f.sender = n → Frame.wellFormed f = true → s.targeted f.target = true →
      (let plain := (∀ p, f.payload ≠ .announce p) ∧ (∀ p, f.payload ≠ .beacon p) ∧ (∀ p, f.payload ≠ .alarm p)
       let conflict := ∃ p, f.payload = .conflict p
       let claim := ∃ p, f.payload = .claim p
       ((s.member.state = .listening ∨ s.member.state = .duplicate) ∧ plain) ∨
         (s.member.state = .announcing ∧ plain ∧ ¬ conflict) ∨
         (s.member.state = .withdrawn ∧ (frameClass f.payload = 1 ∨ frameClass f.payload = 2 ∨ claim ∨ conflict))) →
      ∃ t, exec (.intactFrameHeard f) s = .next t ∧ tracked t ∧ t.service = s.service ∧ t.loop = s.loop.yielded ∧
        t.peer n = { s.peer n with state := .live, silence := 0 }) ∧
    (∀ p : AlarmPayload,
      ∃ t, exec (.alarmReceived n 0 p) s = .next t ∧ tracked t ∧ (p.action = .raised → Raised .peerAlarm t) ∧
        t.peer n = { s.peer n with state := .live, silence := 0, alarm := p.active } ∧
        t.loop.slotDriven = (s.member.state == .onLoop)) ∧
    (∀ p : ConflictPayload, 1 ≤ s.own → s.own ≤ 56 → (s.peer n).state = .live →
      exec (.conflictReceived n s.own p) s = .next (s.heard n false))) ∧
  (∀ (f : Frame) (s : State), s.unit.power = .running →
    (∀ r, onTheLine s.member.state = true → exec (.frameDiscarded r) s = .next { s with loop := s.loop.yielded }) ∧
    (onTheLine s.member.state = true → Frame.wellFormed f = false →
      exec (receivedCommand f) s = .next { s with loop := s.loop.yielded }) ∧
    (∀ r, onTheLine s.member.state = false →
      exec (.frameDiscarded r) s = .next s ∧ exec (receivedCommand f) s = .next s) ∧
    exec (.intactFrameHeard f) s = exec (receivedCommand f) s)

/-! ### Sending on the loop -/

/-- R33, R39, R57, R65, R68: the one frame with which a station contends, by station state, with the contents it takes when it
goes on the line. -/
def Obligations.StationContendsWithOneFrame : Prop :=
  ∀ s : State, s.unit.power = .running →
    (∀ f rest, s.member.state = .onLoop → s.loop.queue = f :: rest →
      ∃ p, exec .frameSendStart s = .next { s with loop := { s.loop with
          queue := { f with payload := p, onLine := true } :: rest.map (fun g => { g with onLine := false }),
          sending := some { sender := s.own, target := f.target, payload := p } } } ∧
        (∀ o c h, f.payload = .offer o → s.container? o.tag = some c → c.handover = some h →
          p = .offer { o with remaining := (h.deadline - s.clock + 5999) / 6000 }) ∧
        (∀ o e, f.payload = .taken o → s.inbound? o.tag = some e →
          p = .taken { o with number := e.number, value := e.value }) ∧
        ((∀ o, f.payload ≠ .offer o) → (∀ o, f.payload ≠ .taken o) → p = f.payload)) ∧
    (∀ answered, s.member.state = .onLoop → s.loop.queue = [] → s.loop.conflictReady = some answered →
      exec .frameSendStart s = .next { s with loop := { s.loop with
        sending := some { sender := s.own, target := s.own,
                          payload := .conflict { serial := s.unit.serial, answered := answered } } } }) ∧
    (∀ role, s.member.state = .onLoop → s.loop.queue = [] → s.loop.conflictReady = none → s.loop.beaconReady = true →
      s.unit.role = some role →
      exec .frameSendStart s = .next { s with loop := { s.loop with
        sending := some { sender := s.own, target := 0, payload := .beacon {
          role := role, stationCode := 4, m := s.member.mInForce, custodyCount := s.custody.table.length,
          outbound := (s.custody.table.filter (fun c => inHandover c.state)).length,
          openRequests := (s.service.requests.filter (fun r => r.phase = .opened)).length,
          flags := { pickupNeed := decide (role = .till) && s.position.float.pickupNeed,
                     topupNeed := decide (role = .till) && s.position.float.topupNeed,
                     changeNeed := decide (role = .desk) && s.position.float.changeNeed,
                     windowOpen := decide (role = .safe) && s.safe.window.isSome,
                     alarmActive := s.anyAlarm, countBusy := s.count.state.sessionOpen } } } } }) ∧
    (∀ role, s.member.state = .announcing → s.loop.announceReady = true → s.unit.role = some role →
      exec .frameSendStart s = .next { s with loop := { s.loop with
        sending := some { sender := s.own, target := 0,
                          payload := .announce { serial := s.unit.serial, role := role, m := s.member.mInForce } } } }) ∧
    (s.member.state ≠ .onLoop → s.member.state ≠ .announcing → exec .frameSendStart s = .next s)

/-- R36, R39, R41, R51: a frame that ends cleanly leaves queue or readiness, lowers the fault score, and a completed ANNOUNCE starts the
announce wait of 1 s. R31, R41, R42, R51: a read-back fault ends the frame and raises the score by 4 up to 31; at 24 the
station withdraws and drives no acknowledge slot (R33), below it a lost ANNOUNCE is made ready afresh; an OFFER, TAKEN, QUERY or CLAIM that is lost is reported as not
acknowledged (R36); an ANNOUNCE that loses in its serial makes the station DUPLICATE, which drives no
acknowledge slot (R54).
The report of a kind and FRAME_SENT end the frame alike: log 17. -/
def Obligations.FramesEndCleanlyOrFail : Prop :=
  (∀ (f : Frame) (s : State), s.unit.power = .running → s.loop.sending = some f →
    (∀ a p, f.payload = .beacon p → (∀ q ∈ s.loop.queue, q.onLine = false) →
      exec (.frameSent a) s = .next { s with loop := { s.loop.ended with beaconReady := false } }) ∧
    (∀ a p, f.payload = .conflict p → (∀ q ∈ s.loop.queue, q.onLine = false) →
      exec (.frameSent a) s = .next { s with loop := { s.loop.ended with conflictReady := none } }) ∧
    (∀ p, f.payload = .announce p → (∀ q ∈ s.loop.queue, q.onLine = false) →
      exec .announceCompleted s = .next { s with
        loop := { s.loop.ended with announceReady := false },
        member := { s.member with announceWaitEnds := some (s.clock + 100) } }) ∧
    (∀ a q, s.loop.queue.find? (·.onLine) = some q → q.payload = f.payload →
      (frameClass f.payload = 0 ∨ frameClass f.payload = 4 ∨ (∃ p, f.payload = .recallOk p) ∨ (∃ p, f.payload = .refuse p) ∨
        (∃ p, f.payload = .answer p) ∨ (∃ p, f.payload = .recall p) ∨ (∃ p, f.payload = .award p)) →
      exec (.frameSent a) s = .next { s with loop := s.loop.ended })) ∧
  (∀ (f : Frame) (s : State), s.unit.power = .running → s.loop.sending = some f →
    (∀ p, f.payload = .beacon p → (∀ q ∈ s.loop.queue, q.onLine = false) → s.loop.faultScore < 20 →
      exec .readBackFault s = .next { s with
        loop := { s.loop.ended with beaconReady := false, faultScore := s.loop.faultScore + 4 } }) ∧
    (∀ p, f.payload = .announce p → (∀ q ∈ s.loop.queue, q.onLine = false) → s.loop.faultScore < 20 →
      exec .readBackFault s = .next { s with
        loop := { s.loop.ended with announceReady := true, faultScore := s.loop.faultScore + 4 } }) ∧
    (∀ (report : Instr) (u : State),
      ((∃ p, f.payload = .offer p) ∧ report = .offerReport false) ∨ ((∃ p, f.payload = .taken p) ∧ report = .takenReport false) ∨
        ((∃ p, f.payload = .query p) ∧ report = .queryReport false) ∨
        ((∃ p, f.payload = .claim p) ∧ report = .claimReport false) →
      exec report s = .next u →
      (s.loop.faultScore < 20 → exec .readBackFault s = .next { u with
        loop := { u.loop with faultScore := s.loop.faultScore + 4 } }) ∧
      (20 ≤ s.loop.faultScore → ∃ t, exec .readBackFault s = .next t ∧ Raised .loopWithdrawn t ∧
        t.member = { stationAt .withdrawn u.member with withdrawnAt := some s.clock } ∧
        t.loop = { u.loop with beaconReady := false, announceReady := false, conflictReady := none, slotDriven := false,
                               faultScore := min 31 (s.loop.faultScore + 4) } ∧
        t.custody = u.custody ∧ t.service = u.service)) ∧
    ((∃ p, f.payload = .beacon p) ∨ (∃ p, f.payload = .need p) ∨ (∃ p, f.payload = .announce p) → (∀ q ∈ s.loop.queue, q.onLine = true → q.payload = f.payload) →
      20 ≤ s.loop.faultScore → ∃ t, exec .readBackFault s = .next t ∧ Raised .loopWithdrawn t ∧
        t = { s with
          member := { stationAt .withdrawn s.member with withdrawnAt := some s.clock },
          loop := { s.loop.ended with beaconReady := false, announceReady := false, conflictReady := none, slotDriven := false,
                                      faultScore := min 31 (s.loop.faultScore + 4) },
          attn := s.attn.with .loopWithdrawn }) ∧
    (∀ p winner, f.payload = .announce p →
      ∃ t, exec (.announceLostSerial winner) s = .next t ∧ t.alarmSet .duplicateStation = true ∧ t.loop.queue = [] ∧
        t.loop.sending = none ∧ t.loop.announceReady = false ∧ t.loop.slotDriven = false ∧
        t.loop.faultScore = s.loop.faultScore ∧
        t.member = { stationAt .duplicate s.member with
          duplicate := some { cause := .lostSerial, time := s.clock, serial := some winner } }) ∧
    (∀ winner, (∀ p, f.payload ≠ .announce p) → exec (.announceLostSerial winner) s = .next s))

/-! ### Handover, the giver -/

/-- R64: the checks of OFFER in their order, each with its refusal, changing nothing. R4, R62, R65: what an accepted OFFER writes in a
table that has each tag once (R7); R83: what a deferred one stores. That the station state is checked before the receiver
number is the model's order, log 10. That an OFFER relinks no TOPUP or CHANGE is the model's reading of R140, log 31. -/
def Obligations.OfferIsCheckedAndMade : Prop :=
  (∀ (f : OfferFields) (s : State), Ready s →
    (joiningOrJoined s.member.state = false → exec (.offer (.fields f)) s = .next (refused .badState s)) ∧
    (joiningOrJoined s.member.state = true →
      (f.receiver < 1 ∨ 56 < f.receiver ∨ f.receiver = s.own →
        exec (.offer (.fields f)) s = .next (refused .badLength s)) ∧
      (1 ≤ f.receiver → f.receiver ≤ 56 → f.receiver ≠ s.own →
        (s.container? f.tag = none → exec (.offer (.fields f)) s = .next (refused .notFound s)) ∧
        (∀ c, s.container? f.tag = some c →
          (c.cls = .courierSack → exec (.offer (.fields f)) s = .next (refused .classNotAllowed s)) ∧
          (c.cls ≠ .courierSack → c.state ≠ .counting → c.state ≠ .held →
            exec (.offer (.fields f)) s = .next (refused .badState s)) ∧
          (c.cls ≠ .courierSack → c.state = .held →
            (c.disputed = true → exec (.offer (.fields f)) s = .next (refused .disputed s)) ∧
            (c.disputed = false →
              let p := s.peer f.receiver
              ((p.state = .unknown ∨ p.state = .gone ∨ p.role = none) →
                exec (.offer (.fields f)) s = .next (refused .peerAbsent s)) ∧
              ((p.state = .live ∨ p.state = .quiet) → p.role.isSome = true →
                (routed s.unit.role p.role c.cls = false →
                  exec (.offer (.fields f)) s = .next (refused .classNotAllowed s)) ∧
                (routed s.unit.role p.role c.cls = true →
                  (8 ≤ portFrames s.loop.queue ∨ 12 ≤ s.loop.queue.length →
                    exec (.offer (.fields f)) s = .next (refused .loopQueueFull s)) ∧
                  (portFrames s.loop.queue < 8 → s.loop.queue.length < 12 →
                    ∃ t, exec (.offer (.fields f)) s = .next t ∧ Answers t .started []))))))))) ∧
  (∀ (f : OfferFields) (c : Container) (s : State), Ready s → joiningOrJoined s.member.state = true →
    1 ≤ f.receiver → f.receiver ≤ 56 → f.receiver ≠ s.own → s.container? f.tag = some c → c.cls ≠ .courierSack →
    (∀ role, BooksInv s → c.state = .held → c.disputed = false → s.unit.role = some role →
      (s.peer f.receiver).state = .live ∨ (s.peer f.receiver).state = .quiet → (s.peer f.receiver).role.isSome = true →
      routed s.unit.role (s.peer f.receiver).role c.cls = true → PortRoom s →
      let h : HandoverFields := { peer := f.receiver, number := s.handoverCounter, purpose := f.purpose,
                                  deadline := s.clock + s.cfg.transitSteps c.cls }
      let payload : OfferPayload := { role := role, number := s.handoverCounter, tag := c.tag, cls := c.cls, value := c.value,
                                      counted := c.counted.map (·.value), origin := c.origin, purpose := f.purpose,
                                      remaining := 0, comp := c.comp }
      ∃ t, exec (.offer (.fields f)) s = .next t ∧ t = { answered .started [] s with
        custody := { s.custody with table := s.tableWith f.tag (fun c => { c with
          state := .offering, handover := some h, handovers := min 255 (c.handovers + 1), refusal := none }) },
        handoverCounter := if 65535 ≤ s.handoverCounter then 1 else s.handoverCounter + 1,
        loop := { s.loop with queue := s.queueWith true f.receiver (.offer payload) },
        service := { s.service with requests := t.service.requests } } ∧
        (∀ r ∈ s.service.requests, (r.id ≠ f.purpose ∨ r.kind ≠ .pickup ∨ r.phase = .opened) → r ∈ t.service.requests) ∧
        (∀ r ∈ s.service.requests, ∀ a, r.id = f.purpose → r.kind = .pickup → r.phase = .claimed f.receiver a →
          { r with phase := .serving f.receiver a c.tag } ∈ t.service.requests)) ∧
    (c.state = .counting → c.deferred = none → exec (.offer (.fields f)) s = .next { answered .started [] s with
      custody := { s.custody with table := s.tableWith f.tag (fun c => { c with
        deferred := some { peer := f.receiver, purpose := f.purpose } }) } }) ∧
    (c.state = .counting → c.deferred ≠ none → exec (.offer (.fields f)) s = .next (refused .busy s)))

/-- R66, R82, R141: the report of an OFFER makes the container OUTBOUND, OVERDUE once its deadline has passed, or HELD with NO_ANSWER
and a refusal window of 5 s. R66, R69, R82: the transit deadline, the lapse of an expectation and the end of a refusal window
act once they are due.
That a timer command before its time changes nothing is the model's choice, log 1. -/
def Obligations.OfferReportAndHandoverTimers : Prop :=
  (∀ (target : Nat) (p : OfferPayload) (c : Container) (h : HandoverFields) (s : State), OnLine s target (.offer p) →
    s.container? p.tag = some c → c.state = .offering → c.handover = some h → h.number = p.number →
    (s.clock < h.deadline → exec (.offerReport true) s = .next { s with
      custody := { s.custody with table := s.tableWith p.tag (fun c => { c with state := .outbound }) },
      loop := s.loop.ended, attn := s.attn.withResult p.tag .giver .outbound }) ∧
    (h.deadline ≤ s.clock → c.overdueAlarm = false → ∃ t, exec (.offerReport true) s = .next t ∧
      t = { s with
        custody := { s.custody with table := s.tableWith p.tag (fun c => { c with
          state := .overdue, recallEnds := none, overdueAlarm := true }) },
        loop := { s.loop.ended with queue := t.loop.queue }, attn := t.attn } ∧
      Raised .handoverResult t ∧ t.alarmSet .overdue = true) ∧
    exec (.offerReport false) s = .next { s with
      custody := { s.custody with table := s.tableWith p.tag (fun c => { c with
        state := .held, handover := none, lastResult := .noAnswer,
        refusal := some { receiver := h.peer, number := h.number, closes := s.clock + 500 } }) },
      service := { s.service with requests := s.service.requests.map (fun r =>
        if linkedTo p.tag r = true ∧ r.kind = .pickup then { r with phase := backToClaimed r.phase } else r) },
      loop := s.loop.ended, attn := s.attn.withResult p.tag .giver .noAnswer }) ∧
  (∀ (tag : Nat) (s : State), s.unit.power = .running →
    (∀ c h, s.container? tag = some c → c.state = .outbound → c.handover = some h →
      (s.clock < h.deadline → exec (.transitDeadline tag) s = .next s) ∧
      (h.deadline ≤ s.clock → ∃ t, exec (.transitDeadline tag) s = .next t ∧ t.alarmSet .overdue = true ∧
        t = { s with
          custody := { s.custody with table := s.tableWith tag (fun c => { c with
            state := .overdue, recallEnds := none, overdueAlarm := true }) },
          loop := { s.loop with queue := t.loop.queue }, attn := t.attn })) ∧
    (∀ c, s.container? tag = some c → c.state ≠ .outbound → exec (.transitDeadline tag) s = .next s) ∧
    (∀ e, s.inbound? tag = some e →
      (e.state = .expected → e.lapse ≤ s.clock → exec (.inboundLapse tag) s = .next { s with
        custody := { s.custody with inbound := s.custody.inbound.filter (fun d => d.tag ≠ tag) },
        service := { s.service with requests := s.service.requests.map (fun r =>
          if linkedTo tag r = true ∧ r.kind ≠ .pickup then { r with phase := backToClaimed r.phase } else r) },
        attn := s.attn.with .inboundLapsed }) ∧
      (e.state ≠ .expected ∨ s.clock < e.lapse → exec (.inboundLapse tag) s = .next s)) ∧
    (∀ c w, s.container? tag = some c → c.refusal = some w →
      (s.clock < w.closes → exec (.refusalWindowEnd tag) s = .next s) ∧
      (w.closes ≤ s.clock → exec (.refusalWindowEnd tag) s = .next { s with
        custody := { s.custody with table := s.tableWith tag (fun c => { c with refusal := none }) } })))

/-- R71, R10, R14: a TAKEN that fits releases the container, late when it was OVERDUE; one that does not is answered
REFUSE(NOT_OFFERED) without an acknowledge. -/
def Obligations.TakenReleases : Prop :=
  ∀ (sender target : Nat) (p : TakenPayload) (s : State), Hears s sender target (.taken p) →
    (∀ c h, s.container? p.tag = some c → c.handover = some h → inTransit c.state = true → h.peer = sender →
      (p.number = h.number ∨ p.number = 0) → p.value = c.value →
      ∃ t, exec (.takenReceived sender target p) s = .next t ∧
        t.custody.table = s.custody.table.filter (fun d => d.tag ≠ p.tag) ∧
        t.custody.releases = keepLast 16
          (s.custody.releases ++ [{ tag := p.tag, receiver := sender, number := h.number, value := c.value }]) ∧
        (saturates (s.custody.totals.released + c.value) = false →
          t.custody.totals = s.totalsWith .released c.value ∧ t.custody.saturated = s.custody.saturated) ∧
        Raised .handoverResult t ∧
        t.attn.note = some { tag := p.tag, side := .giver, outcome := .taken (c.state == .overdue) } ∧
        t = { s.heard sender true with
          custody := { s.custody with table := t.custody.table, releases := t.custody.releases, totals := t.custody.totals,
                                      saturated := t.custody.saturated },
          loop := { (s.heard sender true).loop with queue := t.loop.queue }, attn := t.attn, service := t.service }) ∧
    ((∀ c h, s.container? p.tag = some c → c.handover = some h → inTransit c.state = false ∨ h.peer ≠ sender ∨
        (p.number ≠ h.number ∧ p.number ≠ 0) ∨ p.value ≠ c.value) →
      s.loop.queue.length < 12 →
      exec (.takenReceived sender target p) s = .next { s.heard sender false with
        loop := { s.loop.yielded with
          queue := (s.heard sender false).queueWith false sender
            (.refuse { tag := p.tag, number := p.number, reason := .notOffered }) } })

/-- R77, R79, R82: RECALL, its acceptance by RECALL_OK, and the end of the recall timer. R78: a RECALL is answered RECALL_OK, with the
EXPECTED entry removed, or REFUSE(TOO_LATE) without an acknowledge.
That a timer command before its time changes nothing is the model's choice, log 1. -/
def Obligations.RecallsAtBothEnds : Prop :=
  (∀ (tag : Nat) (c : Container) (h : HandoverFields) (s : State), s.container? tag = some c → c.handover = some h →
    (PortRoom s → c.state = .outbound ∨ c.state = .overdue →
      exec (.recall (.fields tag)) s = .next { answered .started [] s with
        custody := { s.custody with table := s.tableWith tag (fun c => { c with
          state := .recalling, recallEnds := some (s.clock + 6000) }) },
        loop := { s.loop with queue := s.queueWith true h.peer (.recall { tag := tag, number := h.number }) } }) ∧
    (∀ target, Hears s h.peer target (.recallOk { tag := tag, number := h.number }) → inTransit c.state = true →
      ∃ t, exec (.recallOkReceived h.peer target { tag := tag, number := h.number }) s = .next t ∧
        t.attn.note = some { tag := tag, side := .giver, outcome := .recalled } ∧ Raised .handoverResult t ∧
        t = { s.heard h.peer true with
          custody := { s.custody with table := s.tableWith tag (fun c => { c with
            state := .held, handover := none, recallEnds := none, overdueAlarm := false, lastResult := .recalled }) },
          service := { s.service with requests := s.service.requests.map (fun r =>
            if linkedTo tag r = true ∧ r.kind = .pickup then { r with phase := backToClaimed r.phase } else r) },
          loop := { (s.heard h.peer true).loop with queue := t.loop.queue }, attn := t.attn }) ∧
    (∀ w, s.unit.power = .running → c.state = .recalling → c.recallEnds = some w →
      (s.clock < w → exec (.recallTimeout tag) s = .next s) ∧
      (w ≤ s.clock → s.clock < h.deadline → exec (.recallTimeout tag) s = .next { s with
        custody := { s.custody with table := s.tableWith tag (fun c => { c with state := .outbound, recallEnds := none }) },
        attn := s.attn.with .recallUnanswered }) ∧
      (w ≤ s.clock → h.deadline ≤ s.clock → ∃ t, exec (.recallTimeout tag) s = .next t ∧ Raised .recallUnanswered t ∧
        t = { s with
          custody := { s.custody with table := s.tableWith tag (fun c => { c with
            state := .overdue, recallEnds := none, overdueAlarm := true }) },
          loop := { s.loop with queue := t.loop.queue }, attn := t.attn }))) ∧
  (∀ (sender target : Nat) (p : TagNumber) (s : State), Hears s sender target (.recall p) → s.loop.queue.length < 12 →
    let tooLate := exec (.recallReceived sender target p) s = .next { s.heard sender false with
      loop := { s.loop.yielded with
        queue := (s.heard sender false).queueWith false sender
          (.refuse { tag := p.tag, number := p.number, reason := .tooLate }) } }
    let given := (s.heard sender true).queueWith false sender (.recallOk p)
    (∀ e, s.inbound? p.tag = some e → e.giver = sender → e.state = .expected →
      exec (.recallReceived sender target p) s = .next { s.heard sender true with
        custody := { s.custody with inbound := s.custody.inbound.filter (fun d => d.tag ≠ p.tag) },
        service := { s.service with requests := s.service.requests.map (fun r =>
          if linkedTo p.tag r = true ∧ r.kind ≠ .pickup then { r with phase := backToClaimed r.phase } else r) },
        loop := { (s.heard sender true).loop with queue := given },
        attn := s.attn.withResult p.tag .receiver .recalled }) ∧
    (∀ e, s.inbound? p.tag = some e → e.giver = sender → e.state ≠ .expected → tooLate) ∧
    ((∀ e, s.inbound? p.tag = some e → e.giver ≠ sender) → (s.container? p.tag).isSome = true → tooLate) ∧
    ((∀ e, s.inbound? p.tag = some e → e.giver ≠ sender) → s.container? p.tag = none →
      exec (.recallReceived sender target p) s = .next { s.heard sender true with
        loop := { (s.heard sender true).loop with queue := given } }))

/-- R81: what each reason of a REFUSE does when it fits, with the OVERDUE alarm that a DECLINED clears (R82, R171), and, reason by
reason, that one that does not fit is not acted on. -/
def Obligations.RefusalsAreApplied : Prop :=
  ∀ (sender target : Nat) (p : RefusePayload) (s : State), Hears s sender target (.refuse p) →
    let backed := s.service.requests.map (fun r =>
      if linkedTo p.tag r = true ∧ r.kind = .pickup then { r with phase := backToClaimed r.phase } else r)
    (∀ c w, p.reason = .classNotAccepted ∨ p.reason = .duplicateTag ∨ p.reason = .inboundFull →
      s.container? p.tag = some c → c.state = .held → c.refusal = some w → w.receiver = sender → w.number = p.number →
      exec (.refuseReceived sender target p) s = .next { s.heard sender true with
        custody := { s.custody with table := s.tableWith p.tag (fun c => { c with
          lastResult := .refused p.reason, refusal := none }) },
        service := { s.service with requests := backed }, attn := s.attn.withResult p.tag .giver (.refused p.reason) }) ∧
    (∀ c h, p.reason = .declined → s.container? p.tag = some c → inTransit c.state = true → c.handover = some h →
      h.peer = sender → h.number = p.number → c.overdueAlarm = false →
      exec (.refuseReceived sender target p) s = .next { s.heard sender true with
        custody := { s.custody with table := s.tableWith p.tag (fun c => { c with
          state := .held, handover := none, recallEnds := none, overdueAlarm := false, lastResult := .declined }) },
        service := { s.service with requests := backed }, attn := s.attn.withResult p.tag .giver .declined }) ∧
    (∀ c h, p.reason = .declined → s.container? p.tag = some c → inTransit c.state = true → c.handover = some h →
      h.peer = sender → h.number = p.number → c.overdueAlarm = true →
      ∃ t, exec (.refuseReceived sender target p) s = .next t ∧
        t = { s.heard sender true with
          custody := { s.custody with table := s.tableWith p.tag (fun c => { c with
            state := .held, handover := none, recallEnds := none, overdueAlarm := false, lastResult := .declined }) },
          service := { s.service with requests := backed },
          loop := { (s.heard sender true).loop with queue := t.loop.queue }, attn := t.attn } ∧
        (s.loop.queue.length < 12 → t.attn = s.attn.withResult p.tag .giver .declined ∧
          t.loop.queue = (s.heard sender true).queueWith false 0
            (.alarm { kind := .overdue, action := .cleared, active := t.activeAlarm, tag := p.tag })) ∧
        (12 ≤ s.loop.queue.length → t.attn = (s.attn.with .loopFrameDropped).withResult p.tag .giver .declined ∧
          t.loop.queue = s.loop.yielded.queue)) ∧
    (∀ c w, p.reason = .declined → s.container? p.tag = some c → c.state = .held → c.refusal = some w →
      w.receiver = sender → w.number = p.number →
      exec (.refuseReceived sender target p) s = .next { s.heard sender true with
        custody := { s.custody with table := s.tableWith p.tag (fun c => { c with
          lastResult := .declined, refusal := none }) },
        service := { s.service with requests := backed }, attn := s.attn.withResult p.tag .giver .declined }) ∧
    (∀ c h, p.reason = .tooLate → s.container? p.tag = some c → inTransit c.state = true → c.handover = some h →
      h.peer = sender → h.number = p.number →
      exec (.refuseReceived sender target p) s = .next { s.heard sender true with
        custody := { s.custody with table := s.tableWith p.tag (fun c => { c with lastResult := .refused .tooLate }) },
        attn := s.attn.withResult p.tag .giver (.refused .tooLate) }) ∧
    (∀ e, p.reason = .notOffered → s.inbound? p.tag = some e → e.giver = sender → e.state = .taking ∨ e.state = .unsure →
      exec (.refuseReceived sender target p) s = .next { s.heard sender true with
        attn := s.attn.withResult p.tag .receiver (.refused .notOffered) }) ∧
    (let noWindow := ∀ c w, s.container? p.tag = some c → c.state = .held → c.refusal = some w →
       w.receiver ≠ sender ∨ w.number ≠ p.number
     let noTransit := ∀ c h, s.container? p.tag = some c → inTransit c.state = true → c.handover = some h →
       h.peer ≠ sender ∨ h.number ≠ p.number
     let noTaking := ∀ e, s.inbound? p.tag = some e → e.giver ≠ sender ∨ (e.state ≠ .taking ∧ e.state ≠ .unsure)
     let notActed := exec (.refuseReceived sender target p) s = .next (s.heard sender false)
     (p.reason = .classNotAccepted ∨ p.reason = .duplicateTag ∨ p.reason = .inboundFull → noWindow → notActed) ∧
     (p.reason = .declined → noWindow → noTransit → notActed) ∧ (p.reason = .tooLate → noTransit → notActed) ∧
     (p.reason = .notOffered → noTaking → notActed))

/-! ### Handover, the receiver -/

/-- R70: the checks of TAKE, the entry it makes TAKING or appends, and its TAKEN frame.
The answer to a bad class code or tag 0 is left out: log 10. -/
def Obligations.TakeReservesAPlace : Prop :=
  ∀ (f : TakeFields) (cls : ContainerClass) (s : State), PortRoom s → classOfCode f.cls = some cls → f.tag ≠ 0 →
    let full := 48 ≤ s.custody.table.length + s.reserved
    (∀ e, s.inbound? f.tag = some e →
      (f.giver ≠ 0 → f.giver ≠ e.giver → exec (.take (.fields f)) s = .next (refused .duplicateTag s)) ∧
      (f.giver = 0 ∨ f.giver = e.giver →
        (e.state = .taking ∨ e.state = .unsure → exec (.take (.fields f)) s = .next (refused .busy s)) ∧
        (e.state = .unresolved → exec (.take (.fields f)) s = .next (refused .badState s)) ∧
        (e.state = .expected → full → exec (.take (.fields f)) s = .next (refused .tableFull s)) ∧
        (e.state = .expected → ¬ full → exec (.take (.fields f)) s = .next { answered .started [] s with
          custody := { s.custody with inbound := s.inboundWith f.tag (fun e => { e with state := .taking }) },
          loop := { s.loop with
            queue := s.queueWith true e.giver (.taken { tag := f.tag, number := e.number, value := e.value }) } }))) ∧
    (s.inbound? f.tag = none →
      (cls = .courierSack ∨ f.giver < 1 ∨ 56 < f.giver ∨ f.giver = s.own →
        exec (.take (.fields f)) s = .next (refused .badLength s)) ∧
      (cls ≠ .courierSack → 1 ≤ f.giver → f.giver ≤ 56 → f.giver ≠ s.own →
        (canHold s.unit.role cls = false → exec (.take (.fields f)) s = .next (refused .classNotAllowed s)) ∧
        (canHold s.unit.role cls = true → (s.container? f.tag).isSome = true →
          exec (.take (.fields f)) s = .next (refused .duplicateTag s)) ∧
        (canHold s.unit.role cls = true → s.container? f.tag = none → 16 ≤ s.custody.inbound.length ∨ full →
          exec (.take (.fields f)) s = .next (refused .tableFull s)) ∧
        (canHold s.unit.role cls = true → s.container? f.tag = none → s.custody.inbound.length < 16 → ¬ full →
          exec (.take (.fields f)) s = .next { answered .started [] s with
            custody := { s.custody with inbound := s.custody.inbound ++ [{
              giver := f.giver, number := 0, tag := f.tag, cls := cls, value := f.value, comp := none, counted := none,
              purpose := 0, origin := f.giver, lapse := s.clock + s.cfg.transitSteps cls + 60 * 6000, state := .taking,
              queryPending := false, queryWaitEnds := none }] },
            loop := { s.loop with
              queue := s.queueWith true f.giver (.taken { tag := f.tag, number := 0, value := f.value }) } })))

/-- R2, R3, R72: an acknowledged TAKEN brings the container into the Custody Table; without acknowledge the entry is UNSURE and
a QUERY is queued. That an improper composition does not enter, whatever it is worth, is the model's reading, log 19. -/
def Obligations.TakenReportEnters : Prop :=
  ∀ (target : Nat) (p : TakenPayload) (e : InboundEntry) (s : State), OnLine s target (.taken p) →
    s.inbound? p.tag = some e → e.state = .taking →
    (∃ t c, exec (.takenReport true) s = .next t ∧ t.custody.table = s.custody.table ++ [c] ∧
      (c.tag = e.tag ∧ c.cls = e.cls ∧ c.state = .held ∧ c.origin = e.origin ∧ c.value = e.value ∧ c.handovers = 1 ∧
        c.lastResult = .taken ∧ c.handover = none ∧ c.deferred = none ∧ c.nesting = none ∧ c.sack = none ∧
        c.refusal = none) ∧
      (e.comp = none → c.comp = none) ∧
      (∀ k, e.comp = some k → c.comp = if compProper k = true ∧ s.cfg.valueOf k = e.value then some k else none) ∧
      (e.counted = none → c.counted = none ∧ c.disputed = false) ∧
      (∀ v, e.counted = some v → c.counted = some { value := v, comp := none, suspect := 0, variance := varianceOf v e.value,
                                                    cls := s.cfg.classify v e.value } ∧
        (c.disputed = true ↔ (s.cfg.tolerance e.value : Int) < |((v : Int) - (e.value : Int))|)) ∧
      t.custody.inbound = s.custody.inbound.filter (fun d => d.tag ≠ p.tag) ∧
      (saturates (s.custody.totals.received + e.value) = false →
        t.custody.totals = s.totalsWith .received e.value ∧ t.custody.saturated = s.custody.saturated) ∧
      Raised .handoverResult t ∧ t.attn.note = some { tag := p.tag, side := .receiver, outcome := .taken false } ∧
      t = { s with
        custody := { s.custody with table := t.custody.table, inbound := t.custody.inbound, totals := t.custody.totals,
                                    saturated := t.custody.saturated },
        loop := { s.loop.ended with queue := t.loop.queue }, attn := t.attn, service := t.service }) ∧
    (s.member.state ≠ .stopped → s.member.state ≠ .duplicate → s.loop.queue.length ≤ 12 →
      exec (.takenReport false) s = .next { s with
        custody := { s.custody with inbound := s.inboundWith p.tag (fun e =>
          { e with state := .unsure, queryPending := true, queryWaitEnds := none }) },
        loop := { s.loop.ended with
          queue := insertFrame
            { target := e.giver, payload := .query { tag := e.tag, number := e.number }, port := false, onLine := false }
            s.loop.ended.queue } })

/-- R73: QUERY, the report of its frame, and the end of the wait of 2 s; an UNSURE entry of an UNKNOWN or GONE giver becomes
UNRESOLVED.
That a timer command before its time changes nothing is the model's choice, log 1. -/
def Obligations.QueriesArePending : Prop :=
  ∀ (tag : Nat) (e : InboundEntry) (s : State), s.inbound? tag = some e →
    let given := e.state = .unsure ∧ ((s.peer e.giver).state = .unknown ∨ (s.peer e.giver).state = .gone)
    let unanswered (l : LoopInterface) (t : State) : Prop :=
      (¬ given → t = { s with
        custody := { s.custody with inbound := s.inboundWith tag (fun e =>
          { e with queryPending := false, queryWaitEnds := none }) },
        loop := l, attn := s.attn.with .queryUnanswered }) ∧
      (given → t.alarmSet .unresolved = true ∧ Raised .queryUnanswered t ∧ t = { s with
        custody := { s.custody with inbound := s.inboundWith tag (fun e =>
          { e with state := .unresolved, queryPending := false, queryWaitEnds := none }) },
        loop := { l with queue := t.loop.queue }, attn := t.attn })
    (PortRoom s → e.state = .unsure ∨ e.state = .unresolved → e.queryPending = false →
      exec (.query (.fields tag)) s = .next { answered .started [] s with
        custody := { s.custody with inbound := s.inboundWith tag (fun e =>
          { e with queryPending := true, queryWaitEnds := none }) },
        loop := { s.loop with queue := s.queueWith true e.giver (.query { tag := tag, number := e.number }) } }) ∧
    (PortRoom s → e.state = .unsure ∨ e.state = .unresolved → e.queryPending = true →
      exec (.query (.fields tag)) s = .next (refused .busy s)) ∧
    (PortRoom s → e.state = .expected ∨ e.state = .taking → exec (.query (.fields tag)) s = .next (refused .badState s)) ∧
    (∀ target, OnLine s target (.query { tag := tag, number := e.number }) → e.queryPending = true →
      exec (.queryReport true) s = .next { s with
        custody := { s.custody with inbound := s.inboundWith tag (fun e =>
          { e with queryWaitEnds := some (s.clock + 200) }) },
        loop := s.loop.ended } ∧
      ∃ t, exec (.queryReport false) s = .next t ∧ unanswered s.loop.ended t) ∧
    (∀ w, s.unit.power = .running → e.queryPending = true → e.queryWaitEnds = some w →
      (s.clock < w → exec (.queryWaitEnd tag) s = .next s) ∧
      (w ≤ s.clock → ∃ t, exec (.queryWaitEnd tag) s = .next t ∧ unanswered s.loop t))

/-- R74: what the giver answers to a QUERY, with the acknowledge driven once the ANSWER has joined the queue. That a matching release
answers RELEASED_TO_YOU also while a container of the tag is COUNTING, NESTED, HELD or OFFERING is the model's reading, log 30. -/
def Obligations.QueryIsAnswered : Prop :=
  ∀ (sender target : Nat) (p : TagNumber) (s : State), Hears s sender target (.query p) →
    ∃ a : AnswerPayload, a.tag = p.tag ∧
      (s.loop.queue.length < 12 → exec (.queryReceived sender target p) s = .next { s.heard sender true with
        loop := { (s.heard sender true).loop with queue := (s.heard sender true).queueWith false sender (.answer a) } }) ∧
      (s.loop.queue.length = 12 → exec (.queryReceived sender target p) s = .next { s.heard sender false with
        attn := s.attn.with .loopFrameDropped }) ∧
      (∀ c h, s.container? p.tag = some c → c.handover = some h → inTransit c.state = true → h.peer = sender →
        a = { tag := p.tag, answer := .heldForYou, number := h.number, value := 0,
              remaining := if c.state = .overdue then 0 else (h.deadline - s.clock + 5999) / 6000 }) ∧
      ((∀ c h, s.container? p.tag = some c → c.handover = some h → inTransit c.state = false ∨ h.peer ≠ sender) →
        (∀ older r newer, s.custody.releases = older ++ [r] ++ newer → r.tag = p.tag → r.receiver = sender →
          (p.number = 0 ∨ r.number = p.number) →
          (∀ q ∈ newer, q.tag = p.tag → q.receiver = sender → p.number ≠ 0 ∧ q.number ≠ p.number) →
          a = { tag := p.tag, answer := .releasedToYou, number := r.number, remaining := 0, value := r.value }) ∧
        ((∀ r ∈ s.custody.releases, r.tag = p.tag → r.receiver = sender → p.number ≠ 0 ∧ r.number ≠ p.number) →
          a = { tag := p.tag, answer := .notKnown, number := p.number, remaining := 0, value := 0 }))

/-- R75, R76: what an ANSWER makes of an UNSURE or UNRESOLVED entry; TAKE_RESOLVE books an UNRESOLVED one. That another
entry of the giver gives up the number which HELD_FOR_YOU carries, so that no two share it (R9), is the model's reading, log 19. -/
def Obligations.AnswersSettleEntries : Prop :=
  ∀ (target : Nat) (p : AnswerPayload) (e : InboundEntry) (s : State), BooksInv s → s.inbound? p.tag = some e →
    (Hears s e.giver target (.answer p) → e.state = .unsure ∨ e.state = .unresolved → e.number = p.number ∨ e.number = 0 →
      (p.answer = .heldForYou → ∃ t, exec (.answerReceived e.giver target p) s = .next t ∧ Raised .offerArrived t ∧
        t = { s.heard e.giver true with
          custody := { s.custody with inbound := s.custody.inbound.map (fun d =>
            if d.tag = p.tag then { d with
              state := .expected, queryPending := false, queryWaitEnds := none, number := p.number,
              lapse := s.clock + p.remaining * 6000 + 60 * 6000 }
            else if d.giver = e.giver ∧ d.number = p.number then { d with number := 0 } else d) },
          loop := { (s.heard e.giver true).loop with queue := t.loop.queue }, attn := t.attn }) ∧
      (p.answer = .notKnown ∨ (p.answer = .releasedToYou ∧ p.value ≠ e.value) →
        ∃ t, exec (.answerReceived e.giver target p) s = .next t ∧ t.alarmSet .unresolved = true ∧
        t = { s.heard e.giver true with
          custody := { s.custody with inbound := s.inboundWith p.tag (fun e => { e with
            state := .unresolved, queryPending := false, queryWaitEnds := none }) },
          loop := { (s.heard e.giver true).loop with queue := t.loop.queue }, attn := t.attn } ∧
        (e.state = .unresolved → t.attn = s.attn)) ∧
      (p.answer = .releasedToYou → p.value = e.value → e.state = .unresolved →
        48 ≤ s.custody.table.length + s.reserved →
        exec (.answerReceived e.giver target p) s = .next (s.heard e.giver false)) ∧
      (p.answer = .releasedToYou → p.value = e.value →
        e.state = .unsure ∨ s.custody.table.length + s.reserved < 48 →
        ∃ t, exec (.answerReceived e.giver target p) s = .next t ∧ t.loop.slotDriven = true ∧
          t.custody.table = s.custody.table ++ [enteringContainer s.cfg e] ∧
          t.custody.inbound = s.custody.inbound.filter (fun d => d.tag ≠ p.tag) ∧
          (saturates (s.custody.totals.received + e.value) = false →
            t.custody.totals = s.totalsWith .received e.value) ∧
          t.attn.note = some { tag := p.tag, side := .receiver, outcome := .taken false })) ∧
    (Ready s → s.member.state ≠ .unconfigured →
      (e.state ≠ .unresolved → exec (.takeResolve (.fields p.tag)) s = .next (refused .badState s)) ∧
      (e.state = .unresolved → 48 ≤ s.custody.table.length + s.reserved →
        exec (.takeResolve (.fields p.tag)) s = .next (refused .tableFull s)) ∧
      (e.state = .unresolved → s.custody.table.length + s.reserved < 48 →
        ∃ t, exec (.takeResolve (.fields p.tag)) s = .next t ∧ Answers t .ok [] ∧ Raised .handoverResult t ∧
          t.custody.table = s.custody.table ++ [enteringContainer s.cfg e] ∧
          t.custody.inbound = s.custody.inbound.filter (fun d => d.tag ≠ p.tag) ∧
          (saturates (s.custody.totals.received + e.value) = false →
            t.custody.totals = s.totalsWith .received e.value) ∧
          t = { answered .ok [] s with
            custody := { s.custody with table := t.custody.table, inbound := t.custody.inbound, totals := t.custody.totals,
                                        saturated := t.custody.saturated },
            loop := { s.loop with queue := t.loop.queue }, attn := t.attn, service := t.service }))

/-- R80: DECLINE with its refusals, the entry removed, the service unit told, the REFUSE on the queue. -/
def Obligations.DeclineRemovesTheEntry : Prop :=
  ∀ (tag : Nat) (s : State), Ready s → joiningOrJoined s.member.state = true →
    (s.inbound? tag = none → exec (.decline (.fields tag)) s = .next (refused .notFound s)) ∧
    (∀ e, s.inbound? tag = some e →
      (e.state ≠ .expected → exec (.decline (.fields tag)) s = .next (refused .badState s)) ∧
      (e.state = .expected → 8 ≤ portFrames s.loop.queue ∨ 12 ≤ s.loop.queue.length →
        exec (.decline (.fields tag)) s = .next (refused .loopQueueFull s)) ∧
      (e.state = .expected → portFrames s.loop.queue < 8 → s.loop.queue.length < 12 →
        exec (.decline (.fields tag)) s = .next { answered .ok [] s with
          custody := { s.custody with inbound := s.custody.inbound.filter (fun d => d.tag ≠ tag) },
          service := { s.service with requests := s.service.requests.map (fun r =>
            if linkedTo tag r = true ∧ r.kind ≠ .pickup then { r with phase := backToClaimed r.phase } else r) },
          loop := { s.loop with
            queue := s.queueWith true e.giver (.refuse { tag := tag, number := e.number, reason := .declined }) } }))

/-- R67 to R69: an OFFER registered, updating its entry, or refused without an acknowledge. One that repeats the handover number of
an entry of another tag is refused while that entry is TAKING or UNSURE, and otherwise removes it as lapsed.
That an OFFER which updates an entry meets this check too (R9) is the model's reading, log 19.
That it relinks no PICKUP is the model's reading of R140, log 31.
Numbers outside their ranges are taken as carried, log 19. -/
def Obligations.OfferIsRegistered : Prop :=
  ∀ (sender target : Nat) (p : OfferPayload) (s : State), Hears s sender target (.offer p) →
    let fresh (st : InboundState) : InboundEntry :=
      { giver := sender, number := p.number, tag := p.tag, cls := p.cls, value := p.value, comp := p.comp,
        counted := p.counted, purpose := p.purpose, origin := p.origin,
        lapse := s.clock + p.remaining * 6000 + 60 * 6000, state := st, queryPending := false, queryWaitEnds := none }
    let refusedFor (r : RefuseReason) : Prop := s.loop.queue.length < 12 →
      exec (.offerReceived sender target p) s = .next { s.heard sender false with
        loop := { s.loop.yielded with
          queue := (s.heard sender false).queueWith false sender
            (.refuse { tag := p.tag, number := p.number, reason := r }) } }
    let linked (l : List OwnRequest) := l.map (fun r =>
      if r.id = p.purpose ∧ r.kind ≠ .pickup then { r with phase := linkPhase sender p.tag r.phase } else r)
    let others := s.custody.inbound.filter (fun e => decide (e.giver = sender ∧ e.number = p.number ∧ e.tag ≠ p.tag))
    (routed (some p.role) s.unit.role p.cls = false → refusedFor .classNotAccepted) ∧
    (routed (some p.role) s.unit.role p.cls = true → (s.container? p.tag).isSome = true → refusedFor .duplicateTag) ∧
    (routed (some p.role) s.unit.role p.cls = true → s.container? p.tag = none →
      (∀ e, s.inbound? p.tag = some e → e.giver ≠ sender → refusedFor .duplicateTag) ∧
      (∀ e, s.inbound? p.tag = some e → e.giver = sender → others = [] → e.state ≠ .unresolved →
        exec (.offerReceived sender target p) s = .next { s.heard sender true with
          custody := { s.custody with inbound := s.inboundWith p.tag (fun _ =>
            fresh (if e.state = .taking then .taking else .expected)) },
          service := { s.service with requests := linked s.service.requests }, attn := s.attn.with .offerArrived }) ∧
      (∀ e, s.inbound? p.tag = some e → e.giver = sender → others = [] → e.state = .unresolved →
        ∃ t, exec (.offerReceived sender target p) s = .next t ∧ Raised .offerArrived t ∧ t = { s.heard sender true with
          custody := { s.custody with inbound := s.inboundWith p.tag (fun _ => fresh .expected) },
          service := { s.service with requests := linked s.service.requests },
          loop := { (s.heard sender true).loop with queue := t.loop.queue }, attn := t.attn }) ∧
      (s.inbound? p.tag = none → others = [] →
        (16 ≤ s.custody.inbound.length → refusedFor .inboundFull) ∧
        (s.custody.inbound.length < 16 →
          exec (.offerReceived sender target p) s = .next { s.heard sender true with
            custody := { s.custody with inbound := s.custody.inbound ++ [fresh .expected] },
            service := { s.service with requests := linked s.service.requests }, attn := s.attn.with .offerArrived })) ∧
      ((∀ e, s.inbound? p.tag = some e → e.giver = sender) →
        ((∃ d ∈ others, d.state = .taking ∨ d.state = .unsure) → refusedFor .duplicateTag) ∧
        (∀ d, others = [d] → d.state = .expected ∨ d.state = .unresolved → s.custody.inbound.length ≤ 16 →
          ∃ t, exec (.offerReceived sender target p) s = .next t ∧ Raised .inboundLapsed t ∧ Raised .offerArrived t ∧
            (let rest := s.custody.inbound.filter (fun e => e.tag ≠ d.tag)
             (s.inbound? p.tag = none → t.custody.inbound = rest ++ [fresh .expected]) ∧
             (∀ e, s.inbound? p.tag = some e → t.custody.inbound = rest.map (fun f =>
               if f.tag = p.tag then fresh (if e.state = .taking then .taking else .expected) else f))) ∧
            t = { s.heard sender true with
              custody := { s.custody with inbound := t.custody.inbound },
              service := { s.service with requests := linked (s.service.requests.map (fun r =>
                if linkedTo d.tag r = true ∧ r.kind ≠ .pickup then { r with phase := backToClaimed r.phase } else r)) },
              loop := { (s.heard sender true).loop with queue := t.loop.queue }, attn := t.attn })))

/-- R141, R147: a completed handover closes the requests it serves: each is removed, REQUEST_SERVED is raised and, in the station
states of R132, a WITHDRAW(SERVED) joins the queue; at the giver every other request linked to the tag is back to CLAIMED. The WON
entries it serves leave the Service List. Nothing else of the service unit changes. The four completions are a TAKEN heard and an
acknowledged TAKEN (R71, R72), RELEASED_TO_YOU (R75) and TAKE_RESOLVE (R76). The queue is told whole where no ALARM joins it: no
alarm of a tag clears and no total comes to saturate, or the station is not ON_LOOP (R171). The order in which several requests of one
handover close is the model's reading, log 20. -/
def Obligations.CompletedHandoversCloseRequests : Prop :=
  ∀ s : State, (s.service.requests.map (·.id)).Nodup →
    let withdraw (r : OwnRequest) : QueuedFrame :=
      { target := if r.kind = .change then 59 else 58, payload := .withdraw { id := r.id, kind := r.kind, reason := .served },
        port := false, onLine := false }
    let settles (gives : Bool) (peer tag : Nat) (won : ServiceEntry → Bool) (q : List QueuedFrame) (a : Attention)
        (outcome : NoteOutcome) (noAlarm : Prop) (t : State) : Prop :=
      let served (r : OwnRequest) : Bool :=
        match r.phase with
        | .serving n _ g => n == peer && g == tag && (r.kind == .pickup) == gives
        | _ => false
      let closed := s.service.requests.filter served
      let told := (if closed = [] then a else a.with .requestServed).withResult tag (if gives then .giver else .receiver) outcome
      t.service = { s.service with
        requests := (s.service.requests.filter (fun r => !served r)).map (fun r =>
          if gives = true ∧ linkedTo tag r = true ∧ r.kind = .pickup then { r with phase := backToClaimed r.phase } else r),
        list := s.service.list.filter (fun e => !won e) } ∧
      (closed ≠ [] → Raised .requestServed t) ∧
      (joiningOrJoined s.member.state = false → t.loop.queue = q ∧ t.attn = told) ∧
      (joiningOrJoined s.member.state = true → q.length + closed.length + 2 ≤ 12 →
        t.attn = told ∧ (∀ r ∈ closed, withdraw r ∈ t.loop.queue) ∧ (∀ f ∈ q, f ∈ t.loop.queue) ∧
        (s.member.state ≠ .onLoop ∨ noAlarm → t.loop.queue = closed.foldl (fun l r => insertFrame (withdraw r) l) q))
    let steady (v : Int) : Prop := saturates v = true → s.custody.saturated = true
    let wonFrom (e : InboundEntry) (k : ServiceEntry) : Bool :=
      k.requester == e.giver && k.id == e.purpose && k.state == .won && k.kind == .pickup && e.cls == .pickupPouch
    (∀ (target : Nat) (p : TakenPayload) (c : Container) (h : HandoverFields),
      Hears s h.peer target (.taken p) → s.container? p.tag = some c → c.handover = some h → inTransit c.state = true →
      (p.number = h.number ∨ p.number = 0) → p.value = c.value →
      ∃ t, exec (.takenReceived h.peer target p) s = .next t ∧
        settles true h.peer p.tag (fun k => k.requester == h.peer && k.id == h.purpose && k.state == .won && k.kind != .pickup)
          s.loop.yielded.queue s.attn (.taken (c.state == .overdue))
          (c.overdueAlarm = false ∧ steady (s.custody.totals.released + c.value)) t) ∧
    (∀ (target : Nat) (p : TakenPayload) (e : InboundEntry), OnLine s target (.taken p) → s.inbound? p.tag = some e →
      e.state = .taking →
      ∃ t, exec (.takenReport true) s = .next t ∧
        settles false e.giver p.tag (wonFrom e) s.loop.ended.queue s.attn (.taken false)
          (steady (s.custody.totals.received + e.value)) t) ∧
    (∀ (target : Nat) (p : AnswerPayload) (e : InboundEntry), Hears s e.giver target (.answer p) →
      s.inbound? p.tag = some e → (e.state = .unsure ∨ e.state = .unresolved) → (e.number = p.number ∨ e.number = 0) →
      p.answer = .releasedToYou → p.value = e.value →
      (e.state = .unresolved → s.custody.table.length + s.reserved < 48) →
      ∃ t, exec (.answerReceived e.giver target p) s = .next t ∧
        settles false e.giver p.tag (wonFrom e) s.loop.yielded.queue s.attn (.taken false)
          (e.state = .unsure ∧ steady (s.custody.totals.received + e.value)) t) ∧
    (∀ (tag : Nat) (e : InboundEntry), Ready s → s.member.state ≠ .unconfigured → s.inbound? tag = some e →
      e.state = .unresolved → s.custody.table.length + s.reserved < 48 →
      ∃ t, exec (.takeResolve (.fields tag)) s = .next t ∧
        settles false e.giver tag (wonFrom e) s.loop.queue { s.attn with returned := 0 } (.taken false) False t)

/-! ### The books -/

/-- R11: the checks of MAKE_UP in their order, and what an accepted one takes from the position and puts into the table. That
UNCONFIGURED is answered before a bad body is the model's order, log 10. -/
def Obligations.MakeUpCreatesAContainer : Prop :=
  ∀ (f : MakeUpFields) (cls : ContainerClass) (s : State), Ready s → classOfCode f.cls = some cls →
    (s.member.state = .unconfigured → exec (.makeUp (.fields f)) s = .next (refused .badState s)) ∧
    (s.member.state ≠ .unconfigured →
      (f.tag = 0 ∨ compRequired f.comp = false → exec (.makeUp (.fields f)) s = .next (refused .badLength s)) ∧
      (f.tag ≠ 0 → compRequired f.comp = true →
        (canMakeUp s.unit.role cls = false → exec (.makeUp (.fields f)) s = .next (refused .classNotAllowed s)) ∧
        (canMakeUp s.unit.role cls = true →
          ((s.container? f.tag).isSome = true ∨ (s.inbound? f.tag).isSome = true →
            exec (.makeUp (.fields f)) s = .next (refused .duplicateTag s)) ∧
          (s.container? f.tag = none → s.inbound? f.tag = none →
            (48 ≤ s.custody.table.length + s.reserved → exec (.makeUp (.fields f)) s = .next (refused .tableFull s)) ∧
            (s.custody.table.length + s.reserved < 48 →
              ((∃ q ∈ f.comp, s.pieces q.1 < q.2) → exec (.makeUp (.fields f)) s = .next (refused .insufficient s)) ∧
              ((∀ q ∈ f.comp, q.2 ≤ s.pieces q.1) → ∃ t, exec (.makeUp (.fields f)) s = .next t ∧
                (∀ d, d < 12 → t.pieces d = s.pieces d - compAt f.comp d) ∧
                t = { answered .ok [] s with
                  custody := { s.custody with table := s.custody.table ++ [{
                    tag := f.tag, cls := cls, state := .held, origin := s.own, value := s.cfg.valueOf f.comp,
                    disputed := false, handovers := 0, lastResult := .none, comp := some f.comp, counted := none,
                    handover := none, deferred := none, nesting := none, sack := none, refusal := none, recallEnds := none,
                    overdueAlarm := false }] },
                  position := { counts := t.position.counts, float := floatStateOf s.unit.role s.cfg t.pieces },
                  loop := { s.loop with queue := t.loop.queue }, service := t.service, attn := t.attn }))))))

/-- R12: the checks of DISMANTLE in their order, and the pieces of an accepted one back in the position. -/
def Obligations.DismantleReturnsThePieces : Prop :=
  ∀ (tag : Nat) (s : State), Ready s →
    (s.member.state = .unconfigured → exec (.dismantle (.fields tag)) s = .next (refused .badState s)) ∧
    (s.member.state ≠ .unconfigured →
      (s.container? tag = none → exec (.dismantle (.fields tag)) s = .next (refused .notFound s)) ∧
      (∀ c, s.container? tag = some c →
        (c.cls = .courierSack → exec (.dismantle (.fields tag)) s = .next (refused .classNotAllowed s)) ∧
        (c.cls ≠ .courierSack → c.state ≠ .held → exec (.dismantle (.fields tag)) s = .next (refused .badState s)) ∧
        (c.cls ≠ .courierSack → c.state = .held → c.disputed = true →
          exec (.dismantle (.fields tag)) s = .next (refused .disputed s)) ∧
        (c.cls ≠ .courierSack → c.state = .held → c.disputed = false →
          (c.origin ≠ s.own ∨ c.handovers ≠ 0 ∨ c.comp = none →
            exec (.dismantle (.fields tag)) s = .next (refused .badState s)) ∧
          (∀ k, c.origin = s.own → c.handovers = 0 → c.comp = some k →
            ((∃ q ∈ k, 65535 < s.pieces q.1 + q.2) → exec (.dismantle (.fields tag)) s = .next (refused .limit s)) ∧
            ((∀ q ∈ k, s.pieces q.1 + q.2 ≤ 65535) → ∃ t, exec (.dismantle (.fields tag)) s = .next t ∧
              (∀ d, d < 12 → t.pieces d = s.pieces d + compAt k d) ∧
              t = { answered .ok [] s with
                custody := { s.custody with table := s.custody.table.filter (fun d => d.tag ≠ tag) },
                position := { counts := t.position.counts, float := floatStateOf s.unit.role s.cfg t.pieces },
                loop := { s.loop with queue := t.loop.queue }, service := t.service, attn := t.attn })))))

/-- R13, R14: ACCEPT_VARIANCE makes the count the declaration and adds the variance to the difference total; the counted group
stays. -/
def Obligations.AcceptVarianceSettles : Prop :=
  ∀ (tag : Nat) (s : State), Ready s →
    (s.member.state = .unconfigured → exec (.acceptVariance (.fields tag)) s = .next (refused .badState s)) ∧
    (s.member.state ≠ .unconfigured → s.container? tag = none →
      exec (.acceptVariance (.fields tag)) s = .next (refused .notFound s)) ∧
    (∀ c, s.member.state ≠ .unconfigured → s.container? tag = some c → c.state ≠ .held ∨ c.disputed = false →
      exec (.acceptVariance (.fields tag)) s = .next (refused .badState s)) ∧
    (∀ c g, s.member.state ≠ .unconfigured → s.container? tag = some c → c.state = .held → c.disputed = true →
      c.counted = some g →
      ∃ t, exec (.acceptVariance (.fields tag)) s = .next t ∧
        t.custody.table = s.tableWith tag (fun c => { c with
          value := g.value, comp := if g.comp = some [] then none else g.comp, disputed := false }) ∧
        (let v := s.custody.totals.difference + ((g.value : Int) - (c.value : Int))
         t.custody.totals = s.custody.totals.put .difference (max (-140737488355327) (min 140737488355327 v)) ∧
         (t.custody.saturated = true ↔ s.custody.saturated = true ∨ 140737488355327 ≤ v ∨ v ≤ -140737488355327)) ∧
        t = { answered .ok [] s with
          custody := { s.custody with table := t.custody.table, totals := t.custody.totals, saturated := t.custody.saturated },
          loop := { s.loop with queue := t.loop.queue }, attn := t.attn })

/-- R16, R17, R18: DAY_CLOSE with its refusals, the Day Totals record, the opening total, the seven zeros and the mark. -/
def Obligations.DayCloseOpensTheNextDay : Prop :=
  ∀ s : State, Ready s →
    (s.member.state = .unconfigured ∨ s.count.state = .opened ∨ s.count.state = .running ∨ s.count.state = .paused →
      exec (.dayClose (.fields ())) s = .next (refused .badState s)) ∧
    (s.member.state ≠ .unconfigured → s.count.state = .idle ∨ s.count.state = .closed →
      ∃ t, exec (.dayClose (.fields ())) s = .next t ∧
        t.custody.day = { day := if 65535 ≤ s.custody.day.day then 1 else s.custody.day.day + 1, totals := s.custody.totals,
                          accountable := s.accountable, saturated := s.custody.saturated } ∧
        t.custody.totals = { opening := s.accountable, intake := 0, payout := 0, received := 0, released := 0,
                             admitted := 0, dispatched := 0, difference := 0 } ∧
        t.custody.saturated = false ∧ t.alarmSet .totalsSaturated = false ∧ t.balance = 0 ∧
        t = { answered .ok [] s with
          custody := { s.custody with day := t.custody.day, totals := t.custody.totals, saturated := false },
          loop := { s.loop with queue := t.loop.queue }, attn := t.attn })

/-- R15: the movements onto, off and within the books change the accountable total and the totals together, as long as no total
saturates; a container dismantled is worth its declared composition (R2), a member unnested at most its sack (R153). Every step,
whatever command it runs, keeps the identity of R15 under the laws of the books, the sacks (R153) and the compositions (R2). -/
def Obligations.MovementsKeepTheIdentity : Prop :=
  (∀ s t : State, step s = .next t → BooksInv s → PartsInv s → SackInv s → WorthInv s → IdentityInv s → IdentityInv t) ∧
  (∀ (s t : State), BooksInv s → PartsInv s → SackInv s → t.custody.saturated = false →
    (∀ tag, exec (.dispatch (.fields tag)) s = .next t → t.balance = s.balance) ∧
    (∀ tag, exec (.sackAbandon (.fields tag)) s = .next t → t.balance = s.balance) ∧
    (∀ sender target p, exec (.answerReceived sender target p) s = .next t → t.balance = s.balance) ∧
    (exec .haltRecord s = .next t → t.balance = s.balance) ∧
    (exec .batchIdleEnd s = .next t → t.balance = s.balance) ∧
    (exec (.countAbort (.fields ())) s = .next t → t.balance = s.balance) ∧
    (exec .noRecordTimeout s = .next t → t.balance = s.balance) ∧
    (Ready s → exec (.dayClose (.fields ())) s = .next t → Answers t .ok [] → t.balance = 0)) ∧
  (∀ (s t : State), BooksInv s → PartsInv s → t.custody.saturated = false →
    (∀ f, exec (.makeUp (.fields f)) s = .next t → t.balance = s.balance) ∧
    (∀ tag, (∀ c k, s.container? tag = some c → c.comp = some k → compProper k = true ∧ s.cfg.valueOf k = c.value) →
      exec (.dismantle (.fields tag)) s = .next t → t.balance = s.balance) ∧
    (∀ tag, exec (.acceptVariance (.fields tag)) s = .next t → t.balance = s.balance) ∧
    (∀ f, exec (.admitStock (.fields f)) s = .next t → t.balance = s.balance) ∧
    (∀ tag, exec (.sackOpen (.fields tag)) s = .next t → t.balance = s.balance) ∧
    (∀ f, exec (.nest (.fields f)) s = .next t → t.balance = s.balance) ∧
    (∀ tag, (∀ m n k, s.container? tag = some m → m.nesting = some n → s.container? n.parent = some k →
        m.value ≤ k.value ∧ k.state ≠ .nested) →
      exec (.unnest (.fields tag)) s = .next t → t.balance = s.balance) ∧
    (∀ tag, exec (.takeResolve (.fields tag)) s = .next t → t.balance = s.balance) ∧
    (∀ sender target p, exec (.takenReceived sender target p) s = .next t → t.balance = s.balance) ∧
    (∀ acknowledged, exec (.takenReport acknowledged) s = .next t → t.balance = s.balance) ∧
    (∀ n, exec (.endRecord n) s = .next t → t.balance = s.balance))

/-! ### Counting -/

/-- R91: the checks of COUNT_OPEN in their order, and the session an accepted one opens. That UNCONFIGURED is answered before a bad
body is the model's order, log 10. -/
def Obligations.CountOpenStartsASession : Prop :=
  ∀ (f : CountOpenFields) (m : CountMode) (s : State), Ready s → modeOfCode f.mode = some m →
    let opened : CountEngine :=
      { s.count with
        state := .opened, job := some { mode := m, tag := f.tag, expected := if f.expected = 0 then none else some f.expected },
        batchNumber := 0, batch := noBatch, fifo := [], stray := 0, result := none,
        noRecordEnds := if m = .intake ∨ m = .payout then none else some (s.clock + 6000) }
    let formed := f.expected ≤ 999999 ∧ (if m = .intake ∨ m = .payout then f.tag = 0 else f.tag ≠ 0)
    (s.member.state = .unconfigured → exec (.countOpen (.fields f)) s = .next (refused .badState s)) ∧
    (s.member.state ≠ .unconfigured → ¬ formed → exec (.countOpen (.fields f)) s = .next (refused .badLength s)) ∧
    (s.member.state ≠ .unconfigured → formed →
      s.count.state = .opened ∨ s.count.state = .running ∨ s.count.state = .paused →
      exec (.countOpen (.fields f)) s = .next (refused .busy s)) ∧
    (s.member.state ≠ .unconfigured → formed → s.count.state = .idle ∨ s.count.state = .closed →
      (m = .intake ∨ m = .payout → exec (.countOpen (.fields f)) s = .next { answered .ok [] s with count := opened }) ∧
      (m = .recount ∨ m = .unpack →
        (s.container? f.tag = none → exec (.countOpen (.fields f)) s = .next (refused .notFound s)) ∧
        (∀ c, s.container? f.tag = some c →
          (c.cls = .courierSack → exec (.countOpen (.fields f)) s = .next (refused .classNotAllowed s)) ∧
          (c.cls ≠ .courierSack → c.state ≠ .held → exec (.countOpen (.fields f)) s = .next (refused .badState s)) ∧
          (c.cls ≠ .courierSack → c.state = .held → exec (.countOpen (.fields f)) s = .next { answered .ok [] s with
            count := opened,
            custody := { s.custody with table := s.tableWith f.tag (fun c => { c with
              state := .counting, refusal := none }) } }))))

/-- R97: COUNT_CLOSE completes a standing session in OPEN or PAUSED, is refused with BUSY while one is RUNNING, and with BAD_STATE for
a RECOUNT or UNPACK session and in IDLE and CLOSED. R96, R98: COUNT_ABORT and the no-record timer close a session with nothing
applied, but for the batch of a RUNNING standing session, which is applied and marked INCOMPLETE; R84: they drop a deferred
offer.
That a timer command before its time changes nothing is the model's choice, log 1. -/
def Obligations.SessionsCloseWithoutABatch : Prop :=
  (∀ (s : State), Ready s →
    (∀ j, s.count.state = .opened ∨ s.count.state = .paused → s.count.job = some j → j.mode = .intake ∨ j.mode = .payout →
      ∃ t r, exec (.countClose (.fields ())) s = .next t ∧
        t = { answered .ok [] s with
          count := { s.count with state := .closed, batch := noBatch, fifo := [], noRecordEnds := none, result := some r } } ∧
        r.outcome = .completed ∧ (∀ q, s.count.result = some q → r = { q with outcome := .completed })) ∧
    (∀ j, s.count.state = .running → s.count.job = some j → j.mode = .intake ∨ j.mode = .payout →
      exec (.countClose (.fields ())) s = .next (refused .busy s)) ∧
    (∀ j, s.count.job = some j → j.mode = .recount ∨ j.mode = .unpack →
      exec (.countClose (.fields ())) s = .next (refused .badState s)) ∧
    (s.count.state = .idle ∨ s.count.state = .closed → exec (.countClose (.fields ())) s = .next (refused .badState s))) ∧
  (∀ (j : CountJob) (s : State), s.count.job = some j →
    let closed : CountEngine := { s.count with state := .closed, batch := noBatch, fifo := [], noRecordEnds := none }
    (Ready s → s.count.state = .idle ∨ s.count.state = .closed →
      exec (.countAbort (.fields ())) s = .next (refused .badState s)) ∧
    (Ready s → s.count.state.sessionOpen = true → j.mode = .recount ∨ j.mode = .unpack →
      ∀ c, s.container? j.tag = some c → c.state = .counting → c.deferred = none →
        ∃ t r, exec (.countAbort (.fields ())) s = .next t ∧ r.outcome = .aborted .request ∧
          t = { answered .ok [] s with
            count := { closed with result := some r },
            custody := { s.custody with table := s.tableWith j.tag (fun c =>
              if c.state = .counting then { c with state := .held } else c) } }) ∧
    (Ready s → s.count.state.sessionOpen = true → j.mode = .recount ∨ j.mode = .unpack →
      ∀ c, s.container? j.tag = some c → c.state = .counting → c.deferred.isSome = true →
        ∃ t, exec (.countAbort (.fields ())) s = .next t ∧ Answers t .ok [] ∧ t.count.state = .closed ∧
          Raised .handoverResult t ∧ t.attn.note = some { tag := j.tag, side := .giver, outcome := .refused .countBlocked } ∧
          t.container? j.tag = some { c with state := .held, deferred := none, lastResult := .refused .countBlocked }) ∧
    (Ready s → s.count.state = .opened ∨ s.count.state = .paused → j.mode = .intake ∨ j.mode = .payout →
      ∃ t r, exec (.countAbort (.fields ())) s = .next t ∧ r.outcome = .aborted .request ∧
        t = { answered .ok [] s with count := { closed with result := some r } }) ∧
    (Ready s → s.count.state = .running → j.mode = .intake ∨ j.mode = .payout →
      ∃ t r b, exec (.countAbort (.fields ())) s = .next t ∧ Answers t .ok [] ∧ Raised .countDone t ∧
        t.count = { closed with result := some r } ∧ r.outcome = .aborted .request ∧ r.batch = some b ∧
        b.incomplete = true ∧ b.cause = .abort ∧
        (∀ d, d < 12 → t.pieces d =
          if j.mode = .intake then min 65535 (s.pieces d + tallyAt s.cfg s.count.fifo false d)
          else s.pieces d - tallyAt s.cfg s.count.fifo false d)) ∧
    (∀ w c, s.unit.power = .running → s.count.noRecordEnds = some w → j.mode = .recount ∨ j.mode = .unpack →
      s.container? j.tag = some c → c.state = .counting →
      (s.clock < w → exec .noRecordTimeout s = .next s) ∧
      (w ≤ s.clock → c.deferred = none → ∃ t r, exec .noRecordTimeout s = .next t ∧ r.outcome = .aborted .noRecords ∧
        t = { s with
          count := { closed with result := some r }, attn := s.attn.with .countDone,
          custody := { s.custody with table := s.tableWith j.tag (fun c =>
            if c.state = .counting then { c with state := .held } else c) } }) ∧
      (w ≤ s.clock → c.deferred.isSome = true → ∃ t, exec .noRecordTimeout s = .next t ∧ t.count.state = .closed ∧
        t.attn.note = some { tag := j.tag, side := .giver, outcome := .refused .countBlocked })))

/-- R86 to R89, R92: what a count record does, intact, dropped, lost or stray, when the receiver discards, and COUNT_PROGRESS once per
batch. An intact record that fails FORMAT or SLOT is dropped like one that DROPPED_RECORD names.
That PARITY without a parity bit drops nothing is the model's reading, log 15; that RECORD_ABANDONED
needs no characters told is its choice, log 14; what a threshold lowered during a batch does is log 28. -/
def Obligations.RecordsJoinTheBatch : Prop :=
  ∀ (slot count : Nat) (suspect : Bool) (s : State), s.unit.power = .running →
    let begun := s.count.state = .running
    let strayed : CountEngine := { s.count with stray := min 65535 (s.count.stray + 1) }
    let possible (r : DropReason) : Prop := r = .parity → s.cfg.countLine.parity ≠ 0
    let number := if begun then s.count.batchNumber else min 65535 (s.count.batchNumber + 1)
    let timer := if begun then s.count.noRecordEnds else none
    (s.count.discarding = true →
      exec (.countRecord slot suspect count) s = .next s ∧ exec (.endRecord count) s = .next s ∧
      exec .haltRecord s = .next s ∧ (∀ r, exec (.droppedRecord r) s = .next s) ∧ exec .recordAbandoned s = .next s) ∧
    exec .countLineResynchronisation s = .next { s with count := { s.count with discarding := false } } ∧
    (s.count.discarding = false →
      (∀ r, ¬ possible r → exec (.droppedRecord r) s = .next s) ∧
      (count = 0 → exec (.countRecord slot suspect count) s = exec (.droppedRecord .format) s) ∧
      (count ≠ 0 → s.cfg.inUse slot = false →
        exec (.countRecord slot suspect count) s = exec (.droppedRecord .slot) s)) ∧
    (s.count.discarding = false → s.count.state.sessionOpen = false →
      (∀ r, possible r → exec (.droppedRecord r) s = .next { s with count := { strayed with discarding := true, assembled := [] } }) ∧
      (count ≠ 0 → s.cfg.inUse slot = true → exec (.countRecord slot suspect count) s = .next { s with count := strayed }) ∧
      exec .recordAbandoned s = .next { s with count := { strayed with assembled := [] } }) ∧
    (s.count.discarding = false → s.count.state.sessionOpen = true → count ≠ 0 → s.cfg.inUse slot = true →
      s.count.fifo.length < 32 → ∃ t, exec (.countRecord slot suspect count) s = .next t ∧
        t = { s with
          attn := t.attn,
          count := { s.count with
            state := .running, batchNumber := number, noRecordEnds := timer,
            fifo := s.count.fifo ++ [{ slot := slot, suspect := suspect, count := count }],
            batch := { s.count.batch with
              taken := s.count.batch.taken + 1, good := s.count.batch.good + if suspect = true then 0 else count,
              progressed := t.count.batch.progressed } } } ∧
        (s.count.batch.progressed = false → s.cfg.threshold ≠ 0 → s.count.batch.good < s.cfg.threshold →
          s.cfg.threshold ≤ t.count.batch.good →
          t.attn = s.attn.with .countProgress ∧ t.count.batch.progressed = true) ∧
        (s.count.batch.progressed = true ∨ s.cfg.threshold = 0 ∨ s.cfg.threshold ≤ s.count.batch.good ∨
            t.count.batch.good < s.cfg.threshold →
          t.attn = s.attn ∧ t.count.batch.progressed = s.count.batch.progressed)) ∧
    (s.count.discarding = false → s.count.state = .running → count ≠ 0 → s.cfg.inUse slot = true →
      32 ≤ s.count.fifo.length → exec (.countRecord slot suspect count) s = .next { s with count := { s.count with
        batch := { s.count.batch with
          lost := min 255 (s.count.batch.lost + 1), damage := s.count.batch.damage.add .overflow } } }) ∧
    (s.count.discarding = false → s.count.state.sessionOpen = true →
      (∀ r, possible r → exec (.droppedRecord r) s = .next { s with count := { s.count with
        state := .running, batchNumber := number, noRecordEnds := timer, discarding := true, assembled := [],
        batch := { s.count.batch with
          dropped := min 255 (s.count.batch.dropped + 1), damage := s.count.batch.damage.add (dropDamage r) } } }) ∧
      exec .recordAbandoned s = .next { s with count := { s.count with
        state := .running, batchNumber := number, noRecordEnds := timer, assembled := [],
        batch := { s.count.batch with
          dropped := min 255 (s.count.batch.dropped + 1), damage := s.count.batch.damage.add .framing } } })

/-- R93 to R95, R102, R116, R117: the end of an INTAKE or PAYOUT batch by END, HALT or idle applies its good pieces, clamped,
changes the totals, and clears the batch. -/
def Obligations.StandingBatchesAreApplied : Prop :=
  ∀ (n : Nat) (j : CountJob) (s : State), s.unit.power = .running → s.count.discarding = false → s.count.state = .running →
    s.count.job = some j → j.mode = .intake ∨ j.mode = .payout →
    let good (d : Nat) : Nat :=
      if s.cfg.inUse d = true then
        min 65535 ((s.count.fifo.filter (fun r => r.slot == d && !r.suspect)).map (·.count)).sum else 0
    let value : Nat := ((List.range 12).map (fun d => good d * s.cfg.face d)).sum
    let moved : Nat := ((List.range 12).map (fun d =>
      (if j.mode = .intake then s.pieces d + good d - 65535 else good d - s.pieces d) * s.cfg.face d)).sum
    let after (t : State) (st : CountState) (cause : EndCause) : Prop :=
      (∀ d, d < 12 → t.pieces d = if j.mode = .intake then min 65535 (s.pieces d + good d) else s.pieces d - good d) ∧
      (t.custody.saturated = false → t.custody.totals =
        if j.mode = .intake then { s.custody.totals with
          intake := s.custody.totals.intake + value, difference := s.custody.totals.difference - moved }
        else { s.custody.totals with
          payout := s.custody.totals.payout + value, difference := s.custody.totals.difference + moved }) ∧
      t.count.state = st ∧ t.count.fifo = [] ∧ t.count.batch = noBatch ∧ t.custody.table = s.custody.table ∧
      Raised .countDone t ∧ (∃ r b, t.count.result = some r ∧ r.batch = some b ∧ r.outcome = .opened ∧ b.cause = cause ∧
        (b.damage ≠ 0 → Raised .countDamaged t)) ∧
      ((∃ d, d < 12 ∧ s.cfg.inUse d = true ∧
          (if j.mode = .intake then 65535 < s.pieces d + good d else s.pieces d < good d)) →
        t.alarmSet .positionLimit = true)
    (∃ t, exec (.endRecord n) s = .next t ∧ after t .opened .endRecord) ∧
    (∃ t, exec .haltRecord s = .next t ∧ after t .paused .halt) ∧
    (∃ t, exec .batchIdleEnd s = .next t ∧ after t .opened .idle)

/-- R84, R93 to R95, R102 to R104, R107, R108, R112, R114: the end of a RECOUNT or UNPACK batch by END, HALT or idle closes the
session. The batch is undamaged when it has no damage reason from its records, every record's slot is in use, no tally passes 65535
and, for END, the pieces agree with the END figure modulo 4096; a HALT always damages it. Undamaged, it writes the counted
group, with variance and class by the tolerance in force, or moves the pieces to the position and the container off the books;
damaged, the container is HELD as before. A deferred offer is made after an undamaged, undisputed RECOUNT whose checks pass: its
frame joins the queue, or is dropped from a full one and ends not acknowledged (R38, R66); otherwise it is dropped with
COUNT_BLOCKED. -/
def Obligations.TargetBatchesAreApplied : Prop :=
  ∀ (n : Nat) (j : CountJob) (c : Container) (s : State), BooksInv s → s.unit.power = .running →
    s.count.discarding = false → s.count.assembled = [] → s.count.state = .running → s.count.job = some j →
    s.container? j.tag = some c → c.state = .counting → j.mode = .recount ∨ j.mode = .unpack →
    let total (suspect : Bool) (d : Nat) : Nat :=
      ((s.count.fifo.filter (fun r => r.slot == d && r.suspect == suspect)).map (·.count)).sum
    let good (d : Nat) : Nat := if s.cfg.inUse d = true then min 65535 (total false d) else 0
    let suspect (d : Nat) : Nat := if s.cfg.inUse d = true then min 65535 (total true d) else 0
    let pieces : Nat := ((List.range 12).map (fun d => good d + suspect d)).sum
    let value : Nat := ((List.range 12).map (fun d => good d * s.cfg.face d)).sum
    let sound : Prop := s.count.batch.damage = 0 ∧ (∀ r ∈ s.count.fifo, s.cfg.inUse r.slot = true) ∧
      ∀ d, d < 12 → s.cfg.inUse d = true → total false d ≤ 65535 ∧ total true d ≤ 65535
    let tolerance : Nat := max s.cfg.tolAbs (c.value * s.cfg.tolRel / 10000)
    let cls : VarianceClass := if value = c.value then .exact
      else if value ≤ c.value + tolerance ∧ c.value ≤ value + tolerance then .within
      else if c.value < value then .over else .short
    let outside : Prop := c.value + tolerance < value ∨ value + tolerance < c.value
    let group : CountedGroup :=
      { value := value, suspect := ((List.range 12).map suspect).sum, variance := (value : Int) - c.value, cls := cls,
        comp := some ((List.range 12).filterMap (fun d => if good d = 0 then none else some (d, good d))) }
    let counted (d : Container) : Container := { d with
      state := .held, counted := some group, disputed := decide (cls = .over ∨ cls = .short) }
    let closed (t : State) : Prop := t.count.state = .closed ∧ t.count.fifo = [] ∧ Raised .countDone t
    let recounted (t : State) : Prop := closed t ∧ t.custody = { s.custody with table := s.tableWith j.tag counted } ∧
      t.position = s.position ∧ (outside → Raised .variance t)
    let unpacked (t : State) : Prop := closed t ∧ t.custody.table = s.custody.table.filter (fun d => d.tag ≠ j.tag) ∧
      (∀ d, d < 12 → t.pieces d = min 65535 (s.pieces d + good d)) ∧ (outside → Raised .variance t) ∧
      (t.custody.saturated = false → t.custody.totals = s.totalsWith .difference ((value : Int) - c.value
        - ((List.range 12).map (fun d => (s.pieces d + good d - 65535) * s.cfg.face d)).sum))
    let spoiled (t : State) : Prop := closed t ∧ Raised .countDamaged t ∧ t.position = s.position ∧
      t.custody = { s.custody with table := s.tableWith j.tag (fun d => { d with state := .held }) }
    let blocked (t : State) : Prop := Raised .handoverResult t ∧
      t.attn.note = some { tag := j.tag, side := .giver, outcome := .refused .countBlocked }
    (c.deferred = none →
      (sound → pieces % 4096 = n → ∃ t, exec (.endRecord n) s = .next t ∧
        (j.mode = .recount → recounted t) ∧ (j.mode = .unpack → unpacked t)) ∧
      (sound → ∃ t, exec .batchIdleEnd s = .next t ∧ (j.mode = .recount → recounted t) ∧ (j.mode = .unpack → unpacked t)) ∧
      (¬ (sound ∧ pieces % 4096 = n) → ∃ t, exec (.endRecord n) s = .next t ∧ spoiled t) ∧
      (¬ sound → ∃ t, exec .batchIdleEnd s = .next t ∧ spoiled t) ∧
      (∃ t, exec .haltRecord s = .next t ∧ spoiled t)) ∧
    (∀ d, c.deferred = some d →
      let p := s.peer d.peer
      let passes := joiningOrJoined s.member.state = true ∧ (p.state = .live ∨ p.state = .quiet) ∧ p.role.isSome = true ∧
        routed s.unit.role p.role c.cls = true
      let dropped (g : Container) : Container := { g with deferred := none, lastResult := .refused .countBlocked }
      let advanced (t : State) : Prop := t.handoverCounter = if 65535 ≤ s.handoverCounter then 1 else s.handoverCounter + 1
      let ends (i : Instr) (undamaged : Prop) : Prop :=
        (∀ role, j.mode = .recount → undamaged → ¬ outside → passes → s.unit.role = some role →
          (s.loop.queue.length < 12 → ∃ t, exec i s = .next t ∧ closed t ∧ advanced t ∧
            t.container? j.tag = some { counted c with
              state := .offering, deferred := none, handovers := min 255 (c.handovers + 1), refusal := none,
              handover := some { peer := d.peer, number := s.handoverCounter, purpose := d.purpose,
                                 deadline := s.clock + s.cfg.transitSteps c.cls } } ∧
            t.loop.queue = s.queueWith false d.peer (.offer {
              role := role, number := s.handoverCounter, tag := c.tag, cls := c.cls, value := c.value, counted := some value,
              origin := c.origin, purpose := d.purpose, remaining := 0, comp := c.comp })) ∧
          (12 ≤ s.loop.queue.length → ∃ t, exec i s = .next t ∧ closed t ∧ advanced t ∧ t.loop = s.loop ∧
            Raised .loopFrameDropped t ∧ Raised .handoverResult t ∧
            t.attn.note = some { tag := j.tag, side := .giver, outcome := .noAnswer } ∧
            t.container? j.tag = some { counted c with
              handover := none, deferred := none, handovers := min 255 (c.handovers + 1), lastResult := .noAnswer,
              refusal := some { receiver := d.peer, number := s.handoverCounter, closes := s.clock + 500 } })) ∧
        (j.mode = .recount → undamaged → outside ∨ ¬ passes → ∃ t, exec i s = .next t ∧ closed t ∧ blocked t ∧
          t.container? j.tag = some (dropped (counted c))) ∧
        (j.mode = .unpack → undamaged → ∃ t, exec i s = .next t ∧ closed t ∧ blocked t ∧ t.container? j.tag = none) ∧
        (¬ undamaged → ∃ t, exec i s = .next t ∧ closed t ∧ blocked t ∧
          t.container? j.tag = some (dropped { c with state := .held }))
      ends .batchIdleEnd sound ∧ ends (.endRecord n) (sound ∧ pieces % 4096 = n) ∧ ends .haltRecord False)

/-! ### Service requests and claims -/

/-- R132, R133: the checks of RAISE_NEED and the request it raises. R135: CANCEL_NEED. R136, R139: expiry, escalation and claim lapse
act when the age reaches its limit.
That a timer command before its time changes nothing is the model's choice, log 1, and that CANCEL_NEED in UNCONFIGURED is BAD_STATE
for any id its order, log 10. -/
def Obligations.RequestsAreRaisedAndEnd : Prop :=
  (∀ (k : NeedKind) (u : Urgency) (c : Composition) (s : State), PortRoom s →
    let body : Body NeedFields := .fields { kind := needCode k, urgency := urgencyCode u, comp := c }
    (compRequired c = false ∨ (∃ q ∈ c, s.cfg.inUse q.1 = false) →
      exec (.raiseNeed body) s = .next (refused .badLength s)) ∧
    (compRequired c = true → (∀ q ∈ c, s.cfg.inUse q.1 = true) →
      (raisesNeed s.unit.role k = false → exec (.raiseNeed body) s = .next (refused .roleNotAllowed s)) ∧
      (raisesNeed s.unit.role k = true → 4 ≤ s.service.requests.length →
        exec (.raiseNeed body) s = .next (refused .tableFull s)) ∧
      (raisesNeed s.unit.role k = true → s.service.requests.length < 4 →
        ∃ id t, exec (.raiseNeed body) s = .next t ∧ (∀ r ∈ s.service.requests, r.id ≠ id) ∧
          (1 ≤ s.service.nextId → s.service.nextId ≤ 255 → 1 ≤ id ∧ id ≤ 255) ∧
          ((∀ r ∈ s.service.requests, r.id ≠ s.service.nextId) → id = s.service.nextId) ∧
          t = { answered .ok (numBytes 1 id) s with
            service := { s.service with
              requests := s.service.requests ++ [{
                id := id, kind := k, comp := c, value := s.cfg.valueOf c, urgency := u, phase := .opened, reopened := false,
                raisedAt := s.clock, openAge := 0 }],
              nextId := if 255 ≤ id then 1 else id + 1 },
            loop := { s.loop with
              queue := s.queueWith true (if k = .change then 59 else 58)
                (.need { id := id, kind := k, urgency := u, reopened := false, value := s.cfg.valueOf c, comp := c }) },
            attn := { s.attn.with .needRaised with returned := 0 } })) ∧
    (∀ id, s.request? id = none → exec (.cancelNeed (.fields id)) s = .next (refused .notFound s)) ∧
    (∀ id r, s.request? id = some r → (∃ n a g, r.phase = .serving n a g) →
      exec (.cancelNeed (.fields id)) s = .next (refused .badState s)) ∧
    (∀ id r, s.request? id = some r → (∀ n a g, r.phase ≠ .serving n a g) →
      exec (.cancelNeed (.fields id)) s = .next { answered .ok [] s with
        service := { s.service with requests := s.service.requests.filter (fun q => q.id ≠ id) },
        loop := { s.loop with
          queue := insertFrame { target := needTarget r.kind, port := true, onLine := false,
                                 payload := .withdraw { id := id, kind := r.kind, reason := .cancelled } }
            (s.loop.queue.filter (fun f => !isWaitingNeed id f)) } })) ∧
  (∀ (id : Nat) (r : OwnRequest) (s : State), s.unit.power = .running → s.request? id = some r →
    (r.phase = .opened → s.cfg.requestLimit * 6000 ≤ r.openAge →
      ∃ t, exec (.requestExpiry id) s = .next t ∧ Raised .requestExpired t ∧
        t = { s with
          service := { s.service with requests := s.service.requests.filter (fun q => q.id ≠ id) },
          loop := { s.loop with queue := t.loop.queue }, attn := t.attn }) ∧
    (r.phase ≠ .opened ∨ r.openAge < s.cfg.requestLimit * 6000 → exec (.requestExpiry id) s = .next s) ∧
    (r.phase = .opened → r.urgency = .normal → s.cfg.escalation ≠ 0 → s.cfg.escalation * 6000 ≤ r.openAge →
      ∃ t, exec (.escalation id) s = .next t ∧
        (joiningOrJoined s.member.state = true → s.loop.queue.length < 12 →
          ∃ f ∈ t.loop.queue, isWaitingNeed id f = true) ∧
        t = { s with
          service := { s.service with requests := s.service.requests.map (fun q =>
            if q.id = id then { q with urgency := .urgent } else q) },
          loop := { s.loop with queue := t.loop.queue }, attn := t.attn }) ∧
    (r.phase ≠ .opened ∨ r.urgency = .urgent ∨ s.cfg.escalation = 0 ∨ r.openAge < s.cfg.escalation * 6000 →
      exec (.escalation id) s = .next s) ∧
    (∀ n a, r.phase = .claimed n a →
      (s.cfg.claimLimit * 6000 ≤ a → ∃ t, exec (.claimLapse id) s = .next t ∧ Raised .claimLapsed t ∧
        t = { s with
          service := { s.service with requests := s.service.requests.map (fun q =>
            if q.id = id then { q with phase := .opened, openAge := 0, reopened := true } else q) },
          loop := { s.loop with queue := t.loop.queue }, attn := t.attn }) ∧
      (a < s.cfg.claimLimit * 6000 → exec (.claimLapse id) s = .next s)) ∧
    ((∀ n a, r.phase ≠ .claimed n a) → exec (.claimLapse id) s = .next s))

/-- R142, R143, R145: CLAIM_NEXT takes the first eligible entry in list order, CLAIM any LISTED one; the report of the CLAIM makes the
entry WON or removes it. R138: at the requester, a CLAIM that fits an OPEN request is awarded, with the AWARD queued; any other
is not acted on. That a NEED which was on the line when the CLAIM was heard waits again, and is removed too, is the model's
reading, log 20. -/
def Obligations.ClaimsAreMadeAndAwarded : Prop :=
  (∀ (s : State) (role : Role),
    let claimedEntry (e : ServiceEntry) : State :=
      { answered .started (numBytes 1 e.requester ++ numBytes 1 e.id) s with
        service := { s.service with list := s.service.list.map (fun d =>
          if d.requester = e.requester ∧ d.id = e.id then { d with state := .claiming } else d) },
        loop := { s.loop with queue := s.queueWith true e.requester (.claim { id := e.id, kind := e.kind, role := role }) } }
    (PortRoom s → s.unit.role = some role → role ≠ .till →
      (4 ≤ (s.service.list.filter (fun e => e.state ≠ .listed)).length →
        exec (.claimNext (.fields ())) s = .next (refused .limit s)) ∧
      ((s.service.list.filter (fun e => e.state ≠ .listed)).length < 4 →
        ((∀ e ∈ s.service.list, s.eligible e = false) → exec (.claimNext (.fields ())) s = .next (refused .notFound s)) ∧
        (∀ before e after, s.service.list.filter (·.urgency = .urgent) ++ s.service.list.filter (·.urgency = .normal)
            = before ++ [e] ++ after → (∀ d ∈ before, s.eligible d = false) → s.eligible e = true →
          exec (.claimNext (.fields ())) s = .next (claimedEntry e)) ∧
        (∀ n id e, 1 ≤ n → n ≤ 56 → n ≠ s.own → 1 ≤ id → id ≤ 255 → s.service? n id = some e →
          (e.state = .listed → exec (.claim (.fields { requester := n, id := id })) s = .next (claimedEntry e)) ∧
          (e.state ≠ .listed →
            exec (.claim (.fields { requester := n, id := id })) s = .next (refused .badState s))))) ∧
    (PortRoom s → s.unit.role = some .till → exec (.claimNext (.fields ())) s = .next (refused .roleNotAllowed s)) ∧
    (∀ n p e, OnLine s n (.claim p) → s.service? n p.id = some e →
      (e.state = .claiming →
        exec (.claimReport true) s = .next { s with
          service := { s.service with list := s.service.list.map (fun d =>
            if d.requester = n ∧ d.id = p.id then { d with state := .won } else d) },
          loop := s.loop.ended, attn := s.attn.with .claimWon } ∧
        exec (.claimReport false) s = .next { s with
          service := { s.service with list := s.service.list.filter (fun d => ¬ (d.requester = n ∧ d.id = p.id)) },
          loop := s.loop.ended, attn := s.attn.with .claimLost }) ∧
      (e.state ≠ .claiming → ∀ a, exec (.claimReport a) s = .next { s with loop := s.loop.ended }))) ∧
  (∀ (sender target : Nat) (p : ClaimPayload) (s : State), Hears s sender target (.claim p) →
    (∀ r, s.request? p.id = some r → r.phase = .opened → r.kind = p.kind → servesNeed (some p.role) p.kind = true →
      (s.loop.queue.filter (fun f => !isWaitingNeed p.id { f with onLine := false })).length < 12 →
      exec (.claimReceived sender target p) s = .next { s.heard sender true with
        service := { s.service with requests := s.service.requests.map (fun q =>
          if q.id = p.id then { q with phase := .claimed sender 0 } else q) },
        loop := { (s.heard sender true).loop with
          queue := insertFrame { target := needTarget r.kind, port := false, onLine := false,
                                 payload := .award { id := r.id, claimant := sender, kind := r.kind, urgency := r.urgency,
                                                     value := r.value, comp := r.comp } }
            (s.loop.yielded.queue.filter (fun f => !isWaitingNeed p.id f)) },
        attn := s.attn.with .claimAwarded }) ∧
    ((∀ r, s.request? p.id = some r →
        r.phase ≠ .opened ∨ r.kind ≠ p.kind ∨ servesNeed (some p.role) p.kind = false) →
      exec (.claimReceived sender target p) s = .next (s.heard sender false)))

/-- R143, R144: a NEED lists a request, brings its entry up to date, turns a WON one back, or meets a full list; the backup delay makes
a LISTED entry of the backup range eligible, once. R146: AWARD and WITHDRAW act on the entry of their sender.
The mark listedRaised is the model's own (log 6), and so is the AWARD of a LISTED entry beyond four commitments (log 16);
that a NEED or AWARD without a pair, or with numbers out of range, acts like any other is its reading (log 19). -/
def Obligations.ServiceListFollowsTheFrames : Prop :=
  (∀ (sender target : Nat) (p : NeedPayload) (s : State), Hears s sender target (.need p) →
    let fresh : ServiceEntry :=
      { requester := sender, id := p.id, kind := p.kind, urgency := p.urgency, value := p.value, comp := p.comp,
        reopened := p.reopened, heard := s.clock, state := .listed, listedRaised := false }
    let updated (d : ServiceEntry) : ServiceEntry :=
      { d with kind := p.kind, urgency := p.urgency, value := p.value, comp := p.comp, reopened := p.reopened }
    (servesNeed s.unit.role p.kind = false → exec (.needReceived sender target p) s = .next (s.heard sender false)) ∧
    (servesNeed s.unit.role p.kind = true →
      (∀ e, s.service? sender p.id = some e → e.state ≠ .won →
        exec (.needReceived sender target p) s = .next { s.heard sender true with
          service := { s.service with list := s.service.list.map (fun d =>
            if d.requester = sender ∧ d.id = p.id then updated d else d) } }) ∧
      (∀ e, s.service? sender p.id = some e → e.state = .won →
        ∃ t b, exec (.needReceived sender target p) s = .next t ∧ Raised .claimLapsed t ∧
          (s.eligible { updated e with state := .listed } = true → Raised .serviceListed t) ∧
          t = { s.heard sender true with
            service := { s.service with list := s.service.list.map (fun d =>
              if d.requester = sender ∧ d.id = p.id then { updated e with state := .listed, listedRaised := b } else d) },
            attn := t.attn }) ∧
      (s.service? sender p.id = none → s.service.list.length < 16 →
        exec (.needReceived sender target p) s = .next { s.heard sender true with
          service := { s.service with list := s.service.list ++ [{ fresh with listedRaised := s.eligible fresh }] },
          attn := if s.eligible fresh = true then s.attn.with .serviceListed else s.attn }) ∧
      (s.service? sender p.id = none → 16 ≤ s.service.list.length →
        (p.urgency = .normal ∨ (∀ e ∈ s.service.list, e.state = .listed → e.urgency = .urgent) →
          exec (.needReceived sender target p) s = .next { s.heard sender false with
            attn := s.attn.with .serviceListFull }) ∧
        (∀ before e after, p.urgency = .urgent → s.service.list = before ++ [e] ++ after → e.state = .listed →
          e.urgency = .normal → (∀ d ∈ after, d.state = .listed → d.urgency = .urgent) →
          ∃ t, exec (.needReceived sender target p) s = .next t ∧ Raised .serviceListFull t ∧
            t.service.list = s.service.list.filter (fun d => ¬ (d.requester = e.requester ∧ d.id = e.id)) ++
              [{ fresh with listedRaised := s.eligible fresh }] ∧
            t = { s.heard sender true with service := { s.service with list := t.service.list }, attn := t.attn })))) ∧
  (∀ (s : State) (n : Nat),
    (∀ id e, s.unit.power = .running → s.service? n id = some e →
      (s.eligible e = true → inPrimary s.cfg.cover n = false → e.listedRaised = false →
        exec (.backupEligible n id) s = .next { s with
          service := { s.service with list := s.service.list.map (fun d =>
            if d.requester = n ∧ d.id = id then { d with listedRaised := true } else d) },
          attn := s.attn.with .serviceListed }) ∧
      (s.eligible e = false ∨ inPrimary s.cfg.cover n = true ∨ e.listedRaised = true →
        exec (.backupEligible n id) s = .next s)) ∧
    (∀ target (p : AwardPayload), Hears s n target (.award p) →
      let without := s.service.list.filter (fun d => ¬ (d.requester = n ∧ d.id = p.id))
      (∀ e, s.service? n p.id = some e → p.claimant ≠ s.own →
        (e.state = .listed → exec (.awardReceived n target p) s = .next { s.heard n true with
          service := { s.service with list := without } }) ∧
        (e.state = .won → exec (.awardReceived n target p) s = .next { s.heard n true with
          service := { s.service with list := without }, attn := s.attn.with .claimLapsed }) ∧
        (e.state = .claiming → exec (.awardReceived n target p) s = .next (s.heard n false))) ∧
      (∀ e, s.service? n p.id = some e → p.claimant = s.own →
        (e.state ≠ .won → exec (.awardReceived n target p) s = .next { s.heard n true with
          service := { s.service with list := s.service.list.map (fun d => if d.requester = n ∧ d.id = p.id then
            { d with kind := p.kind, urgency := p.urgency, value := p.value, comp := p.comp, state := .won,
                     listedRaised := false } else d) },
          attn := s.attn.with .claimWon }) ∧
        (e.state = .won → exec (.awardReceived n target p) s = .next (s.heard n false))) ∧
      (s.service? n p.id = none → p.claimant = s.own → s.service.list.length < 16 →
        (s.service.list.filter (fun e => e.state ≠ .listed)).length < 4 →
        ∃ t e, exec (.awardReceived n target p) s = .next t ∧ e.requester = n ∧ e.id = p.id ∧ e.kind = p.kind ∧
          e.urgency = p.urgency ∧ e.value = p.value ∧ e.comp = p.comp ∧ e.heard = s.clock ∧ e.state = .won ∧
          t = { s.heard n true with
            service := { s.service with list := s.service.list ++ [e] }, attn := s.attn.with .claimWon }) ∧
      (s.service? n p.id = none → p.claimant ≠ s.own ∨ 16 ≤ s.service.list.length ∨
        4 ≤ (s.service.list.filter (fun e => e.state ≠ .listed)).length →
        exec (.awardReceived n target p) s = .next (s.heard n false))) ∧
    (∀ target (p : WithdrawPayload), Hears s n target (.withdraw p) →
      (s.service? n p.id = none → exec (.withdrawReceived n target p) s = .next (s.heard n false)) ∧
      (∀ e, s.service? n p.id = some e → exec (.withdrawReceived n target p) s = .next { s.heard n true with
        service := { s.service with list := s.service.list.filter (fun d => ¬ (d.requester = n ∧ d.id = p.id)) },
        attn := if e.state = .won ∧ p.reason ≠ .served then s.attn.with .claimLapsed else s.attn })))

/-! ### The safe station -/

/-- R149 to R151: the courier window opens with the next number, is extended within it, and closes by WINDOW_CLOSE or expiry. R152,
R154: ADMIT books change stock in an OPEN window; SACK_OPEN appends an empty sack.
That a timer command before its time changes nothing is the model's choice, log 1. -/
def Obligations.WindowAdmitAndSackOpen : Prop :=
  (∀ (minutes : Nat) (s : State),
    let steps := max 1 (min 60 minutes) * 6000
    (Ready s → s.member.state = .unconfigured ∨ s.member.state = .stopped →
      exec (.windowOpen (.fields minutes)) s = .next (refused .badState s)) ∧
    (Ready s → s.member.state ≠ .unconfigured → s.member.state ≠ .stopped →
      (s.unit.role ≠ some .safe → exec (.windowOpen (.fields minutes)) s = .next (refused .roleNotAllowed s)) ∧
      (s.unit.role = some .safe → s.safe.window = none →
        let number := if 65535 ≤ s.safe.windowNumber then 1 else s.safe.windowNumber + 1
        exec (.windowOpen (.fields minutes)) s = .next { answered .ok (numBytes 2 number) s with
          safe := { s.safe with window := some { opened := s.clock, ends := s.clock + steps }, windowNumber := number } }) ∧
      (∀ w, s.unit.role = some .safe → s.safe.window = some w →
        exec (.windowOpen (.fields minutes)) s = .next { answered .ok (numBytes 2 s.safe.windowNumber) s with
          safe := { s.safe with window := some { opened := w.opened, ends := s.clock + steps } } })) ∧
    (Ready s → s.member.state = .unconfigured → exec (.windowClose (.fields ())) s = .next (refused .badState s)) ∧
    (Ready s → s.member.state ≠ .unconfigured →
      (s.unit.role ≠ some .safe → exec (.windowClose (.fields ())) s = .next (refused .roleNotAllowed s)) ∧
      (s.unit.role = some .safe → s.safe.window = none →
        exec (.windowClose (.fields ())) s = .next (refused .badState s)) ∧
      (∀ w, s.unit.role = some .safe → s.safe.window = some w →
        exec (.windowClose (.fields ())) s = .next { answered .ok [] s with
          safe := { s.safe with window := none }, attn := { s.attn.with .windowClosed with returned := 0 } })) ∧
    (∀ w, s.unit.power = .running → s.safe.window = some w →
      (w.ends ≤ s.clock → exec .windowExpiry s = .next { s with
        safe := { s.safe with window := none }, attn := s.attn.with .windowClosed }) ∧
      (s.clock < w.ends → exec .windowExpiry s = .next s))) ∧
  (∀ s : State, Ready s → s.member.state ≠ .unconfigured → s.unit.role = some .safe →
    (∀ f : AdmitFields, f.tag ≠ 0 → f.value < 2 ^ 40 →
      f.comp = [] ∨ (compRequired f.comp = true ∧ (∀ q ∈ f.comp, s.cfg.inUse q.1 = true) ∧ s.cfg.valueOf f.comp = f.value) →
      (f.cls ≤ 4 → f.cls ≠ 3 → exec (.admitStock (.fields f)) s = .next (refused .classNotAllowed s)) ∧
      (f.cls = 3 → s.safe.window = none → exec (.admitStock (.fields f)) s = .next (refused .windowClosed s)) ∧
      (f.cls = 3 → s.safe.window.isSome = true → s.tagKnown f.tag = true →
        exec (.admitStock (.fields f)) s = .next (refused .duplicateTag s)) ∧
      (f.cls = 3 → s.safe.window.isSome = true → s.tagKnown f.tag = false →
        48 ≤ s.custody.table.length + s.reserved → exec (.admitStock (.fields f)) s = .next (refused .tableFull s)) ∧
      (f.cls = 3 → s.safe.window.isSome = true → s.tagKnown f.tag = false →
        s.custody.table.length + s.reserved < 48 → saturates (s.custody.totals.admitted + f.value) = false →
        exec (.admitStock (.fields f)) s = .next { answered .ok [] s with
          custody := { s.custody with
            totals := s.totalsWith .admitted f.value,
            table := s.custody.table ++ [{
              tag := f.tag, cls := .changeStock, state := .held, origin := s.own, value := f.value, disputed := false,
              handovers := 0, lastResult := .none, comp := if f.comp = [] then none else some f.comp, counted := none,
              handover := none, deferred := none, nesting := none, sack := none, refusal := none, recallEnds := none,
              overdueAlarm := false }] } })) ∧
    (∀ tag, tag ≠ 0 →
      (s.tagKnown tag = true → exec (.sackOpen (.fields tag)) s = .next (refused .duplicateTag s)) ∧
      (s.tagKnown tag = false → 48 ≤ s.custody.table.length + s.reserved →
        exec (.sackOpen (.fields tag)) s = .next (refused .tableFull s)) ∧
      (s.tagKnown tag = false → s.custody.table.length + s.reserved < 48 →
        exec (.sackOpen (.fields tag)) s = .next { answered .ok [] s with
          custody := { s.custody with
            table := s.custody.table ++ [{
              tag := tag, cls := .courierSack, state := .held, origin := s.own, value := 0, disputed := false,
              handovers := 0, lastResult := .none, comp := none, counted := none, handover := none, deferred := none,
              nesting := none, sack := some { state := .assembling, first := none, count := 0, check := none },
              refusal := none, recallEnds := none, overdueAlarm := false }] } })))

/-- R153, R156, R157: NEST appends the member to the chain and UNNEST takes it out, with count and value. -/
def Obligations.NestAndUnnestKeepTheChain : Prop :=
  ∀ (k : Container) (m : Container) (q : SackFields) (l : List Container) (s : State), BooksInv s → Ready s →
    s.member.state ≠ .unconfigured → s.unit.role = some .safe → k ∈ s.custody.table → m ∈ s.custody.table →
    k.cls = .courierSack → k.sack = some q → q.state = .assembling → s.members q = l → l.length = q.count →
    (l.map (·.tag)).Nodup → (q.count = 0 → q.first = none) → k.tag ∉ l.map (·.tag) →
    (∀ c ∈ l, c.nesting.isSome = true) → (∀ c, l.getLast? = some c → c.nextMember = none) →
    (m.cls = .depositBag → m.state = .held → m.disputed = false → m.counted.isSome = true ∨ s.cfg.uncounted = true →
      m.tag ∉ l.map (·.tag) → q.count < 24 → k.value + m.value < 2 ^ 40 →
      ∃ t q' k' m', exec (.nest (.fields { sack := k.tag, member := m.tag })) s = .next t ∧
        Answers t .ok (numBytes 1 (q.count + 1) ++ numBytes 5 (k.value + m.value)) ∧
        t.container? k.tag = some k' ∧ k'.sack = some q' ∧ k'.value = k.value + m.value ∧ q'.count = q.count + 1 ∧
        q'.state = .assembling ∧ t.container? m.tag = some m' ∧ m'.state = .nested ∧
        m'.nesting = some { parent := k.tag, next := none } ∧
        (t.members q').map (·.tag) = l.map (·.tag) ++ [m.tag] ∧
        t.custody.table.map (·.tag) = s.custody.table.map (·.tag)) ∧
    (∀ before after n, m.state = .nested → m.nesting = some n → n.parent = k.tag →
      l.map (·.tag) = before ++ [m.tag] ++ after →
      ∃ t q' k' m', exec (.unnest (.fields m.tag)) s = .next t ∧
        Answers t .ok (numBytes 1 (q.count - 1) ++ numBytes 5 (k.value - m.value)) ∧
        t.container? k.tag = some k' ∧ k'.sack = some q' ∧ k'.value = k.value - m.value ∧ q'.count = q.count - 1 ∧
        t.container? m.tag = some m' ∧ m'.state = .held ∧ m'.nesting = none ∧
        (t.members q').map (·.tag) = before ++ after ∧
        t.custody.table.map (·.tag) = s.custody.table.map (·.tag))

/-- R158, R160 to R162: SACK_CLOSE stores the manifest check, SACK_ABANDON frees the members and removes the sack, DISPATCH removes
both and records the dispatch. That only chain members in NESTED are freed or leave is the model's reading, log 24,
and so are the 4 bytes of the manifest check in the answer, log 9. -/
def Obligations.SacksCloseAndLeave : Prop :=
  ∀ (k : Container) (q : SackFields) (s : State), Ready s → s.member.state ≠ .unconfigured → s.unit.role = some .safe →
    s.container? k.tag = some k → k.cls = .courierSack → k.sack = some q →
    let l := s.members q
    let check := ((l.zipIdx 1).map (fun c => c.2 * (c.1.tag % 1000000))).sum + (l.map (·.value)).sum
    let isMember (c : Container) : Bool := l.any (fun d => d.tag == c.tag) && c.state == .nested
    (q.state = .assembling → q.count ≠ 0 →
      exec (.sackClose (.fields k.tag)) s = .next {
        answered .ok (numBytes 5 k.value ++ numBytes 1 q.count ++ numBytes 4 (check % 10000000)) s with
        custody := { s.custody with table := s.tableWith k.tag (fun c => { c with
          sack := some { q with state := .closed, check := some (check % 10000000) } }) } }) ∧
    (q.state ≠ .assembling ∨ q.count = 0 → exec (.sackClose (.fields k.tag)) s = .next (refused .badState s)) ∧
    exec (.sackAbandon (.fields k.tag)) s = .next { answered .ok (l.flatMap (fun c => numBytes 4 c.tag)) s with
      custody := { s.custody with table := (s.custody.table.map (fun c =>
        if isMember c = true then { c with state := .held, nesting := none } else c)).filter (fun c => c.tag ≠ k.tag) } } ∧
    (s.safe.window = none → exec (.dispatch (.fields k.tag)) s = .next (refused .windowClosed s)) ∧
    (s.safe.window.isSome = true → q.state ≠ .closed → exec (.dispatch (.fields k.tag)) s = .next (refused .badState s)) ∧
    (∀ x, s.safe.window.isSome = true → q.state = .closed → q.check = some x →
      saturates (s.custody.totals.dispatched + k.value) = false →
      exec (.dispatch (.fields k.tag)) s = .next { answered .ok [] s with
        custody := { s.custody with
          table := s.custody.table.filter (fun c => decide (c.tag ≠ k.tag) && !isMember c),
          totals := s.totalsWith .dispatched k.value },
        safe := { s.safe with dispatches := keepLast 8 (s.safe.dispatches ++ [{
          tag := k.tag, value := k.value, count := q.count, check := x, window := s.safe.windowNumber }]) },
        attn := { s.attn.with .dispatched with returned := 0 } })

/-- R159: SACK_REOPEN, with the checks it shares with SACK_CLOSE, removes the manifest check of a CLOSED sack. -/
def Obligations.SackReopenRemovesTheCheck : Prop :=
  ∀ (tag : Nat) (s : State), Ready s →
    (s.member.state = .unconfigured → exec (.sackReopen (.fields tag)) s = .next (refused .badState s)) ∧
    (s.member.state ≠ .unconfigured → s.unit.role ≠ some .safe →
      exec (.sackReopen (.fields tag)) s = .next (refused .roleNotAllowed s)) ∧
    (s.member.state ≠ .unconfigured → s.unit.role = some .safe →
      (s.container? tag = none → exec (.sackReopen (.fields tag)) s = .next (refused .notFound s)) ∧
      (∀ c, s.container? tag = some c →
        (c.cls ≠ .courierSack → exec (.sackReopen (.fields tag)) s = .next (refused .classNotAllowed s)) ∧
        (∀ k, c.cls = .courierSack → c.sack = some k →
          (k.state ≠ .closed → exec (.sackReopen (.fields tag)) s = .next (refused .badState s)) ∧
          (k.state = .closed → exec (.sackReopen (.fields tag)) s = .next { answered .ok [] s with
            custody := { s.custody with table := s.tableWith tag (fun c => { c with
              sack := some { state := .assembling, first := k.first, count := k.count, check := none } }) } }))))

/-! ### Alarms, door, lamps -/

/-- R171, R172: ALARM_CLEAR with its refusals, the alarm clear, and the port frame in ON_LOOP. -/
def Obligations.AlarmClearClearsEventAlarms : Prop :=
  ∀ s : State, Ready s →
    (∀ code, code = 0 ∨ 7 < code → exec (.alarmClear (.fields code)) s = .next (refused .badLength s)) ∧
    (∀ k, k = .overdue ∨ k = .unresolved ∨ k = .totalsSaturated ∨ s.alarmSet k = false →
      exec (.alarmClear (.fields (alarmCode k))) s = .next (refused .badState s)) ∧
    (∀ k, k ≠ .overdue → k ≠ .unresolved → k ≠ .totalsSaturated → s.alarmSet k = true →
      (joiningOrJoined s.member.state = true → 8 ≤ portFrames s.loop.queue ∨ 12 ≤ s.loop.queue.length →
        exec (.alarmClear (.fields (alarmCode k))) s = .next (refused .loopQueueFull s)) ∧
      (joiningOrJoined s.member.state = false ∨ (portFrames s.loop.queue < 8 ∧ s.loop.queue.length < 12) →
        ∃ t, exec (.alarmClear (.fields (alarmCode k))) s = .next t ∧ t.alarmSet k = false ∧
          (∀ m, m ≠ k → t.alarmSet m = s.alarmSet m) ∧
          t = { answered .ok [] s with
            attn := { t.attn with reasons := s.attn.reasons, mask := s.attn.mask, note := s.attn.note, returned := 0 },
            loop := { s.loop with
              queue := if s.member.state = .onLoop then s.queueWith true 0
                (.alarm { kind := k, action := .cleared, active := t.activeAlarm, tag := 0 }) else s.loop.queue } }))

/-- R175, R176: the door state, the alarms of an opening, and the door allowance. R174: every 125 ms the lamps show the next bit of the
patterns of the first rows that hold.
That a timer command before its time changes nothing, and the 125 ms on steps of 10 ms, are the model's choice, logs 1 and 8. -/
def Obligations.DoorAndLamps : Prop :=
  (∀ s : State,
    let allowed := s.door.allowanceEnds.isSome = true ∨ (s.unit.role = some .safe ∧ s.safe.window.isSome = true) ∨
      (s.unit.role = some .till ∧ s.count.state.sessionOpen = true ∧
        ∃ j, s.count.job = some j ∧ (j.mode = .intake ∨ j.mode = .payout))
    (Ready s → ∀ n,
      (s.member.state = .unconfigured → exec (.doorAllow (.fields n)) s = .next (refused .badState s)) ∧
      (s.member.state ≠ .unconfigured → exec (.doorAllow (.fields n)) s = .next { answered .ok [] s with
        door := { s.door with allowanceEnds := some (s.clock + max 1 (min 255 n) * 100) } })) ∧
    (s.unit.power = .running → s.door.isOpen = false →
      ∃ t, exec .doorOpeningEdge s = .next t ∧
        t.door = { s.door with isOpen := true, openSince := some s.clock, heldRaised := false } ∧
        (allowed → t = { s with door := t.door }) ∧
        (¬ allowed → t.alarmSet .doorUnexpected = true ∧
          t = { s with door := t.door, loop := { s.loop with queue := t.loop.queue }, attn := t.attn })) ∧
    (s.unit.power = .running → exec .doorClosing s = .next { s with
      door := { s.door with isOpen := false, openSince := none, heldRaised := false } }) ∧
    (∀ e, s.unit.power = .running → s.door.allowanceEnds = some e →
      (e ≤ s.clock → exec .doorAllowanceEnd s = .next { s with door := { s.door with allowanceEnds := none } }) ∧
      (s.clock < e → exec .doorAllowanceEnd s = .next s)) ∧
    (∀ o, s.unit.power = .running → s.door.isOpen = true → s.door.openSince = some o →
      (s.door.heldRaised = true ∨ s.clock < o + s.cfg.holdLimit * 100 → exec .doorHeld s = .next s) ∧
      (s.door.heldRaised = false → o + s.cfg.holdLimit * 100 ≤ s.clock →
        ∃ t, exec .doorHeld s = .next t ∧ t.alarmSet .doorHeld = true ∧ t = { s with
          door := { s.door with heldRaised := true }, loop := { s.loop with queue := t.loop.queue }, attn := t.attn }))) ∧
  (∀ s : State, s.unit.power = .running →
    (s.lamps.ms < 125 → exec .lampStep s = .next s) ∧
    (125 ≤ s.lamps.ms → ∃ t, exec .lampStep s = .next t ∧
      t = { s with lamps := { t.lamps with step := (s.lamps.step + 1) % 8, ms := s.lamps.ms - 125 } } ∧
      (s.anyAlarm = true → t.lamps.alarm = true) ∧
      (s.anyAlarm = false → (∃ n, 1 ≤ n ∧ n ≤ 56 ∧ (s.peer n).alarm.isSome = true) →
        t.lamps.alarm = decide (t.lamps.step = 0 ∨ t.lamps.step = 2)) ∧
      (s.anyAlarm = false → (∀ n, (s.peer n).alarm = none) → t.lamps.alarm = false) ∧
      ((∃ e ∈ s.custody.inbound, e.state = .unsure ∨ e.state = .unresolved) →
        t.lamps.service = decide (t.lamps.step % 2 = 0)) ∧
      ((∀ e ∈ s.custody.inbound, e.state ≠ .unsure ∧ e.state ≠ .unresolved) →
        ((∃ e ∈ s.custody.inbound, e.state = .expected) → t.lamps.service = true) ∧
        ((∀ e ∈ s.custody.inbound, e.state ≠ .expected) →
          ((∃ r ∈ s.service.requests, r.phase ≠ .opened) → t.lamps.service = decide (t.lamps.step % 4 < 2)) ∧
          ((∀ r ∈ s.service.requests, r.phase = .opened) →
            let waiting := s.service.requests ≠ [] ∨ s.position.float.pickupNeed = true ∨ s.position.float.topupNeed = true ∨
              s.position.float.changeNeed = true ∨ ∃ e ∈ s.service.list, s.eligible e = true
            (waiting → t.lamps.service = decide (t.lamps.step < 4)) ∧ (¬ waiting → t.lamps.service = false))))))

/-! ### Reads -/

/-- 11.4: every read answers OK with its body and changes nothing else, but that READ_CONTAINER and READ_SACK need their record; at a TILL
or DESK READ_SACK answers CLASS_NOT_ALLOWED for every tag that is not a sack (R164). R180: a page gives the number of entries, the
first index and the largest number of whole entries, from that index on, that fit in a body of 255 bytes, 15 at most for
READ_CUSTODY. R8, R14, R17, R44, R58, R61, R101, R131, R148, R164, R168, R178: the entries of every list and the body of every
record, byte by byte, and the codes. The widths and codings of the bodies that R178 and R180 do not give are the model's, log 9:
so are READ_SACK at an invalid role, the times of READ_WINDOW, which are one optional part, and of READ_STATION, the parts of
READ_COUNT, the 4 bytes of the manifest check in READ_SACK and READ_CONTAINER, the presence bytes of compositions and of the station
number, the place of the time remaining, and the 2 bytes of the backup delay. -/
def Obligations.ReadsAnswerTheirBodies : Prop :=
  (∀ (n : Nat) (s : State), Ready s →
    exec (.readStation (.fields ())) s = .next (answered .ok (stationBody s) s) ∧
    exec (.readLoop (.fields ())) s = .next (answered .ok (loopBody s) s) ∧
    exec (.readPeers (.fields n)) s = .next (answered .ok (peersBody n s) s) ∧
    exec (.readCustody (.fields n)) s = .next (answered .ok (custodyBody n s) s) ∧
    exec (.readInbound (.fields n)) s = .next (answered .ok (inboundBody n s) s) ∧
    exec (.readReleases (.fields n)) s = .next (answered .ok (releasesBody n s) s) ∧
    exec (.readTotals (.fields ())) s = .next (answered .ok (totalsBody s) s) ∧
    exec (.readDayTotals (.fields ())) s = .next (answered .ok (dayTotalsBody s) s) ∧
    exec (.readCount (.fields ())) s = .next (answered .ok (countBody s) s) ∧
    exec (.readPosition (.fields ())) s = .next (answered .ok (positionBody s) s) ∧
    exec (.readRequests (.fields n)) s = .next (answered .ok (requestsBody n s) s) ∧
    exec (.readService (.fields n)) s = .next (answered .ok (serviceBody n s) s) ∧
    exec (.readWindow (.fields ())) s = .next (answered .ok (windowBody s) s) ∧
    exec (.readDispatches (.fields n)) s = .next (answered .ok (dispatchesBody n s) s) ∧
    (s.container? n = none →
      exec (.readContainer (.fields n)) s = .next (refused .notFound s) ∧
      (s.unit.role = some .till ∨ s.unit.role = some .desk →
        exec (.readSack (.fields n)) s = .next (refused .classNotAllowed s)) ∧
      (s.unit.role = some .safe ∨ s.unit.role = none → exec (.readSack (.fields n)) s = .next (refused .notFound s))) ∧
    (∀ c, s.container? n = some c → exec (.readContainer (.fields n)) s = .next (answered .ok (containerBytes s c) s)) ∧
    (∀ c k, s.container? n = some c → c.cls = .courierSack → c.sack = some k →
      exec (.readSack (.fields n)) s = .next (answered .ok (sackBody s c k) s)) ∧
    (∀ c, s.container? n = some c → c.cls ≠ .courierSack →
      exec (.readSack (.fields n)) s = .next (refused .classNotAllowed s))) ∧
  (∀ (first : Nat) (s : State),
    let shown := (s.custody.table.drop first).take 15
    custodyBody first s =
      numBytes 1 s.custody.table.length ++ numBytes 1 first ++ numBytes 1 shown.length ++ shown.flatMap custodyEntry ∧
    (∀ c, (custodyEntry c).length = 16) ∧ (custodyBody first s).length ≤ 255 ∧
    (custodyBody first s).length = 3 + 16 * min 15 (s.custody.table.length - first)) ∧
  (∀ s : State,
    let byte (n : Nat) : List Byte := [BitVec.ofNat 8 n]
    let two (n : Nat) : List Byte := [BitVec.ofNat 8 (n / 256), BitVec.ofNat 8 n]
    let four (n : Nat) : List Byte :=
      [BitVec.ofNat 8 (n / 16777216), BitVec.ofNat 8 (n / 65536), BitVec.ofNat 8 (n / 256), BitVec.ofNat 8 n]
    let five (n : Nat) : List Byte := BitVec.ofNat 8 (n / 4294967296) :: four n
    (∀ c : Container, custodyEntry c = four c.tag ++ byte (classCode c.cls) ++ byte (containerStateCode c.state) ++
      five c.value ++ byte (if c.disputed = true then 1 else 0) ++
      four (match c.nesting with
        | none => 0
        | some n => n.parent)) ∧
    (∀ e : InboundEntry, inboundEntryBytes s e = byte e.giver ++ two e.number ++ four e.tag ++ byte (classCode e.cls) ++
      byte (inboundStateCode e.state) ++ five e.value ++ five (e.counted.getD 0) ++
      byte ((if e.counted.isSome = true then 1 else 0) + (if e.queryPending = true then 2 else 0)) ++ byte e.purpose ++
      byte e.origin ++ four ((e.lapse - s.clock + 99) / 100) ++
      (match e.comp with
        | none => byte 0
        | some k => byte k.length ++ k.flatMap (fun x => byte x.1 ++ two x.2))) ∧
    (∀ r : ReleaseEntry, releaseBytes r = four r.tag ++ byte r.receiver ++ two r.number ++ five r.value) ∧
    (∀ d : DispatchRecord, dispatchBytes d = four d.tag ++ five d.value ++ byte d.count ++ four d.check ++ two d.window) ∧
    windowBody s = (match s.safe.window with
      | none => byte 0 ++ two s.safe.windowNumber ++ byte 0
      | some w => byte 1 ++ two s.safe.windowNumber ++ byte 1 ++ four ((s.clock - w.opened) / 100) ++
          four ((w.ends - s.clock + 99) / 100))) ∧
  (∀ (first : Nat) (s : State),
    let byte (n : Nat) : List Byte := [BitVec.ofNat 8 n]
    let two (n : Nat) : List Byte := [BitVec.ofNat 8 (n / 256), BitVec.ofNat 8 n]
    let paged (between : List Byte) (entries : List (List Byte)) (body : List Byte) : Prop :=
      ∃ k, k ≤ entries.length - first ∧
        body = byte entries.length ++ byte first ++ byte k ++ between ++ ((entries.drop first).take k).flatten ∧
        3 + between.length + ((entries.drop first).take k).flatten.length ≤ 255 ∧
        (k < entries.length - first → 255 < 3 + between.length + ((entries.drop first).take (k + 1)).flatten.length)
    paged [] (((List.range' 1 56).filter (fun n => (s.peer n).state ≠ .unknown)).map (fun n => peerBytes n (s.peer n)))
      (peersBody first s) ∧
    paged [] (s.custody.table.map custodyEntry) (custodyBody first s) ∧
    paged [] (s.custody.inbound.map (inboundEntryBytes s)) (inboundBody first s) ∧
    paged [] (s.custody.releases.map releaseBytes) (releasesBody first s) ∧
    paged [] (s.safe.dispatches.map dispatchBytes) (dispatchesBody first s) ∧
    paged (byte s.service.nextId ++ byte s.cfg.requestLimit ++ byte s.cfg.escalation ++ byte s.cfg.claimLimit)
      (s.service.requests.map (requestBytes s)) (requestsBody first s) ∧
    paged (byte (s.service.list.filter (fun e => e.state ≠ .listed)).length ++ byte s.cfg.cover.primaryLow ++
        byte s.cfg.cover.primaryHigh ++ byte s.cfg.cover.backupLow ++ byte s.cfg.cover.backupHigh ++ two s.cfg.cover.delay)
      ((s.service.list.filter (fun e => e.urgency = .urgent) ++ s.service.list.filter (fun e => e.urgency = .normal)).map
        (serviceBytes s)) (serviceBody first s)) ∧
  (∀ s : State,
    let byte (n : Nat) : List Byte := [BitVec.ofNat 8 n]
    let mark (b : Bool) : List Byte := if b = true then [1] else [0]
    let two (n : Nat) : List Byte := [BitVec.ofNat 8 (n / 256), BitVec.ofNat 8 n]
    let three (n : Nat) : List Byte := BitVec.ofNat 8 (n / 65536) :: two n
    let four (n : Nat) : List Byte := BitVec.ofNat 8 (n / 16777216) :: three n
    let five (n : Nat) : List Byte := BitVec.ofNat 8 (n / 4294967296) :: four n
    let six (v : Int) : List Byte :=
      BitVec.ofNat 8 ((v % 281474976710656).toNat / 1099511627776) :: five (v % 281474976710656).toNat
    let part {α : Type} (o : Option α) (f : α → List Byte) : List Byte :=
      match o with
      | none => [0]
      | some a => 1 :: f a
    let bits (l : List Bool) : List Byte := byte (l.mapIdx (fun i b => if b = true then 2 ^ i else 0)).sum
    let comp (k : Composition) : List Byte := byte k.length ++ k.flatMap (fun x => byte x.1 ++ two x.2)
    let slotList (l : List Nat) : List Byte := byte l.length ++ l.flatMap byte
    let remaining (w : Nat) : List Byte := four ((w - s.clock + 99) / 100)
    let since (w : Nat) : List Byte := four ((s.clock - w) / 100)
    let totals (t : Totals) : List Byte := six t.opening ++ six t.intake ++ six t.payout ++ six t.received ++ six t.released ++
      six t.admitted ++ six t.dispatched ++ six t.difference
    let peersIn (st : PeerState) : List Byte := byte ((List.range' 1 56).filter (fun n => (s.peer n).state = st)).length
    totalsBody s = totals s.custody.totals ++ six s.accountable ++ mark s.custody.saturated ∧
    dayTotalsBody s = two s.custody.day.day ++ totals s.custody.day.totals ++ six s.custody.day.accountable ++
      mark s.custody.day.saturated ∧
    attentionBody s = four s.attn.reasons.toNat ++
      bits [s.alarmSet .duplicateStation, s.alarmSet .overdue, s.alarmSet .unresolved, s.alarmSet .totalsSaturated,
        s.alarmSet .positionLimit, s.alarmSet .doorHeld, s.alarmSet .doorUnexpected] ++
      byte (s.custody.table.filter (fun c => c.state = .overdue)).length ++
      byte (s.custody.inbound.filter (fun e => e.state = .unresolved)).length ++
      part s.attn.note (fun n => four n.tag ++ byte (match n.side with | .giver => 0 | .receiver => 1) ++
        (match n.outcome with
          | .taken late => byte 1 ++ byte 0 ++ mark late
          | .refused r => byte 2 ++ byte (refuseCode r) ++ byte 0
          | .noAnswer => byte 3 ++ byte 0 ++ byte 0
          | .recalled => byte 4 ++ byte 0 ++ byte 0
          | .declined => byte 5 ++ byte 0 ++ byte 0
          | .outbound => byte 6 ++ byte 0 ++ byte 0)) ++
      four s.attn.mask.toNat ++ mark s.door.isOpen ++
      (match s.door.allowanceEnds with
        | none => four 0
        | some w => remaining w) ∧
    stationBody s = byte (stationStateCode s.member.state) ++ part s.cfg.number byte ++
      (match s.unit.role with
        | none => byte 3
        | some r => byte (roleCode r)) ++
      four s.unit.serial.toNat ++ byte s.member.mInForce ++ part s.member.listeningEnds remaining ++
      (if s.member.state = .announcing then
        byte 1 ++ mark s.loop.announceReady ++ part s.member.announceWaitEnds remaining else byte 0) ++
      (if s.member.state = .withdrawn ∧ s.cfg.autoRejoin = true then
        part s.member.withdrawnAt (fun w => remaining (w + 500)) else byte 0) ++
      part s.member.duplicate (fun d => byte (duplicateCauseCode d.cause) ++ since d.time ++
        part d.serial (fun x => four x.toNat)) ++
      peersIn .live ++ peersIn .quiet ++ peersIn .gone ∧
    loopBody s = byte (stationStateCode s.member.state) ++ byte s.unit.rate.toNat ++ byte s.loop.faultScore ++
      mark s.cfg.autoRejoin ++ byte s.loop.queue.length ++ byte (s.loop.queue.filter (·.port)).length ++
      s.loop.queue.flatMap (fun f => [kindCharacter f.payload] ++ byte f.target ++ mark f.port ++ mark f.onLine) ++
      bits [s.loop.beaconReady, s.loop.announceReady, s.loop.conflictReady.isSome] ∧
    (∀ (n : Nat) (e : PeerEntry), peerBytes n e = byte n ++ byte (peerStateCode e.state) ++
      bits [e.role.isSome, e.summary.isSome, e.serial.isSome, e.alarm.isSome] ++
      byte (match e.role with | none => 0 | some r => roleCode r) ++ byte (e.m.getD 0) ++
      (match e.summary with
        | none => four 0
        | some p => bits [p.flags.pickupNeed, p.flags.topupNeed, p.flags.changeNeed, p.flags.windowOpen,
            p.flags.alarmActive, p.flags.countBusy] ++ byte p.custodyCount ++ byte p.outbound ++ byte p.openRequests) ++
      four (e.serial.getD 0).toNat ++ byte (match e.alarm with | none => 0 | some k => alarmCode k) ++ two e.silence ∧
      (peerBytes n e).length = 16) ∧
    (∀ c : Container, containerBytes s c = four c.tag ++ byte (classCode c.cls) ++ byte (containerStateCode c.state) ++
      byte c.origin ++ five c.value ++ mark c.disputed ++ byte c.handovers ++
      (match c.lastResult with
        | .none => byte 0 ++ byte 0 ++ byte 0
        | .taken => byte 1 ++ byte 0 ++ byte 0
        | .refused r => byte 2 ++ byte (refuseCode r) ++ byte 0
        | .noAnswer => byte 3 ++ byte 0 ++ byte 0
        | .recalled => byte 4 ++ byte 0 ++ byte 0
        | .declined => byte 5 ++ byte 0 ++ byte 0) ++
      part c.comp comp ++
      part c.counted (fun g => five g.value ++ part g.comp comp ++ three g.suspect ++ six g.variance ++
        byte (varianceCode g.cls)) ++
      part c.handover (fun h => byte h.peer ++ two h.number ++
        (if c.state = .overdue then four 0 else remaining h.deadline) ++ byte h.purpose) ++
      part c.deferred (fun d => byte d.peer ++ byte d.purpose) ++
      part c.nesting (fun n => four n.parent ++ part n.next four) ++
      part c.sack (fun k => byte (sackStateCode k.state) ++ part k.first four ++ byte k.count ++ part k.check four)) ∧
    countBody s = byte (countStateCode s.count.state) ++
      (match s.count.job with
        | none => byte 0 ++ byte 0 ++ byte 0
        | some j => byte 1 ++ byte (modeCode j.mode) ++
            part (if j.mode = .intake ∨ j.mode = .payout then none else some j.tag) four ++ part j.expected three) ++
      two s.count.batchNumber ++ byte s.count.fifo.length ++ byte s.count.batch.taken ++ byte s.count.batch.dropped ++
      byte s.count.batch.lost ++ three s.count.batch.good ++ two s.count.batch.damage.toNat ++
      part s.count.noRecordEnds remaining ++ two s.count.stray ++ two s.cfg.threshold ++ byte s.cfg.countLine.baud ++
      byte s.cfg.countLine.parity ++ byte s.cfg.countLine.stop ++
      part s.count.result (fun r => byte (modeCode r.mode) ++
        part (if r.mode = .intake ∨ r.mode = .payout then none else some r.tag) four ++ two r.batchNumber ++
        (match r.outcome with
          | .opened => byte 0 ++ byte 0
          | .completed => byte 1 ++ byte 0
          | .damaged => byte 2 ++ byte 0
          | .aborted .request => byte 3 ++ byte 1
          | .aborted .noRecords => byte 3 ++ byte 2) ++
        part r.batch (fun b => byte (endCauseCode b.cause) ++ mark b.incomplete ++ two b.damage.toNat ++ byte b.taken ++
          byte b.dropped ++ byte b.lost ++ part b.endFigure two) ++
        part r.tally (fun t =>
          (List.range 12).flatMap (fun d => two (atSlot t.good d) ++ two (atSlot t.suspect d)) ++ three t.piecesGood ++
          three t.piecesSusp ++ five t.countedValue ++ five t.suspectValue ++ part t.mismatch mark ++
          byte t.straps.length ++ t.straps.flatMap (fun f => byte f.slot ++ two f.straps ++ two f.loose)) ++
        part r.recon (fun q => five q.declared ++ six q.variance ++ five q.tolerance ++ byte (varianceCode q.cls) ++
          part q.mismatchSlots slotList) ++
        part r.position (fun q => comp q.clamped ++ six q.value)) ∧
    (let f := s.position.float
     positionBody s = (List.range 12).flatMap (fun d => two (s.pieces d) ++ five (s.pieces d * s.cfg.face d) ++
        two (s.cfg.floatSlot d).target ++ two (s.cfg.floatSlot d).pickup ++ two (s.cfg.floatSlot d).change) ++
      five ((List.range 12).map (fun d => s.pieces d * s.cfg.face d)).sum ++ five s.cfg.pickupTrigger ++
      five s.cfg.topupCap ++ bits [s.cfg.autoPickup, s.cfg.autoTopup, s.cfg.autoChange] ++
      comp f.pickup ++ five f.pickupValue ++ comp f.uncapped ++ five f.uncappedValue ++ comp f.topup ++ five f.topupValue ++
      slotList f.low ++ mark f.urgent ++ mark f.pickupNeed ++ mark f.topupNeed ++ mark f.changeNeed ++ mark f.capped) ∧
    (∀ r : OwnRequest, requestBytes s r = byte r.id ++ byte (needCode r.kind) ++ byte (urgencyCode r.urgency) ++
      (match r.phase with | .opened => byte 0 | .claimed _ _ => byte 1 | .serving _ _ _ => byte 2) ++ mark r.reopened ++
      five r.value ++ since r.raisedAt ++ four (r.openAge / 100) ++
      (match r.phase with
        | .opened => byte 0 ++ four 0 ++ four 0
        | .claimed n a => byte n ++ four (a / 100) ++ four 0
        | .serving n a g => byte n ++ four (a / 100) ++ four g) ++
      comp r.comp ∧ (requestBytes s r).length = 28 + 3 * r.comp.length) ∧
    (∀ e : ServiceEntry, serviceBytes s e = byte e.requester ++ byte e.id ++ byte (needCode e.kind) ++
      bits [e.urgency == .urgent, e.reopened, s.eligible e] ++ byte (serviceStateCode e.state) ++ five e.value ++
      since e.heard ++
      (if e.state = .listed ∧ ¬ (s.cfg.cover.primaryLow ≤ e.requester ∧ e.requester ≤ s.cfg.cover.primaryHigh) ∧
          s.cfg.cover.backupLow ≤ e.requester ∧ e.requester ≤ s.cfg.cover.backupHigh
        then remaining (e.heard + s.cfg.cover.delay * 100) else four 0) ++
      comp e.comp ∧ (serviceBytes s e).length = 19 + 3 * e.comp.length) ∧
    (∀ (c : Container) (k : SackFields), sackBody s c k = byte (sackStateCode k.state) ++ byte k.count ++ five c.value ++
      part k.check four ++ (s.members k).flatMap (fun m => four m.tag ++ five m.value ++ mark m.counted.isSome))) ∧
  ([Role.till, .desk, .safe].map roleCode = [0, 1, 2] ∧
    [ContainerClass.floatBag, .pickupPouch, .depositBag, .changeStock, .courierSack].map classCode = [0, 1, 2, 3, 4] ∧
    [ContainerState.held, .counting, .offering, .outbound, .recalling, .overdue, .nested].map containerStateCode =
      [0, 1, 2, 3, 4, 5, 6] ∧
    [InboundState.expected, .taking, .unsure, .unresolved].map inboundStateCode = [0, 1, 2, 3] ∧
    [StationState.unconfigured, .stopped, .listening, .announcing, .onLoop, .duplicate, .withdrawn].map stationStateCode =
      [0, 1, 2, 3, 4, 5, 6] ∧
    [NeedKind.pickup, .topup, .change].map needCode = [1, 2, 3] ∧ [Urgency.normal, .urgent].map urgencyCode = [0, 1] ∧
    [RefuseReason.classNotAccepted, .duplicateTag, .inboundFull, .notOffered, .tooLate, .declined, .countBlocked].map
      refuseCode = [1, 2, 3, 4, 5, 6, 7] ∧
    alarmOrder.map alarmCode = [1, 2, 3, 4, 5, 6, 7] ∧
    [VarianceClass.exact, .within, .over, .short].map varianceCode = [0, 1, 2, 3] ∧
    [CountMode.intake, .payout, .recount, .unpack].map modeCode = [0, 1, 2, 3] ∧
    [PeerState.unknown, .live, .quiet, .gone].map peerStateCode = [0, 1, 2, 3] ∧
    [CountState.idle, .opened, .running, .paused, .closed].map countStateCode = [0, 1, 2, 3, 4] ∧
    [EndCause.endRecord, .idle, .halt, .abort].map endCauseCode = [0, 1, 2, 3] ∧
    [SackState.assembling, .closed].map sackStateCode = [0, 1] ∧
    [DuplicateCause.heardWhileListening, .lostSerial, .conflictReceived, .heardWhileAnnouncing].map duplicateCauseCode =
      [1, 2, 3, 4] ∧
    [ServiceState.listed, .claiming, .won].map serviceStateCode = [0, 1, 2])

/-! ### Formats -/

/-- R26 to R28, R32, R178, 11.2: what a receiver reads from the characters of a frame is that frame, for every kind and every value of
its fields that an encoding allows. R87, R179: the characters of a COUNT, END or HALT record read back, and four characters
whose check or form fails are dropped. R25: on the line a character is a dominant start bit, its data bits least significant
first and a recessive stop bit; the bits of a frame read back as the frame, and a stop bit read dominant spoils it.
The characters are read by the model's Wire.lean, log 25. -/
def Obligations.FramesAndRecordsReadBack : Prop :=
  (∀ f : Frame, frameOk f.sender f.target f.payload = true →
    (Frame.characters f).length ≤ 70 ∧ readFrame (Frame.characters f) = some f ∧
    readLine (Frame.lineLevels f) = some f ∧
    ∀ k, k < (Frame.characters f).length → readLine ((Frame.lineLevels f).set (10 * k + 9) false) = none) ∧
  (∀ b : Byte, characterBits b = [false, b.getLsbD 0, b.getLsbD 1, b.getLsbD 2, b.getLsbD 3, b.getLsbD 4, b.getLsbD 5,
      b.getLsbD 6, b.getLsbD 7, true] ∧ readCharacter (characterBits b) = some b ∧
    readCharacter ((characterBits b).set 9 false) = none) ∧
  ((∀ (slot n : Nat) (suspect : Bool), slot < 16 → 1 ≤ n → n ≤ 4095 →
    (match recordCharacters 1 (slot + 32 * suspect.toNat) n with
     | [a, b, c, d] => readRecord a b c d = .count slot suspect n
     | _ => False)) ∧
  (∀ n : Nat, n ≤ 4095 →
    (match recordCharacters 2 0 n with
     | [a, b, c, d] => readRecord a b c d = .endOfRun n
     | _ => False)) ∧
  (∀ a b c d : Byte, d ≠ a ^^^ b ^^^ c → readRecord a b c d = .dropped .check) ∧
  (∀ b c : Byte, ∀ a : Byte, a.toNat < 64 → readRecord a b c (a ^^^ b ^^^ c) = .dropped .format) ∧
  (∀ b c : Byte, ∀ a : Byte, 192 ≤ a.toNat → readRecord a b c (a ^^^ b ^^^ c) = .halt))

/-- R30: of two frames that contend, the one of lower class wins, between different kinds the one whose kind the catalogue of R27
lists first, between equal kinds the one of lower sender, and between ANNOUNCEs of one number the one of lower serial; at most
one of them wins. -/
def Obligations.ArbitrationOrdersFrames : Prop :=
  ∀ a b : Frame, 1 ≤ a.sender → a.sender ≤ 56 → 1 ≤ b.sender → b.sender ≤ 56 →
    (frameClass a.payload < frameClass b.payload → Frame.wins a b = true) ∧
    (let catalogue : List Byte := [0x00#8, 0x24#8, 0x34#8, 0x2C#8, 0x3C#8, 0x42#8, 0x52#8, 0x4A#8, 0x66#8, 0x76#8, 0x81#8,
       0x91#8, 0xA5#8, 0xB5#8, 0xC3#8]
     kindCharacter a.payload ∈ catalogue ∧
     (catalogue.idxOf (kindCharacter a.payload) < catalogue.idxOf (kindCharacter b.payload) → Frame.wins a b = true)) ∧
    (kindCharacter a.payload = kindCharacter b.payload → a.sender < b.sender → Frame.wins a b = true) ∧
    (∀ p q, a.payload = .announce p → b.payload = .announce q → a.sender = b.sender →
      p.serial.toNat < q.serial.toNat → Frame.wins a b = true) ∧
    (Frame.wins a b = true → Frame.wins b a = false)

/-! ### Invariants -/

/-- The state after reset meets every law. -/
def Obligations.ResetIsSound : Prop :=
  BooksInv State.reset ∧ PartsInv State.reset ∧ LoopInv State.reset ∧ MemberInv State.reset ∧ ServiceInv State.reset ∧
    CountInv State.reset ∧ MoneyInv State.reset ∧ SackInv State.reset ∧ WorthInv State.reset ∧ IdentityInv State.reset ∧
    State.reset.balance = 0

/-- R5 to R7, R9, R10, R66, R99, R162: every step keeps the tags and the handover numbers of a giver unique, the collections
within their capacities, and the parts of a record as its state and class have them. R153: every step keeps the law of the sacks.
R2, R3: every step keeps declared and counted compositions worth their values. -/
def Obligations.StepKeepsTheBooks : Prop :=
  ∀ s t : State, step s = .next t → BooksInv s →
    BooksInv t ∧ (PartsInv s → PartsInv t) ∧ (PartsInv s → SackInv s → SackInv t) ∧ (WorthInv s → WorthInv t)

/-- R33, R37 to R41, R45, R47, R58: every step keeps the queue ordered and within its places, the fault score in range, what is
sent fitting the station state, and the Peer Table in its form. -/
def Obligations.StepKeepsLoopAndPeers : Prop :=
  ∀ s t : State, step s = .next t → (LoopInv s → LoopInv t) ∧ (MemberInv s → MemberInv t)

/-- R88, R89, R92, R96, R132, R142: every step keeps the Own Requests and the Service List within their limits with distinct
keys, and the count engine's figures in range. -/
def Obligations.StepKeepsServiceAndCount : Prop :=
  ∀ s t : State, step s = .next t → (ServiceInv s → ServiceInv t) ∧ (CountInv s → CountInv t)

/-- R14, 00_scope.md: a well-formed command keeps counts, values and totals within their ranges. -/
def Obligations.CommandsKeepMoneyInRange : Prop :=
  ∀ (c : Instr) (s t : State), c.wellFormed = true → BooksInv s → MoneyInv s → exec c s = .next t → MoneyInv t
end

