-- ==== Sys2Proof/Machine/ReadBack.lean ====
section
/-! DEFINITION. What a sender reads back bit by bit (R25): lost arbitration (R30), a read-back fault (R31), the acknowledge slot
(R34), and the command that each comes to. -/

namespace Sys2Proof.Machine

/-! ### The line (R25, R29) -/

/-- The level of the line in each bit time: dominant, `false`, where either side drives it. -/
def wired (a b : List Bool) : List Bool := List.zipWith and a b

/-- Data bits of character `k` of the levels of a frame, as a character. -/
def lineCharacter (levels : List Bool) (k : Nat) : Byte := dataByte ((levels.drop (10 * k + 1)).take 8)

/-! ### The acknowledge slot (R34) -/

/-- What a receiver drives into the slot: the character 0x00, with a dominant start bit and a recessive stop bit. -/
def slotBits : List Bool := characterBits 0x00#8

/-- What this station puts on the line in the slot of the frame last heard. -/
def State.slotLevels (s : State) : List Bool := if s.loop.slotDriven then slotBits else List.replicate 10 true

/-- The sender finds the acknowledge present: the character 0x00 with a good stop bit; a recessive slot, another character or a bad
stop bit is absent. -/
def slotPresent (levels : List Bool) : Bool := readCharacter levels == some 0x00#8

/-! ### Reading back (R30, R31) -/

/-- Bit `i` of the frame is a data bit of its arbitration field: of character 0 or 1 and, in an ANNOUNCE, of the unit serial, the
first four characters of its payload (R30). -/
def Frame.arbitrates (f : Frame) (i : Nat) : Bool :=
  (i / 10 < 2 || (isAnnounce f.payload && 4 ≤ i / 10 && i / 10 < 8)) && 1 ≤ i % 10 && i % 10 ≤ 8

/-- How a frame that is being sent stands, by the levels read back so far. -/
inductive SendReading where
  /-- Every bit so far was read as sent, and the slot has not ended. -/
  | going
  /-- Arbitration is lost at bit `i` (R30). -/
  | lost (i : Nat)
  /-- A read-back fault at bit `i` (R31). -/
  | fault (i : Nat)
  /-- Every bit of the frame was read as sent, and its slot has ended (R34, R41). -/
  | complete (acknowledged : Bool)
  deriving DecidableEq, Repr

/-- A bit read otherwise than it was sent: dominant for a recessive data bit of the arbitration field has lost, anything else is a
fault (R30, R31). -/
def Frame.differs (f : Frame) (i : Nat) (sent : Bool) : SendReading := if sent && Frame.arbitrates f i then .lost i else .fault i

/-- The bits still to be sent, from bit `i` on, against the levels read: the first that differs ends the sending; after the last the
slot is read. -/
def Frame.readBackFrom (f : Frame) : (i : Nat) → (sent levels : List Bool) → SendReading
  | _, [], slot => if slot.length < 10 then .going else .complete (slotPresent (slot.take 10))
  | _, _ :: _, [] => .going
  | i, b :: sent, l :: levels => if b == l then Frame.readBackFrom f (i + 1) sent levels else Frame.differs f i b

/-- The levels of the line from the start bit of the frame on, as the station that sends it reads them. -/
def Frame.readBack (f : Frame) (levels : List Bool) : SendReading := Frame.readBackFrom f 0 (Frame.lineLevels f) levels

/-! ### The commands (R30, R31, R36) -/

/-- The unit serial of the ANNOUNCE on the line, once its four characters have been read (R51). -/
def winnerSerial (levels : List Bool) : Option (BitVec 32) :=
  if levels.length < 80 then none
  else (readSerial ((List.range' 4 4).map (lineCharacter levels))).map Prod.fst

/-- The command that a sending comes to. A frame that loses in characters 0 or 1 stays where it was, with no command; an ANNOUNCE that
loses in its serial field is reported once the winning serial has been read (R30, R51; DEDUCED, log 11; safe). -/
def sendCommands (levels : List Bool) : SendReading → List Instr
  | .going => []
  | .lost i => if i < 20 then [] else ((winnerSerial levels).map Instr.announceLostSerial).toList
  | .fault _ => [.readBackFault]
  | .complete acknowledged => [.frameSent acknowledged]

/-- The station reads back the levels of the line from the start bit of the frame it sends; the command they come to waits its turn.
No row of the table is one bit: this stands outside the commands (DEDUCED, log 11; safe). -/
def State.withReadBack (levels : List Bool) (s : State) : State :=
  match s.loop.sending with
  | none => s
  | some f => { s with pending := s.pending ++ sendCommands levels (Frame.readBack f levels) }

end Sys2Proof.Machine
end

