-- ==== Sys2Proof/Laws/Line.lean ====
section
/-! SUPPORT. What the receivers make of the bits and bytes of the lines: the loop (R25, R32), what a sender reads back
(R30, R31, R34), the count line (R85, R86), the station
port (R165). -/

namespace Sys2Proof.Machine

/-! ### Characters of the loop (R25) -/

@[simp] theorem lineBits_length (b : Byte) : (lineBits b).length = 8 := rfl

@[simp] theorem characterBits_length (b : Byte) : (characterBits b).length = 10 := rfl

/-- The data bits on the line are the character. -/
@[simp] theorem dataByte_lineBits (b : Byte) : dataByte (lineBits b) = b := by
  revert b; decide

/-- Ten bit times without a start bit are no character. -/
theorem readCharacter_of_no_start {bits : List Bool} (h : bits.getD 0 true = true) : readCharacter bits = none := by
  simp only [readCharacter, h, Bool.not_true, Bool.false_and, if_false, Bool.false_eq_true]

/-! ### The receiver (R25, R32) -/

/-- A receiver between characters of a frame that is neither discarded nor whole takes a character from its ten bits. -/
theorem takeBit_character {r : LineReceiver} (b : Byte) (hb : r.bits = []) (hd : r.discarded = false)
    (hl : lastCharacter r.taken = false) :
    (characterBits b).foldl LineReceiver.takeBit r =
      { bits := [], idle := 0, taken := r.taken ++ [b], discarded := tooLong (r.taken ++ [b]) } := by
  have hbits : characterBits b = [false, b.getLsbD 0, b.getLsbD 1, b.getLsbD 2, b.getLsbD 3, b.getLsbD 4, b.getLsbD 5,
      b.getLsbD 6, b.getLsbD 7, true] := rfl
  have hdata : dataByte (lineBits b) = b := dataByte_lineBits b
  simp [hbits, LineReceiver.takeBit, LineReceiver.stopBit, hb, hd, hl]
  exact ⟨hdata, congrArg (fun c => tooLong (r.taken ++ [c])) hdata⟩

/-- Recessive bit times between characters of a frame are let pass while they are no more than one and a half characters. -/
theorem takeBit_idle {r : LineReceiver} (n : Nat) (hb : r.bits = []) (hd : r.discarded = false)
    (hl : lastCharacter r.taken = false) (hn : r.idle + n ≤ Config.frameGap ∨ r.taken = []) :
    (List.replicate n true).foldl LineReceiver.takeBit r = { r with idle := r.idle + n } := by
  induction n generalizing r with
  | zero => rfl
  | succ n ih =>
    have hstep : LineReceiver.takeBit r true = { r with idle := r.idle + 1 } := by
      obtain h | h := hn
      · have : ¬ Config.frameGap ≤ r.idle := by omega
        simp [LineReceiver.takeBit, LineReceiver.idleBit, hb, hd, hl, this]
      · simp only [h] at hl
        simp [LineReceiver.takeBit, LineReceiver.idleBit, hb, hd, hl, h]
    rw [List.replicate_succ, List.foldl_cons, hstep, ih (r := { r with idle := r.idle + 1 }) hb hd hl (by simpa [Nat.add_assoc, Nat.add_comm 1] using hn)]
    simp [Nat.add_assoc, Nat.add_comm 1]

/-- A receiver that has discarded a frame takes no more of it. -/
theorem takeBit_discarded {r : LineReceiver} (bits : List Bool) (hd : r.discarded = true) :
    bits.foldl LineReceiver.takeBit r = r := by
  induction bits with
  | nil => rfl
  | cons b l ih =>
    have h : LineReceiver.takeBit r b = r := by simp [LineReceiver.takeBit, hd]
    rw [List.foldl_cons, h, ih]

/-! ### Reading back (R30, R31, R34) -/

/-- Senders that drive the same levels leave them on the line: several receivers drive one clean slot (R34). -/
@[simp] theorem wired_self (a : List Bool) : wired a a = a := by
  induction a with
  | nil => rfl
  | cons b l ih => simp [wired]

@[simp] theorem slotPresent_slotBits : slotPresent slotBits = true := by decide

/-- Ten levels are the acknowledge exactly when they are those a receiver drives. -/
theorem slotPresent_iff {levels : List Bool} (h : levels.length = 10) : slotPresent levels = true ↔ levels = slotBits := by
  match levels, h with
  | [a, b, c, d, e, f, g, i, j, k], _ => revert a b c d e f g i j k; decide

/-- A dominant bit read recessive is a fault wherever it stands. -/
@[simp] theorem differs_of_dominant (f : Frame) (i : Nat) : Frame.differs f i false = .fault i := rfl

/-- A recessive bit read dominant loses in the data bits of the arbitration field and is a fault outside them. -/
theorem differs_of_recessive (f : Frame) (i : Nat) :
    Frame.differs f i true = if Frame.arbitrates f i then .lost i else .fault i := rfl

/-- The first bit that is not read as sent ends the sending. -/
theorem readBackFrom_differs (f : Frame) (i : Nat) (same sent levels : List Bool) {b l : Bool} (h : b ≠ l) :
    Frame.readBackFrom f i (same ++ b :: sent) (same ++ l :: levels) = Frame.differs f (i + same.length) b := by
  induction same generalizing i with
  | nil => simp [Frame.readBackFrom, h]
  | cons a same ih =>
    simp only [List.cons_append, Frame.readBackFrom, beq_self_eq_true, if_true, List.length_cons]
    rw [ih, Nat.add_assoc, Nat.add_comm 1]

/-- While every bit is read as sent the sending goes on. -/
theorem readBackFrom_prefix (f : Frame) (i : Nat) (same sent : List Bool) (b : Bool) :
    Frame.readBackFrom f i (same ++ b :: sent) same = .going := by
  induction same generalizing i with
  | nil => rfl
  | cons a same ih => simpa [Frame.readBackFrom] using ih (i + 1)

/-- After the last bit of the frame the slot is read. -/
theorem readBackFrom_sent (f : Frame) (i : Nat) (sent slot : List Bool) (h : slot.length = 10) :
    Frame.readBackFrom f i sent (sent ++ slot) = .complete (slotPresent slot) := by
  induction sent generalizing i with
  | nil => simp [Frame.readBackFrom, h, List.take_of_length_le]
  | cons a sent ih => simpa [Frame.readBackFrom] using ih (i + 1)

/-- A frame read back as sent to its last bit is FRAME_SENT, acknowledged exactly when its slot holds the character 0x00. -/
theorem withReadBack_sent {s : State} {f : Frame} (hf : s.loop.sending = some f) (slot : List Bool) (h : slot.length = 10) :
    s.withReadBack (Frame.lineLevels f ++ slot) = { s with pending := s.pending ++ [.frameSent (slotPresent slot)] } := by
  simp [State.withReadBack, hf, Frame.readBack, readBackFrom_sent f 0 _ slot h, sendCommands]

/-- A dominant bit of the frame read recessive is READ_BACK_FAULT. -/
theorem withReadBack_fault {s : State} {f : Frame} (hf : s.loop.sending = some f) {same sent : List Bool}
    (hs : Frame.lineLevels f = same ++ false :: sent) (levels : List Bool) :
    s.withReadBack (same ++ true :: levels) = { s with pending := s.pending ++ [.readBackFault] } := by
  simp [State.withReadBack, hf, Frame.readBack, hs, readBackFrom_differs f 0 same sent levels Bool.false_ne_true, sendCommands]

/-! ### Characters of the count line (R85, R86) -/

/-- Every character of a format lasts its character time. -/
theorem countCharacterBits_length (f : CountLine) (b : Byte) : (countCharacterBits f b).length = characterTime f := by
  unfold countCharacterBits characterTime parityBits
  split
  · simp; omega
  · split <;> simp <;> omega

/-- The receiver reads the character that was sent, in every format. -/
theorem readCountCharacter_sent (f : CountLine) (b : Byte) : readCountCharacter f (countCharacterBits f b) = .good b := by
  have h8 : (lineBits b).length = 8 := rfl
  have hdata : (countCharacterBits f b).drop 1 = lineBits b ++ (parityBits f b ++ List.replicate f.stop true) := by
    simp [countCharacterBits]
  have hrest : (countCharacterBits f b).drop 9 = parityBits f b ++ List.replicate f.stop true := by
    rw [show (9 : Nat) = 1 + 8 from rfl, ← List.drop_drop, hdata, List.drop_left' h8]
  have hstart : (countCharacterBits f b).getD 0 true = false := rfl
  simp only [readCountCharacter, hstart, hrest, hdata]
  simp [List.take_left' h8]

/-- Bits without a start bit are no character: an idle count line changes nothing. -/
theorem withCountBits_of_no_start (s : State) {bits : List Bool} (h : bits.getD 0 true = true) : s.withCountBits bits = s := by
  simp only [State.withCountBits, readCountCharacter, h, if_true]

/-! ### The station port (R165) -/

/-- No status byte is the filler, so the response is found behind any number of fillers. -/
theorem readResponse_bytes (wait : Nat) (r : Response) (after : List Byte) (h : r.body.length ≤ Config.bodyMax) :
    readResponse (List.replicate wait filler ++ Response.bytes r ++ after) =
      some (BitVec.ofNat 8 (statusCode r.status), r.body) := by
  have hs : (BitVec.ofNat 8 (statusCode r.status) == filler) = false := by
    cases r.status <;> rfl
  have hn : (BitVec.ofNat 8 r.body.length).toNat = r.body.length := by
    have h : r.body.length ≤ 255 := h
    simp [BitVec.toNat_ofNat]; omega
  induction wait with
  | zero => simp [readResponse, Response.bytes, h, numBytes, hs, hn]
  | succ n ih => simpa [readResponse, List.replicate_succ] using ih

end Sys2Proof.Machine
end

