-- ==== Sys2Proof/Laws/State.lean ====
section
/-! SUPPORT. What each plain update of the state leaves as it was, field by field, and the figures of each update. -/

namespace Sys2Proof.Machine

@[simp] theorem answer_unit (st : Status) (b : List Byte) (s : State) : (answer st b s).unit = s.unit := rfl
@[simp] theorem answer_clock (st : Status) (b : List Byte) (s : State) : (answer st b s).clock = s.clock := rfl
@[simp] theorem answer_cfg (st : Status) (b : List Byte) (s : State) : (answer st b s).cfg = s.cfg := rfl
@[simp] theorem answer_custody (st : Status) (b : List Byte) (s : State) : (answer st b s).custody = s.custody := rfl
@[simp] theorem answer_loop (st : Status) (b : List Byte) (s : State) : (answer st b s).loop = s.loop := rfl
@[simp] theorem answer_member (st : Status) (b : List Byte) (s : State) : (answer st b s).member = s.member := rfl
@[simp] theorem answer_handoverCounter (st : Status) (b : List Byte) (s : State) : (answer st b s).handoverCounter = s.handoverCounter := rfl
@[simp] theorem answer_count (st : Status) (b : List Byte) (s : State) : (answer st b s).count = s.count := rfl
@[simp] theorem answer_position (st : Status) (b : List Byte) (s : State) : (answer st b s).position = s.position := rfl
@[simp] theorem answer_service (st : Status) (b : List Byte) (s : State) : (answer st b s).service = s.service := rfl
@[simp] theorem answer_safe (st : Status) (b : List Byte) (s : State) : (answer st b s).safe = s.safe := rfl
@[simp] theorem answer_attn (st : Status) (b : List Byte) (s : State) : (answer st b s).attn = s.attn := rfl
@[simp] theorem answer_door (st : Status) (b : List Byte) (s : State) : (answer st b s).door = s.door := rfl
@[simp] theorem answer_lamps (st : Status) (b : List Byte) (s : State) : (answer st b s).lamps = s.lamps := rfl
@[simp] theorem answer_pending (st : Status) (b : List Byte) (s : State) : (answer st b s).pending = s.pending := rfl

@[simp] theorem refuse_unit (st : Status) (s : State) : (refuse st s).unit = s.unit := rfl
@[simp] theorem refuse_clock (st : Status) (s : State) : (refuse st s).clock = s.clock := rfl
@[simp] theorem refuse_cfg (st : Status) (s : State) : (refuse st s).cfg = s.cfg := rfl
@[simp] theorem refuse_custody (st : Status) (s : State) : (refuse st s).custody = s.custody := rfl
@[simp] theorem refuse_loop (st : Status) (s : State) : (refuse st s).loop = s.loop := rfl
@[simp] theorem refuse_member (st : Status) (s : State) : (refuse st s).member = s.member := rfl
@[simp] theorem refuse_handoverCounter (st : Status) (s : State) : (refuse st s).handoverCounter = s.handoverCounter := rfl
@[simp] theorem refuse_count (st : Status) (s : State) : (refuse st s).count = s.count := rfl
@[simp] theorem refuse_position (st : Status) (s : State) : (refuse st s).position = s.position := rfl
@[simp] theorem refuse_service (st : Status) (s : State) : (refuse st s).service = s.service := rfl
@[simp] theorem refuse_safe (st : Status) (s : State) : (refuse st s).safe = s.safe := rfl
@[simp] theorem refuse_attn (st : Status) (s : State) : (refuse st s).attn = s.attn := rfl
@[simp] theorem refuse_door (st : Status) (s : State) : (refuse st s).door = s.door := rfl
@[simp] theorem refuse_lamps (st : Status) (s : State) : (refuse st s).lamps = s.lamps := rfl
@[simp] theorem refuse_pending (st : Status) (s : State) : (refuse st s).pending = s.pending := rfl

@[simp] theorem newSelect_unit (s : State) : (newSelect s).unit = s.unit := rfl
@[simp] theorem newSelect_clock (s : State) : (newSelect s).clock = s.clock := rfl
@[simp] theorem newSelect_cfg (s : State) : (newSelect s).cfg = s.cfg := rfl
@[simp] theorem newSelect_custody (s : State) : (newSelect s).custody = s.custody := rfl
@[simp] theorem newSelect_loop (s : State) : (newSelect s).loop = s.loop := rfl
@[simp] theorem newSelect_member (s : State) : (newSelect s).member = s.member := rfl
@[simp] theorem newSelect_handoverCounter (s : State) : (newSelect s).handoverCounter = s.handoverCounter := rfl
@[simp] theorem newSelect_count (s : State) : (newSelect s).count = s.count := rfl
@[simp] theorem newSelect_position (s : State) : (newSelect s).position = s.position := rfl
@[simp] theorem newSelect_service (s : State) : (newSelect s).service = s.service := rfl
@[simp] theorem newSelect_safe (s : State) : (newSelect s).safe = s.safe := rfl
@[simp] theorem newSelect_door (s : State) : (newSelect s).door = s.door := rfl
@[simp] theorem newSelect_lamps (s : State) : (newSelect s).lamps = s.lamps := rfl
@[simp] theorem newSelect_pending (s : State) : (newSelect s).pending = s.pending := rfl

@[simp] theorem setStation_unit (st : StationState) (s : State) : (setStation st s).unit = s.unit := rfl
@[simp] theorem setStation_clock (st : StationState) (s : State) : (setStation st s).clock = s.clock := rfl
@[simp] theorem setStation_cfg (st : StationState) (s : State) : (setStation st s).cfg = s.cfg := rfl
@[simp] theorem setStation_custody (st : StationState) (s : State) : (setStation st s).custody = s.custody := rfl
@[simp] theorem setStation_loop (st : StationState) (s : State) : (setStation st s).loop = s.loop := rfl
@[simp] theorem setStation_handoverCounter (st : StationState) (s : State) : (setStation st s).handoverCounter = s.handoverCounter := rfl
@[simp] theorem setStation_count (st : StationState) (s : State) : (setStation st s).count = s.count := rfl
@[simp] theorem setStation_position (st : StationState) (s : State) : (setStation st s).position = s.position := rfl
@[simp] theorem setStation_service (st : StationState) (s : State) : (setStation st s).service = s.service := rfl
@[simp] theorem setStation_safe (st : StationState) (s : State) : (setStation st s).safe = s.safe := rfl
@[simp] theorem setStation_attn (st : StationState) (s : State) : (setStation st s).attn = s.attn := rfl
@[simp] theorem setStation_door (st : StationState) (s : State) : (setStation st s).door = s.door := rfl
@[simp] theorem setStation_lamps (st : StationState) (s : State) : (setStation st s).lamps = s.lamps := rfl
@[simp] theorem setStation_port (st : StationState) (s : State) : (setStation st s).port = s.port := rfl
@[simp] theorem setStation_pending (st : StationState) (s : State) : (setStation st s).pending = s.pending := rfl

@[simp] theorem setTable_unit (l : List Container) (s : State) : (setTable l s).unit = s.unit := rfl
@[simp] theorem setTable_clock (l : List Container) (s : State) : (setTable l s).clock = s.clock := rfl
@[simp] theorem setTable_cfg (l : List Container) (s : State) : (setTable l s).cfg = s.cfg := rfl
@[simp] theorem setTable_loop (l : List Container) (s : State) : (setTable l s).loop = s.loop := rfl
@[simp] theorem setTable_member (l : List Container) (s : State) : (setTable l s).member = s.member := rfl
@[simp] theorem setTable_handoverCounter (l : List Container) (s : State) : (setTable l s).handoverCounter = s.handoverCounter := rfl
@[simp] theorem setTable_count (l : List Container) (s : State) : (setTable l s).count = s.count := rfl
@[simp] theorem setTable_position (l : List Container) (s : State) : (setTable l s).position = s.position := rfl
@[simp] theorem setTable_service (l : List Container) (s : State) : (setTable l s).service = s.service := rfl
@[simp] theorem setTable_safe (l : List Container) (s : State) : (setTable l s).safe = s.safe := rfl
@[simp] theorem setTable_attn (l : List Container) (s : State) : (setTable l s).attn = s.attn := rfl
@[simp] theorem setTable_door (l : List Container) (s : State) : (setTable l s).door = s.door := rfl
@[simp] theorem setTable_lamps (l : List Container) (s : State) : (setTable l s).lamps = s.lamps := rfl
@[simp] theorem setTable_port (l : List Container) (s : State) : (setTable l s).port = s.port := rfl
@[simp] theorem setTable_pending (l : List Container) (s : State) : (setTable l s).pending = s.pending := rfl

@[simp] theorem setInbound_unit (l : List InboundEntry) (s : State) : (setInbound l s).unit = s.unit := rfl
@[simp] theorem setInbound_clock (l : List InboundEntry) (s : State) : (setInbound l s).clock = s.clock := rfl
@[simp] theorem setInbound_cfg (l : List InboundEntry) (s : State) : (setInbound l s).cfg = s.cfg := rfl
@[simp] theorem setInbound_loop (l : List InboundEntry) (s : State) : (setInbound l s).loop = s.loop := rfl
@[simp] theorem setInbound_member (l : List InboundEntry) (s : State) : (setInbound l s).member = s.member := rfl
@[simp] theorem setInbound_handoverCounter (l : List InboundEntry) (s : State) : (setInbound l s).handoverCounter = s.handoverCounter := rfl
@[simp] theorem setInbound_count (l : List InboundEntry) (s : State) : (setInbound l s).count = s.count := rfl
@[simp] theorem setInbound_position (l : List InboundEntry) (s : State) : (setInbound l s).position = s.position := rfl
@[simp] theorem setInbound_service (l : List InboundEntry) (s : State) : (setInbound l s).service = s.service := rfl
@[simp] theorem setInbound_safe (l : List InboundEntry) (s : State) : (setInbound l s).safe = s.safe := rfl
@[simp] theorem setInbound_attn (l : List InboundEntry) (s : State) : (setInbound l s).attn = s.attn := rfl
@[simp] theorem setInbound_door (l : List InboundEntry) (s : State) : (setInbound l s).door = s.door := rfl
@[simp] theorem setInbound_lamps (l : List InboundEntry) (s : State) : (setInbound l s).lamps = s.lamps := rfl
@[simp] theorem setInbound_port (l : List InboundEntry) (s : State) : (setInbound l s).port = s.port := rfl
@[simp] theorem setInbound_pending (l : List InboundEntry) (s : State) : (setInbound l s).pending = s.pending := rfl

@[simp] theorem updateContainer_unit (tag : Nat) (f : Container → Container) (s : State) : (updateContainer tag f s).unit = s.unit := rfl
@[simp] theorem updateContainer_clock (tag : Nat) (f : Container → Container) (s : State) : (updateContainer tag f s).clock = s.clock := rfl
@[simp] theorem updateContainer_cfg (tag : Nat) (f : Container → Container) (s : State) : (updateContainer tag f s).cfg = s.cfg := rfl
@[simp] theorem updateContainer_loop (tag : Nat) (f : Container → Container) (s : State) : (updateContainer tag f s).loop = s.loop := rfl
@[simp] theorem updateContainer_member (tag : Nat) (f : Container → Container) (s : State) : (updateContainer tag f s).member = s.member := rfl
@[simp] theorem updateContainer_handoverCounter (tag : Nat) (f : Container → Container) (s : State) : (updateContainer tag f s).handoverCounter = s.handoverCounter := rfl
@[simp] theorem updateContainer_count (tag : Nat) (f : Container → Container) (s : State) : (updateContainer tag f s).count = s.count := rfl
@[simp] theorem updateContainer_position (tag : Nat) (f : Container → Container) (s : State) : (updateContainer tag f s).position = s.position := rfl
@[simp] theorem updateContainer_service (tag : Nat) (f : Container → Container) (s : State) : (updateContainer tag f s).service = s.service := rfl
@[simp] theorem updateContainer_safe (tag : Nat) (f : Container → Container) (s : State) : (updateContainer tag f s).safe = s.safe := rfl
@[simp] theorem updateContainer_attn (tag : Nat) (f : Container → Container) (s : State) : (updateContainer tag f s).attn = s.attn := rfl
@[simp] theorem updateContainer_door (tag : Nat) (f : Container → Container) (s : State) : (updateContainer tag f s).door = s.door := rfl
@[simp] theorem updateContainer_lamps (tag : Nat) (f : Container → Container) (s : State) : (updateContainer tag f s).lamps = s.lamps := rfl
@[simp] theorem updateContainer_port (tag : Nat) (f : Container → Container) (s : State) : (updateContainer tag f s).port = s.port := rfl
@[simp] theorem updateContainer_pending (tag : Nat) (f : Container → Container) (s : State) : (updateContainer tag f s).pending = s.pending := rfl

@[simp] theorem removeContainer_unit (tag : Nat) (s : State) : (removeContainer tag s).unit = s.unit := rfl
@[simp] theorem removeContainer_clock (tag : Nat) (s : State) : (removeContainer tag s).clock = s.clock := rfl
@[simp] theorem removeContainer_cfg (tag : Nat) (s : State) : (removeContainer tag s).cfg = s.cfg := rfl
@[simp] theorem removeContainer_loop (tag : Nat) (s : State) : (removeContainer tag s).loop = s.loop := rfl
@[simp] theorem removeContainer_member (tag : Nat) (s : State) : (removeContainer tag s).member = s.member := rfl
@[simp] theorem removeContainer_handoverCounter (tag : Nat) (s : State) : (removeContainer tag s).handoverCounter = s.handoverCounter := rfl
@[simp] theorem removeContainer_count (tag : Nat) (s : State) : (removeContainer tag s).count = s.count := rfl
@[simp] theorem removeContainer_position (tag : Nat) (s : State) : (removeContainer tag s).position = s.position := rfl
@[simp] theorem removeContainer_service (tag : Nat) (s : State) : (removeContainer tag s).service = s.service := rfl
@[simp] theorem removeContainer_safe (tag : Nat) (s : State) : (removeContainer tag s).safe = s.safe := rfl
@[simp] theorem removeContainer_attn (tag : Nat) (s : State) : (removeContainer tag s).attn = s.attn := rfl
@[simp] theorem removeContainer_door (tag : Nat) (s : State) : (removeContainer tag s).door = s.door := rfl
@[simp] theorem removeContainer_lamps (tag : Nat) (s : State) : (removeContainer tag s).lamps = s.lamps := rfl
@[simp] theorem removeContainer_port (tag : Nat) (s : State) : (removeContainer tag s).port = s.port := rfl
@[simp] theorem removeContainer_pending (tag : Nat) (s : State) : (removeContainer tag s).pending = s.pending := rfl

@[simp] theorem appendContainer_unit (c : Container) (s : State) : (appendContainer c s).unit = s.unit := rfl
@[simp] theorem appendContainer_clock (c : Container) (s : State) : (appendContainer c s).clock = s.clock := rfl
@[simp] theorem appendContainer_cfg (c : Container) (s : State) : (appendContainer c s).cfg = s.cfg := rfl
@[simp] theorem appendContainer_loop (c : Container) (s : State) : (appendContainer c s).loop = s.loop := rfl
@[simp] theorem appendContainer_member (c : Container) (s : State) : (appendContainer c s).member = s.member := rfl
@[simp] theorem appendContainer_handoverCounter (c : Container) (s : State) : (appendContainer c s).handoverCounter = s.handoverCounter := rfl
@[simp] theorem appendContainer_count (c : Container) (s : State) : (appendContainer c s).count = s.count := rfl
@[simp] theorem appendContainer_position (c : Container) (s : State) : (appendContainer c s).position = s.position := rfl
@[simp] theorem appendContainer_service (c : Container) (s : State) : (appendContainer c s).service = s.service := rfl
@[simp] theorem appendContainer_safe (c : Container) (s : State) : (appendContainer c s).safe = s.safe := rfl
@[simp] theorem appendContainer_attn (c : Container) (s : State) : (appendContainer c s).attn = s.attn := rfl
@[simp] theorem appendContainer_door (c : Container) (s : State) : (appendContainer c s).door = s.door := rfl
@[simp] theorem appendContainer_lamps (c : Container) (s : State) : (appendContainer c s).lamps = s.lamps := rfl
@[simp] theorem appendContainer_port (c : Container) (s : State) : (appendContainer c s).port = s.port := rfl
@[simp] theorem appendContainer_pending (c : Container) (s : State) : (appendContainer c s).pending = s.pending := rfl

@[simp] theorem updateInbound_unit (tag : Nat) (f : InboundEntry → InboundEntry) (s : State) : (updateInbound tag f s).unit = s.unit := rfl
@[simp] theorem updateInbound_clock (tag : Nat) (f : InboundEntry → InboundEntry) (s : State) : (updateInbound tag f s).clock = s.clock := rfl
@[simp] theorem updateInbound_cfg (tag : Nat) (f : InboundEntry → InboundEntry) (s : State) : (updateInbound tag f s).cfg = s.cfg := rfl
@[simp] theorem updateInbound_loop (tag : Nat) (f : InboundEntry → InboundEntry) (s : State) : (updateInbound tag f s).loop = s.loop := rfl
@[simp] theorem updateInbound_member (tag : Nat) (f : InboundEntry → InboundEntry) (s : State) : (updateInbound tag f s).member = s.member := rfl
@[simp] theorem updateInbound_handoverCounter (tag : Nat) (f : InboundEntry → InboundEntry) (s : State) : (updateInbound tag f s).handoverCounter = s.handoverCounter := rfl
@[simp] theorem updateInbound_count (tag : Nat) (f : InboundEntry → InboundEntry) (s : State) : (updateInbound tag f s).count = s.count := rfl
@[simp] theorem updateInbound_position (tag : Nat) (f : InboundEntry → InboundEntry) (s : State) : (updateInbound tag f s).position = s.position := rfl
@[simp] theorem updateInbound_service (tag : Nat) (f : InboundEntry → InboundEntry) (s : State) : (updateInbound tag f s).service = s.service := rfl
@[simp] theorem updateInbound_safe (tag : Nat) (f : InboundEntry → InboundEntry) (s : State) : (updateInbound tag f s).safe = s.safe := rfl
@[simp] theorem updateInbound_attn (tag : Nat) (f : InboundEntry → InboundEntry) (s : State) : (updateInbound tag f s).attn = s.attn := rfl
@[simp] theorem updateInbound_door (tag : Nat) (f : InboundEntry → InboundEntry) (s : State) : (updateInbound tag f s).door = s.door := rfl
@[simp] theorem updateInbound_lamps (tag : Nat) (f : InboundEntry → InboundEntry) (s : State) : (updateInbound tag f s).lamps = s.lamps := rfl
@[simp] theorem updateInbound_port (tag : Nat) (f : InboundEntry → InboundEntry) (s : State) : (updateInbound tag f s).port = s.port := rfl
@[simp] theorem updateInbound_pending (tag : Nat) (f : InboundEntry → InboundEntry) (s : State) : (updateInbound tag f s).pending = s.pending := rfl

@[simp] theorem removeInbound_unit (tag : Nat) (s : State) : (removeInbound tag s).unit = s.unit := rfl
@[simp] theorem removeInbound_clock (tag : Nat) (s : State) : (removeInbound tag s).clock = s.clock := rfl
@[simp] theorem removeInbound_cfg (tag : Nat) (s : State) : (removeInbound tag s).cfg = s.cfg := rfl
@[simp] theorem removeInbound_loop (tag : Nat) (s : State) : (removeInbound tag s).loop = s.loop := rfl
@[simp] theorem removeInbound_member (tag : Nat) (s : State) : (removeInbound tag s).member = s.member := rfl
@[simp] theorem removeInbound_handoverCounter (tag : Nat) (s : State) : (removeInbound tag s).handoverCounter = s.handoverCounter := rfl
@[simp] theorem removeInbound_count (tag : Nat) (s : State) : (removeInbound tag s).count = s.count := rfl
@[simp] theorem removeInbound_position (tag : Nat) (s : State) : (removeInbound tag s).position = s.position := rfl
@[simp] theorem removeInbound_service (tag : Nat) (s : State) : (removeInbound tag s).service = s.service := rfl
@[simp] theorem removeInbound_safe (tag : Nat) (s : State) : (removeInbound tag s).safe = s.safe := rfl
@[simp] theorem removeInbound_attn (tag : Nat) (s : State) : (removeInbound tag s).attn = s.attn := rfl
@[simp] theorem removeInbound_door (tag : Nat) (s : State) : (removeInbound tag s).door = s.door := rfl
@[simp] theorem removeInbound_lamps (tag : Nat) (s : State) : (removeInbound tag s).lamps = s.lamps := rfl
@[simp] theorem removeInbound_port (tag : Nat) (s : State) : (removeInbound tag s).port = s.port := rfl
@[simp] theorem removeInbound_pending (tag : Nat) (s : State) : (removeInbound tag s).pending = s.pending := rfl

@[simp] theorem appendInbound_unit (e : InboundEntry) (s : State) : (appendInbound e s).unit = s.unit := rfl
@[simp] theorem appendInbound_clock (e : InboundEntry) (s : State) : (appendInbound e s).clock = s.clock := rfl
@[simp] theorem appendInbound_cfg (e : InboundEntry) (s : State) : (appendInbound e s).cfg = s.cfg := rfl
@[simp] theorem appendInbound_loop (e : InboundEntry) (s : State) : (appendInbound e s).loop = s.loop := rfl
@[simp] theorem appendInbound_member (e : InboundEntry) (s : State) : (appendInbound e s).member = s.member := rfl
@[simp] theorem appendInbound_handoverCounter (e : InboundEntry) (s : State) : (appendInbound e s).handoverCounter = s.handoverCounter := rfl
@[simp] theorem appendInbound_count (e : InboundEntry) (s : State) : (appendInbound e s).count = s.count := rfl
@[simp] theorem appendInbound_position (e : InboundEntry) (s : State) : (appendInbound e s).position = s.position := rfl
@[simp] theorem appendInbound_service (e : InboundEntry) (s : State) : (appendInbound e s).service = s.service := rfl
@[simp] theorem appendInbound_safe (e : InboundEntry) (s : State) : (appendInbound e s).safe = s.safe := rfl
@[simp] theorem appendInbound_attn (e : InboundEntry) (s : State) : (appendInbound e s).attn = s.attn := rfl
@[simp] theorem appendInbound_door (e : InboundEntry) (s : State) : (appendInbound e s).door = s.door := rfl
@[simp] theorem appendInbound_lamps (e : InboundEntry) (s : State) : (appendInbound e s).lamps = s.lamps := rfl
@[simp] theorem appendInbound_port (e : InboundEntry) (s : State) : (appendInbound e s).port = s.port := rfl
@[simp] theorem appendInbound_pending (e : InboundEntry) (s : State) : (appendInbound e s).pending = s.pending := rfl

@[simp] theorem setCounts_unit (v : Vector Nat 12) (s : State) : (setCounts v s).unit = s.unit := rfl
@[simp] theorem setCounts_clock (v : Vector Nat 12) (s : State) : (setCounts v s).clock = s.clock := rfl
@[simp] theorem setCounts_cfg (v : Vector Nat 12) (s : State) : (setCounts v s).cfg = s.cfg := rfl
@[simp] theorem setCounts_custody (v : Vector Nat 12) (s : State) : (setCounts v s).custody = s.custody := rfl
@[simp] theorem setCounts_loop (v : Vector Nat 12) (s : State) : (setCounts v s).loop = s.loop := rfl
@[simp] theorem setCounts_member (v : Vector Nat 12) (s : State) : (setCounts v s).member = s.member := rfl
@[simp] theorem setCounts_handoverCounter (v : Vector Nat 12) (s : State) : (setCounts v s).handoverCounter = s.handoverCounter := rfl
@[simp] theorem setCounts_count (v : Vector Nat 12) (s : State) : (setCounts v s).count = s.count := rfl
@[simp] theorem setCounts_service (v : Vector Nat 12) (s : State) : (setCounts v s).service = s.service := rfl
@[simp] theorem setCounts_safe (v : Vector Nat 12) (s : State) : (setCounts v s).safe = s.safe := rfl
@[simp] theorem setCounts_attn (v : Vector Nat 12) (s : State) : (setCounts v s).attn = s.attn := rfl
@[simp] theorem setCounts_door (v : Vector Nat 12) (s : State) : (setCounts v s).door = s.door := rfl
@[simp] theorem setCounts_lamps (v : Vector Nat 12) (s : State) : (setCounts v s).lamps = s.lamps := rfl
@[simp] theorem setCounts_port (v : Vector Nat 12) (s : State) : (setCounts v s).port = s.port := rfl
@[simp] theorem setCounts_pending (v : Vector Nat 12) (s : State) : (setCounts v s).pending = s.pending := rfl

@[simp] theorem setFloatState_unit (f : FloatState) (s : State) : (setFloatState f s).unit = s.unit := rfl
@[simp] theorem setFloatState_clock (f : FloatState) (s : State) : (setFloatState f s).clock = s.clock := rfl
@[simp] theorem setFloatState_cfg (f : FloatState) (s : State) : (setFloatState f s).cfg = s.cfg := rfl
@[simp] theorem setFloatState_custody (f : FloatState) (s : State) : (setFloatState f s).custody = s.custody := rfl
@[simp] theorem setFloatState_loop (f : FloatState) (s : State) : (setFloatState f s).loop = s.loop := rfl
@[simp] theorem setFloatState_member (f : FloatState) (s : State) : (setFloatState f s).member = s.member := rfl
@[simp] theorem setFloatState_handoverCounter (f : FloatState) (s : State) : (setFloatState f s).handoverCounter = s.handoverCounter := rfl
@[simp] theorem setFloatState_count (f : FloatState) (s : State) : (setFloatState f s).count = s.count := rfl
@[simp] theorem setFloatState_service (f : FloatState) (s : State) : (setFloatState f s).service = s.service := rfl
@[simp] theorem setFloatState_safe (f : FloatState) (s : State) : (setFloatState f s).safe = s.safe := rfl
@[simp] theorem setFloatState_attn (f : FloatState) (s : State) : (setFloatState f s).attn = s.attn := rfl
@[simp] theorem setFloatState_door (f : FloatState) (s : State) : (setFloatState f s).door = s.door := rfl
@[simp] theorem setFloatState_lamps (f : FloatState) (s : State) : (setFloatState f s).lamps = s.lamps := rfl
@[simp] theorem setFloatState_port (f : FloatState) (s : State) : (setFloatState f s).port = s.port := rfl
@[simp] theorem setFloatState_pending (f : FloatState) (s : State) : (setFloatState f s).pending = s.pending := rfl

@[simp] theorem setQueue_unit (q : List QueuedFrame) (s : State) : (setQueue q s).unit = s.unit := rfl
@[simp] theorem setQueue_clock (q : List QueuedFrame) (s : State) : (setQueue q s).clock = s.clock := rfl
@[simp] theorem setQueue_cfg (q : List QueuedFrame) (s : State) : (setQueue q s).cfg = s.cfg := rfl
@[simp] theorem setQueue_custody (q : List QueuedFrame) (s : State) : (setQueue q s).custody = s.custody := rfl
@[simp] theorem setQueue_member (q : List QueuedFrame) (s : State) : (setQueue q s).member = s.member := rfl
@[simp] theorem setQueue_handoverCounter (q : List QueuedFrame) (s : State) : (setQueue q s).handoverCounter = s.handoverCounter := rfl
@[simp] theorem setQueue_count (q : List QueuedFrame) (s : State) : (setQueue q s).count = s.count := rfl
@[simp] theorem setQueue_position (q : List QueuedFrame) (s : State) : (setQueue q s).position = s.position := rfl
@[simp] theorem setQueue_service (q : List QueuedFrame) (s : State) : (setQueue q s).service = s.service := rfl
@[simp] theorem setQueue_safe (q : List QueuedFrame) (s : State) : (setQueue q s).safe = s.safe := rfl
@[simp] theorem setQueue_attn (q : List QueuedFrame) (s : State) : (setQueue q s).attn = s.attn := rfl
@[simp] theorem setQueue_door (q : List QueuedFrame) (s : State) : (setQueue q s).door = s.door := rfl
@[simp] theorem setQueue_lamps (q : List QueuedFrame) (s : State) : (setQueue q s).lamps = s.lamps := rfl
@[simp] theorem setQueue_port (q : List QueuedFrame) (s : State) : (setQueue q s).port = s.port := rfl
@[simp] theorem setQueue_pending (q : List QueuedFrame) (s : State) : (setQueue q s).pending = s.pending := rfl

@[simp] theorem enqueue_unit (port : Bool) (target : Nat) (p : Payload) (s : State) : (enqueue port target p s).unit = s.unit := rfl
@[simp] theorem enqueue_clock (port : Bool) (target : Nat) (p : Payload) (s : State) : (enqueue port target p s).clock = s.clock := rfl
@[simp] theorem enqueue_cfg (port : Bool) (target : Nat) (p : Payload) (s : State) : (enqueue port target p s).cfg = s.cfg := rfl
@[simp] theorem enqueue_custody (port : Bool) (target : Nat) (p : Payload) (s : State) : (enqueue port target p s).custody = s.custody := rfl
@[simp] theorem enqueue_member (port : Bool) (target : Nat) (p : Payload) (s : State) : (enqueue port target p s).member = s.member := rfl
@[simp] theorem enqueue_handoverCounter (port : Bool) (target : Nat) (p : Payload) (s : State) : (enqueue port target p s).handoverCounter = s.handoverCounter := rfl
@[simp] theorem enqueue_count (port : Bool) (target : Nat) (p : Payload) (s : State) : (enqueue port target p s).count = s.count := rfl
@[simp] theorem enqueue_position (port : Bool) (target : Nat) (p : Payload) (s : State) : (enqueue port target p s).position = s.position := rfl
@[simp] theorem enqueue_service (port : Bool) (target : Nat) (p : Payload) (s : State) : (enqueue port target p s).service = s.service := rfl
@[simp] theorem enqueue_safe (port : Bool) (target : Nat) (p : Payload) (s : State) : (enqueue port target p s).safe = s.safe := rfl
@[simp] theorem enqueue_attn (port : Bool) (target : Nat) (p : Payload) (s : State) : (enqueue port target p s).attn = s.attn := rfl
@[simp] theorem enqueue_door (port : Bool) (target : Nat) (p : Payload) (s : State) : (enqueue port target p s).door = s.door := rfl
@[simp] theorem enqueue_lamps (port : Bool) (target : Nat) (p : Payload) (s : State) : (enqueue port target p s).lamps = s.lamps := rfl
@[simp] theorem enqueue_port (port : Bool) (target : Nat) (p : Payload) (s : State) : (enqueue port target p s).port = s.port := rfl
@[simp] theorem enqueue_pending (port : Bool) (target : Nat) (p : Payload) (s : State) : (enqueue port target p s).pending = s.pending := rfl

@[simp] theorem dropNeed_unit (id : Nat) (s : State) : (dropNeed id s).unit = s.unit := rfl
@[simp] theorem dropNeed_clock (id : Nat) (s : State) : (dropNeed id s).clock = s.clock := rfl
@[simp] theorem dropNeed_cfg (id : Nat) (s : State) : (dropNeed id s).cfg = s.cfg := rfl
@[simp] theorem dropNeed_custody (id : Nat) (s : State) : (dropNeed id s).custody = s.custody := rfl
@[simp] theorem dropNeed_member (id : Nat) (s : State) : (dropNeed id s).member = s.member := rfl
@[simp] theorem dropNeed_handoverCounter (id : Nat) (s : State) : (dropNeed id s).handoverCounter = s.handoverCounter := rfl
@[simp] theorem dropNeed_count (id : Nat) (s : State) : (dropNeed id s).count = s.count := rfl
@[simp] theorem dropNeed_position (id : Nat) (s : State) : (dropNeed id s).position = s.position := rfl
@[simp] theorem dropNeed_service (id : Nat) (s : State) : (dropNeed id s).service = s.service := rfl
@[simp] theorem dropNeed_safe (id : Nat) (s : State) : (dropNeed id s).safe = s.safe := rfl
@[simp] theorem dropNeed_attn (id : Nat) (s : State) : (dropNeed id s).attn = s.attn := rfl
@[simp] theorem dropNeed_door (id : Nat) (s : State) : (dropNeed id s).door = s.door := rfl
@[simp] theorem dropNeed_lamps (id : Nat) (s : State) : (dropNeed id s).lamps = s.lamps := rfl
@[simp] theorem dropNeed_port (id : Nat) (s : State) : (dropNeed id s).port = s.port := rfl
@[simp] theorem dropNeed_pending (id : Nat) (s : State) : (dropNeed id s).pending = s.pending := rfl

@[simp] theorem setRequests_unit (l : List OwnRequest) (s : State) : (setRequests l s).unit = s.unit := rfl
@[simp] theorem setRequests_clock (l : List OwnRequest) (s : State) : (setRequests l s).clock = s.clock := rfl
@[simp] theorem setRequests_cfg (l : List OwnRequest) (s : State) : (setRequests l s).cfg = s.cfg := rfl
@[simp] theorem setRequests_custody (l : List OwnRequest) (s : State) : (setRequests l s).custody = s.custody := rfl
@[simp] theorem setRequests_loop (l : List OwnRequest) (s : State) : (setRequests l s).loop = s.loop := rfl
@[simp] theorem setRequests_member (l : List OwnRequest) (s : State) : (setRequests l s).member = s.member := rfl
@[simp] theorem setRequests_handoverCounter (l : List OwnRequest) (s : State) : (setRequests l s).handoverCounter = s.handoverCounter := rfl
@[simp] theorem setRequests_count (l : List OwnRequest) (s : State) : (setRequests l s).count = s.count := rfl
@[simp] theorem setRequests_position (l : List OwnRequest) (s : State) : (setRequests l s).position = s.position := rfl
@[simp] theorem setRequests_safe (l : List OwnRequest) (s : State) : (setRequests l s).safe = s.safe := rfl
@[simp] theorem setRequests_attn (l : List OwnRequest) (s : State) : (setRequests l s).attn = s.attn := rfl
@[simp] theorem setRequests_door (l : List OwnRequest) (s : State) : (setRequests l s).door = s.door := rfl
@[simp] theorem setRequests_lamps (l : List OwnRequest) (s : State) : (setRequests l s).lamps = s.lamps := rfl
@[simp] theorem setRequests_port (l : List OwnRequest) (s : State) : (setRequests l s).port = s.port := rfl
@[simp] theorem setRequests_pending (l : List OwnRequest) (s : State) : (setRequests l s).pending = s.pending := rfl

@[simp] theorem updateRequest_unit (id : Nat) (f : OwnRequest → OwnRequest) (s : State) : (updateRequest id f s).unit = s.unit := rfl
@[simp] theorem updateRequest_clock (id : Nat) (f : OwnRequest → OwnRequest) (s : State) : (updateRequest id f s).clock = s.clock := rfl
@[simp] theorem updateRequest_cfg (id : Nat) (f : OwnRequest → OwnRequest) (s : State) : (updateRequest id f s).cfg = s.cfg := rfl
@[simp] theorem updateRequest_custody (id : Nat) (f : OwnRequest → OwnRequest) (s : State) : (updateRequest id f s).custody = s.custody := rfl
@[simp] theorem updateRequest_loop (id : Nat) (f : OwnRequest → OwnRequest) (s : State) : (updateRequest id f s).loop = s.loop := rfl
@[simp] theorem updateRequest_member (id : Nat) (f : OwnRequest → OwnRequest) (s : State) : (updateRequest id f s).member = s.member := rfl
@[simp] theorem updateRequest_handoverCounter (id : Nat) (f : OwnRequest → OwnRequest) (s : State) : (updateRequest id f s).handoverCounter = s.handoverCounter := rfl
@[simp] theorem updateRequest_count (id : Nat) (f : OwnRequest → OwnRequest) (s : State) : (updateRequest id f s).count = s.count := rfl
@[simp] theorem updateRequest_position (id : Nat) (f : OwnRequest → OwnRequest) (s : State) : (updateRequest id f s).position = s.position := rfl
@[simp] theorem updateRequest_safe (id : Nat) (f : OwnRequest → OwnRequest) (s : State) : (updateRequest id f s).safe = s.safe := rfl
@[simp] theorem updateRequest_attn (id : Nat) (f : OwnRequest → OwnRequest) (s : State) : (updateRequest id f s).attn = s.attn := rfl
@[simp] theorem updateRequest_door (id : Nat) (f : OwnRequest → OwnRequest) (s : State) : (updateRequest id f s).door = s.door := rfl
@[simp] theorem updateRequest_lamps (id : Nat) (f : OwnRequest → OwnRequest) (s : State) : (updateRequest id f s).lamps = s.lamps := rfl
@[simp] theorem updateRequest_port (id : Nat) (f : OwnRequest → OwnRequest) (s : State) : (updateRequest id f s).port = s.port := rfl
@[simp] theorem updateRequest_pending (id : Nat) (f : OwnRequest → OwnRequest) (s : State) : (updateRequest id f s).pending = s.pending := rfl

@[simp] theorem removeRequest_unit (id : Nat) (s : State) : (removeRequest id s).unit = s.unit := rfl
@[simp] theorem removeRequest_clock (id : Nat) (s : State) : (removeRequest id s).clock = s.clock := rfl
@[simp] theorem removeRequest_cfg (id : Nat) (s : State) : (removeRequest id s).cfg = s.cfg := rfl
@[simp] theorem removeRequest_custody (id : Nat) (s : State) : (removeRequest id s).custody = s.custody := rfl
@[simp] theorem removeRequest_loop (id : Nat) (s : State) : (removeRequest id s).loop = s.loop := rfl
@[simp] theorem removeRequest_member (id : Nat) (s : State) : (removeRequest id s).member = s.member := rfl
@[simp] theorem removeRequest_handoverCounter (id : Nat) (s : State) : (removeRequest id s).handoverCounter = s.handoverCounter := rfl
@[simp] theorem removeRequest_count (id : Nat) (s : State) : (removeRequest id s).count = s.count := rfl
@[simp] theorem removeRequest_position (id : Nat) (s : State) : (removeRequest id s).position = s.position := rfl
@[simp] theorem removeRequest_safe (id : Nat) (s : State) : (removeRequest id s).safe = s.safe := rfl
@[simp] theorem removeRequest_attn (id : Nat) (s : State) : (removeRequest id s).attn = s.attn := rfl
@[simp] theorem removeRequest_door (id : Nat) (s : State) : (removeRequest id s).door = s.door := rfl
@[simp] theorem removeRequest_lamps (id : Nat) (s : State) : (removeRequest id s).lamps = s.lamps := rfl
@[simp] theorem removeRequest_port (id : Nat) (s : State) : (removeRequest id s).port = s.port := rfl
@[simp] theorem removeRequest_pending (id : Nat) (s : State) : (removeRequest id s).pending = s.pending := rfl

@[simp] theorem addRequest_unit (r : OwnRequest) (s : State) : (addRequest r s).unit = s.unit := rfl
@[simp] theorem addRequest_clock (r : OwnRequest) (s : State) : (addRequest r s).clock = s.clock := rfl
@[simp] theorem addRequest_cfg (r : OwnRequest) (s : State) : (addRequest r s).cfg = s.cfg := rfl
@[simp] theorem addRequest_custody (r : OwnRequest) (s : State) : (addRequest r s).custody = s.custody := rfl
@[simp] theorem addRequest_loop (r : OwnRequest) (s : State) : (addRequest r s).loop = s.loop := rfl
@[simp] theorem addRequest_member (r : OwnRequest) (s : State) : (addRequest r s).member = s.member := rfl
@[simp] theorem addRequest_handoverCounter (r : OwnRequest) (s : State) : (addRequest r s).handoverCounter = s.handoverCounter := rfl
@[simp] theorem addRequest_count (r : OwnRequest) (s : State) : (addRequest r s).count = s.count := rfl
@[simp] theorem addRequest_position (r : OwnRequest) (s : State) : (addRequest r s).position = s.position := rfl
@[simp] theorem addRequest_safe (r : OwnRequest) (s : State) : (addRequest r s).safe = s.safe := rfl
@[simp] theorem addRequest_attn (r : OwnRequest) (s : State) : (addRequest r s).attn = s.attn := rfl
@[simp] theorem addRequest_door (r : OwnRequest) (s : State) : (addRequest r s).door = s.door := rfl
@[simp] theorem addRequest_lamps (r : OwnRequest) (s : State) : (addRequest r s).lamps = s.lamps := rfl
@[simp] theorem addRequest_port (r : OwnRequest) (s : State) : (addRequest r s).port = s.port := rfl
@[simp] theorem addRequest_pending (r : OwnRequest) (s : State) : (addRequest r s).pending = s.pending := rfl

@[simp] theorem toldOffer_unit (g : Bool) (peer purpose tag : Nat) (s : State) : (toldOffer g peer purpose tag s).unit = s.unit := rfl
@[simp] theorem toldOffer_clock (g : Bool) (peer purpose tag : Nat) (s : State) : (toldOffer g peer purpose tag s).clock = s.clock := rfl
@[simp] theorem toldOffer_cfg (g : Bool) (peer purpose tag : Nat) (s : State) : (toldOffer g peer purpose tag s).cfg = s.cfg := rfl
@[simp] theorem toldOffer_custody (g : Bool) (peer purpose tag : Nat) (s : State) : (toldOffer g peer purpose tag s).custody = s.custody := rfl
@[simp] theorem toldOffer_loop (g : Bool) (peer purpose tag : Nat) (s : State) : (toldOffer g peer purpose tag s).loop = s.loop := rfl
@[simp] theorem toldOffer_member (g : Bool) (peer purpose tag : Nat) (s : State) : (toldOffer g peer purpose tag s).member = s.member := rfl
@[simp] theorem toldOffer_handoverCounter (g : Bool) (peer purpose tag : Nat) (s : State) : (toldOffer g peer purpose tag s).handoverCounter = s.handoverCounter := rfl
@[simp] theorem toldOffer_count (g : Bool) (peer purpose tag : Nat) (s : State) : (toldOffer g peer purpose tag s).count = s.count := rfl
@[simp] theorem toldOffer_position (g : Bool) (peer purpose tag : Nat) (s : State) : (toldOffer g peer purpose tag s).position = s.position := rfl
@[simp] theorem toldOffer_safe (g : Bool) (peer purpose tag : Nat) (s : State) : (toldOffer g peer purpose tag s).safe = s.safe := rfl
@[simp] theorem toldOffer_attn (g : Bool) (peer purpose tag : Nat) (s : State) : (toldOffer g peer purpose tag s).attn = s.attn := rfl
@[simp] theorem toldOffer_door (g : Bool) (peer purpose tag : Nat) (s : State) : (toldOffer g peer purpose tag s).door = s.door := rfl
@[simp] theorem toldOffer_lamps (g : Bool) (peer purpose tag : Nat) (s : State) : (toldOffer g peer purpose tag s).lamps = s.lamps := rfl
@[simp] theorem toldOffer_port (g : Bool) (peer purpose tag : Nat) (s : State) : (toldOffer g peer purpose tag s).port = s.port := rfl
@[simp] theorem toldOffer_pending (g : Bool) (peer purpose tag : Nat) (s : State) : (toldOffer g peer purpose tag s).pending = s.pending := rfl

@[simp] theorem toldSetback_unit (g : Bool) (tag : Nat) (s : State) : (toldSetback g tag s).unit = s.unit := rfl
@[simp] theorem toldSetback_clock (g : Bool) (tag : Nat) (s : State) : (toldSetback g tag s).clock = s.clock := rfl
@[simp] theorem toldSetback_cfg (g : Bool) (tag : Nat) (s : State) : (toldSetback g tag s).cfg = s.cfg := rfl
@[simp] theorem toldSetback_custody (g : Bool) (tag : Nat) (s : State) : (toldSetback g tag s).custody = s.custody := rfl
@[simp] theorem toldSetback_loop (g : Bool) (tag : Nat) (s : State) : (toldSetback g tag s).loop = s.loop := rfl
@[simp] theorem toldSetback_member (g : Bool) (tag : Nat) (s : State) : (toldSetback g tag s).member = s.member := rfl
@[simp] theorem toldSetback_handoverCounter (g : Bool) (tag : Nat) (s : State) : (toldSetback g tag s).handoverCounter = s.handoverCounter := rfl
@[simp] theorem toldSetback_count (g : Bool) (tag : Nat) (s : State) : (toldSetback g tag s).count = s.count := rfl
@[simp] theorem toldSetback_position (g : Bool) (tag : Nat) (s : State) : (toldSetback g tag s).position = s.position := rfl
@[simp] theorem toldSetback_safe (g : Bool) (tag : Nat) (s : State) : (toldSetback g tag s).safe = s.safe := rfl
@[simp] theorem toldSetback_attn (g : Bool) (tag : Nat) (s : State) : (toldSetback g tag s).attn = s.attn := rfl
@[simp] theorem toldSetback_door (g : Bool) (tag : Nat) (s : State) : (toldSetback g tag s).door = s.door := rfl
@[simp] theorem toldSetback_lamps (g : Bool) (tag : Nat) (s : State) : (toldSetback g tag s).lamps = s.lamps := rfl
@[simp] theorem toldSetback_port (g : Bool) (tag : Nat) (s : State) : (toldSetback g tag s).port = s.port := rfl
@[simp] theorem toldSetback_pending (g : Bool) (tag : Nat) (s : State) : (toldSetback g tag s).pending = s.pending := rfl

@[simp] theorem setServiceList_unit (l : List ServiceEntry) (s : State) : (setServiceList l s).unit = s.unit := rfl
@[simp] theorem setServiceList_clock (l : List ServiceEntry) (s : State) : (setServiceList l s).clock = s.clock := rfl
@[simp] theorem setServiceList_cfg (l : List ServiceEntry) (s : State) : (setServiceList l s).cfg = s.cfg := rfl
@[simp] theorem setServiceList_custody (l : List ServiceEntry) (s : State) : (setServiceList l s).custody = s.custody := rfl
@[simp] theorem setServiceList_loop (l : List ServiceEntry) (s : State) : (setServiceList l s).loop = s.loop := rfl
@[simp] theorem setServiceList_member (l : List ServiceEntry) (s : State) : (setServiceList l s).member = s.member := rfl
@[simp] theorem setServiceList_handoverCounter (l : List ServiceEntry) (s : State) : (setServiceList l s).handoverCounter = s.handoverCounter := rfl
@[simp] theorem setServiceList_count (l : List ServiceEntry) (s : State) : (setServiceList l s).count = s.count := rfl
@[simp] theorem setServiceList_position (l : List ServiceEntry) (s : State) : (setServiceList l s).position = s.position := rfl
@[simp] theorem setServiceList_safe (l : List ServiceEntry) (s : State) : (setServiceList l s).safe = s.safe := rfl
@[simp] theorem setServiceList_attn (l : List ServiceEntry) (s : State) : (setServiceList l s).attn = s.attn := rfl
@[simp] theorem setServiceList_door (l : List ServiceEntry) (s : State) : (setServiceList l s).door = s.door := rfl
@[simp] theorem setServiceList_lamps (l : List ServiceEntry) (s : State) : (setServiceList l s).lamps = s.lamps := rfl
@[simp] theorem setServiceList_port (l : List ServiceEntry) (s : State) : (setServiceList l s).port = s.port := rfl
@[simp] theorem setServiceList_pending (l : List ServiceEntry) (s : State) : (setServiceList l s).pending = s.pending := rfl

@[simp] theorem updateService_unit (requester id : Nat) (f : ServiceEntry → ServiceEntry) (s : State) : (updateService requester id f s).unit = s.unit := rfl
@[simp] theorem updateService_clock (requester id : Nat) (f : ServiceEntry → ServiceEntry) (s : State) : (updateService requester id f s).clock = s.clock := rfl
@[simp] theorem updateService_cfg (requester id : Nat) (f : ServiceEntry → ServiceEntry) (s : State) : (updateService requester id f s).cfg = s.cfg := rfl
@[simp] theorem updateService_custody (requester id : Nat) (f : ServiceEntry → ServiceEntry) (s : State) : (updateService requester id f s).custody = s.custody := rfl
@[simp] theorem updateService_loop (requester id : Nat) (f : ServiceEntry → ServiceEntry) (s : State) : (updateService requester id f s).loop = s.loop := rfl
@[simp] theorem updateService_member (requester id : Nat) (f : ServiceEntry → ServiceEntry) (s : State) : (updateService requester id f s).member = s.member := rfl
@[simp] theorem updateService_handoverCounter (requester id : Nat) (f : ServiceEntry → ServiceEntry) (s : State) : (updateService requester id f s).handoverCounter = s.handoverCounter := rfl
@[simp] theorem updateService_count (requester id : Nat) (f : ServiceEntry → ServiceEntry) (s : State) : (updateService requester id f s).count = s.count := rfl
@[simp] theorem updateService_position (requester id : Nat) (f : ServiceEntry → ServiceEntry) (s : State) : (updateService requester id f s).position = s.position := rfl
@[simp] theorem updateService_safe (requester id : Nat) (f : ServiceEntry → ServiceEntry) (s : State) : (updateService requester id f s).safe = s.safe := rfl
@[simp] theorem updateService_attn (requester id : Nat) (f : ServiceEntry → ServiceEntry) (s : State) : (updateService requester id f s).attn = s.attn := rfl
@[simp] theorem updateService_door (requester id : Nat) (f : ServiceEntry → ServiceEntry) (s : State) : (updateService requester id f s).door = s.door := rfl
@[simp] theorem updateService_lamps (requester id : Nat) (f : ServiceEntry → ServiceEntry) (s : State) : (updateService requester id f s).lamps = s.lamps := rfl
@[simp] theorem updateService_port (requester id : Nat) (f : ServiceEntry → ServiceEntry) (s : State) : (updateService requester id f s).port = s.port := rfl
@[simp] theorem updateService_pending (requester id : Nat) (f : ServiceEntry → ServiceEntry) (s : State) : (updateService requester id f s).pending = s.pending := rfl

@[simp] theorem removeService_unit (requester id : Nat) (s : State) : (removeService requester id s).unit = s.unit := rfl
@[simp] theorem removeService_clock (requester id : Nat) (s : State) : (removeService requester id s).clock = s.clock := rfl
@[simp] theorem removeService_cfg (requester id : Nat) (s : State) : (removeService requester id s).cfg = s.cfg := rfl
@[simp] theorem removeService_custody (requester id : Nat) (s : State) : (removeService requester id s).custody = s.custody := rfl
@[simp] theorem removeService_loop (requester id : Nat) (s : State) : (removeService requester id s).loop = s.loop := rfl
@[simp] theorem removeService_member (requester id : Nat) (s : State) : (removeService requester id s).member = s.member := rfl
@[simp] theorem removeService_handoverCounter (requester id : Nat) (s : State) : (removeService requester id s).handoverCounter = s.handoverCounter := rfl
@[simp] theorem removeService_count (requester id : Nat) (s : State) : (removeService requester id s).count = s.count := rfl
@[simp] theorem removeService_position (requester id : Nat) (s : State) : (removeService requester id s).position = s.position := rfl
@[simp] theorem removeService_safe (requester id : Nat) (s : State) : (removeService requester id s).safe = s.safe := rfl
@[simp] theorem removeService_attn (requester id : Nat) (s : State) : (removeService requester id s).attn = s.attn := rfl
@[simp] theorem removeService_door (requester id : Nat) (s : State) : (removeService requester id s).door = s.door := rfl
@[simp] theorem removeService_lamps (requester id : Nat) (s : State) : (removeService requester id s).lamps = s.lamps := rfl
@[simp] theorem removeService_port (requester id : Nat) (s : State) : (removeService requester id s).port = s.port := rfl
@[simp] theorem removeService_pending (requester id : Nat) (s : State) : (removeService requester id s).pending = s.pending := rfl

@[simp] theorem setCount_unit (c : CountEngine) (s : State) : (setCount c s).unit = s.unit := rfl
@[simp] theorem setCount_clock (c : CountEngine) (s : State) : (setCount c s).clock = s.clock := rfl
@[simp] theorem setCount_cfg (c : CountEngine) (s : State) : (setCount c s).cfg = s.cfg := rfl
@[simp] theorem setCount_custody (c : CountEngine) (s : State) : (setCount c s).custody = s.custody := rfl
@[simp] theorem setCount_loop (c : CountEngine) (s : State) : (setCount c s).loop = s.loop := rfl
@[simp] theorem setCount_member (c : CountEngine) (s : State) : (setCount c s).member = s.member := rfl
@[simp] theorem setCount_handoverCounter (c : CountEngine) (s : State) : (setCount c s).handoverCounter = s.handoverCounter := rfl
@[simp] theorem setCount_position (c : CountEngine) (s : State) : (setCount c s).position = s.position := rfl
@[simp] theorem setCount_service (c : CountEngine) (s : State) : (setCount c s).service = s.service := rfl
@[simp] theorem setCount_safe (c : CountEngine) (s : State) : (setCount c s).safe = s.safe := rfl
@[simp] theorem setCount_attn (c : CountEngine) (s : State) : (setCount c s).attn = s.attn := rfl
@[simp] theorem setCount_door (c : CountEngine) (s : State) : (setCount c s).door = s.door := rfl
@[simp] theorem setCount_lamps (c : CountEngine) (s : State) : (setCount c s).lamps = s.lamps := rfl
@[simp] theorem setCount_port (c : CountEngine) (s : State) : (setCount c s).port = s.port := rfl
@[simp] theorem setCount_pending (c : CountEngine) (s : State) : (setCount c s).pending = s.pending := rfl

@[simp] theorem strayRecord_unit (s : State) : (strayRecord s).unit = s.unit := rfl
@[simp] theorem strayRecord_clock (s : State) : (strayRecord s).clock = s.clock := rfl
@[simp] theorem strayRecord_cfg (s : State) : (strayRecord s).cfg = s.cfg := rfl
@[simp] theorem strayRecord_custody (s : State) : (strayRecord s).custody = s.custody := rfl
@[simp] theorem strayRecord_loop (s : State) : (strayRecord s).loop = s.loop := rfl
@[simp] theorem strayRecord_member (s : State) : (strayRecord s).member = s.member := rfl
@[simp] theorem strayRecord_handoverCounter (s : State) : (strayRecord s).handoverCounter = s.handoverCounter := rfl
@[simp] theorem strayRecord_position (s : State) : (strayRecord s).position = s.position := rfl
@[simp] theorem strayRecord_service (s : State) : (strayRecord s).service = s.service := rfl
@[simp] theorem strayRecord_safe (s : State) : (strayRecord s).safe = s.safe := rfl
@[simp] theorem strayRecord_attn (s : State) : (strayRecord s).attn = s.attn := rfl
@[simp] theorem strayRecord_door (s : State) : (strayRecord s).door = s.door := rfl
@[simp] theorem strayRecord_lamps (s : State) : (strayRecord s).lamps = s.lamps := rfl
@[simp] theorem strayRecord_port (s : State) : (strayRecord s).port = s.port := rfl
@[simp] theorem strayRecord_pending (s : State) : (strayRecord s).pending = s.pending := rfl

@[simp] theorem damageBatch_unit (r : DamageReason) (s : State) : (damageBatch r s).unit = s.unit := rfl
@[simp] theorem damageBatch_clock (r : DamageReason) (s : State) : (damageBatch r s).clock = s.clock := rfl
@[simp] theorem damageBatch_cfg (r : DamageReason) (s : State) : (damageBatch r s).cfg = s.cfg := rfl
@[simp] theorem damageBatch_custody (r : DamageReason) (s : State) : (damageBatch r s).custody = s.custody := rfl
@[simp] theorem damageBatch_loop (r : DamageReason) (s : State) : (damageBatch r s).loop = s.loop := rfl
@[simp] theorem damageBatch_member (r : DamageReason) (s : State) : (damageBatch r s).member = s.member := rfl
@[simp] theorem damageBatch_handoverCounter (r : DamageReason) (s : State) : (damageBatch r s).handoverCounter = s.handoverCounter := rfl
@[simp] theorem damageBatch_position (r : DamageReason) (s : State) : (damageBatch r s).position = s.position := rfl
@[simp] theorem damageBatch_service (r : DamageReason) (s : State) : (damageBatch r s).service = s.service := rfl
@[simp] theorem damageBatch_safe (r : DamageReason) (s : State) : (damageBatch r s).safe = s.safe := rfl
@[simp] theorem damageBatch_attn (r : DamageReason) (s : State) : (damageBatch r s).attn = s.attn := rfl
@[simp] theorem damageBatch_door (r : DamageReason) (s : State) : (damageBatch r s).door = s.door := rfl
@[simp] theorem damageBatch_lamps (r : DamageReason) (s : State) : (damageBatch r s).lamps = s.lamps := rfl
@[simp] theorem damageBatch_port (r : DamageReason) (s : State) : (damageBatch r s).port = s.port := rfl
@[simp] theorem damageBatch_pending (r : DamageReason) (s : State) : (damageBatch r s).pending = s.pending := rfl

@[simp] theorem setDiscarding_unit (on : Bool) (s : State) : (setDiscarding on s).unit = s.unit := rfl
@[simp] theorem setDiscarding_clock (on : Bool) (s : State) : (setDiscarding on s).clock = s.clock := rfl
@[simp] theorem setDiscarding_cfg (on : Bool) (s : State) : (setDiscarding on s).cfg = s.cfg := rfl
@[simp] theorem setDiscarding_custody (on : Bool) (s : State) : (setDiscarding on s).custody = s.custody := rfl
@[simp] theorem setDiscarding_loop (on : Bool) (s : State) : (setDiscarding on s).loop = s.loop := rfl
@[simp] theorem setDiscarding_member (on : Bool) (s : State) : (setDiscarding on s).member = s.member := rfl
@[simp] theorem setDiscarding_handoverCounter (on : Bool) (s : State) : (setDiscarding on s).handoverCounter = s.handoverCounter := rfl
@[simp] theorem setDiscarding_position (on : Bool) (s : State) : (setDiscarding on s).position = s.position := rfl
@[simp] theorem setDiscarding_service (on : Bool) (s : State) : (setDiscarding on s).service = s.service := rfl
@[simp] theorem setDiscarding_safe (on : Bool) (s : State) : (setDiscarding on s).safe = s.safe := rfl
@[simp] theorem setDiscarding_attn (on : Bool) (s : State) : (setDiscarding on s).attn = s.attn := rfl
@[simp] theorem setDiscarding_door (on : Bool) (s : State) : (setDiscarding on s).door = s.door := rfl
@[simp] theorem setDiscarding_lamps (on : Bool) (s : State) : (setDiscarding on s).lamps = s.lamps := rfl
@[simp] theorem setDiscarding_port (on : Bool) (s : State) : (setDiscarding on s).port = s.port := rfl
@[simp] theorem setDiscarding_pending (on : Bool) (s : State) : (setDiscarding on s).pending = s.pending := rfl

@[simp] theorem addPieces_unit (good : List Nat) (s : State) : (addPieces good s).unit = s.unit := rfl
@[simp] theorem addPieces_clock (good : List Nat) (s : State) : (addPieces good s).clock = s.clock := rfl
@[simp] theorem addPieces_cfg (good : List Nat) (s : State) : (addPieces good s).cfg = s.cfg := rfl
@[simp] theorem addPieces_custody (good : List Nat) (s : State) : (addPieces good s).custody = s.custody := rfl
@[simp] theorem addPieces_loop (good : List Nat) (s : State) : (addPieces good s).loop = s.loop := rfl
@[simp] theorem addPieces_member (good : List Nat) (s : State) : (addPieces good s).member = s.member := rfl
@[simp] theorem addPieces_handoverCounter (good : List Nat) (s : State) : (addPieces good s).handoverCounter = s.handoverCounter := rfl
@[simp] theorem addPieces_count (good : List Nat) (s : State) : (addPieces good s).count = s.count := rfl
@[simp] theorem addPieces_service (good : List Nat) (s : State) : (addPieces good s).service = s.service := rfl
@[simp] theorem addPieces_safe (good : List Nat) (s : State) : (addPieces good s).safe = s.safe := rfl
@[simp] theorem addPieces_attn (good : List Nat) (s : State) : (addPieces good s).attn = s.attn := rfl
@[simp] theorem addPieces_door (good : List Nat) (s : State) : (addPieces good s).door = s.door := rfl
@[simp] theorem addPieces_lamps (good : List Nat) (s : State) : (addPieces good s).lamps = s.lamps := rfl
@[simp] theorem addPieces_port (good : List Nat) (s : State) : (addPieces good s).port = s.port := rfl
@[simp] theorem addPieces_pending (good : List Nat) (s : State) : (addPieces good s).pending = s.pending := rfl

@[simp] theorem takePieces_unit (good : List Nat) (s : State) : (takePieces good s).unit = s.unit := rfl
@[simp] theorem takePieces_clock (good : List Nat) (s : State) : (takePieces good s).clock = s.clock := rfl
@[simp] theorem takePieces_cfg (good : List Nat) (s : State) : (takePieces good s).cfg = s.cfg := rfl
@[simp] theorem takePieces_custody (good : List Nat) (s : State) : (takePieces good s).custody = s.custody := rfl
@[simp] theorem takePieces_loop (good : List Nat) (s : State) : (takePieces good s).loop = s.loop := rfl
@[simp] theorem takePieces_member (good : List Nat) (s : State) : (takePieces good s).member = s.member := rfl
@[simp] theorem takePieces_handoverCounter (good : List Nat) (s : State) : (takePieces good s).handoverCounter = s.handoverCounter := rfl
@[simp] theorem takePieces_count (good : List Nat) (s : State) : (takePieces good s).count = s.count := rfl
@[simp] theorem takePieces_service (good : List Nat) (s : State) : (takePieces good s).service = s.service := rfl
@[simp] theorem takePieces_safe (good : List Nat) (s : State) : (takePieces good s).safe = s.safe := rfl
@[simp] theorem takePieces_attn (good : List Nat) (s : State) : (takePieces good s).attn = s.attn := rfl
@[simp] theorem takePieces_door (good : List Nat) (s : State) : (takePieces good s).door = s.door := rfl
@[simp] theorem takePieces_lamps (good : List Nat) (s : State) : (takePieces good s).lamps = s.lamps := rfl
@[simp] theorem takePieces_port (good : List Nat) (s : State) : (takePieces good s).port = s.port := rfl
@[simp] theorem takePieces_pending (good : List Nat) (s : State) : (takePieces good s).pending = s.pending := rfl

@[simp] theorem addComp_unit (c : Composition) (s : State) : (addComp c s).unit = s.unit := rfl
@[simp] theorem addComp_clock (c : Composition) (s : State) : (addComp c s).clock = s.clock := rfl
@[simp] theorem addComp_cfg (c : Composition) (s : State) : (addComp c s).cfg = s.cfg := rfl
@[simp] theorem addComp_custody (c : Composition) (s : State) : (addComp c s).custody = s.custody := rfl
@[simp] theorem addComp_loop (c : Composition) (s : State) : (addComp c s).loop = s.loop := rfl
@[simp] theorem addComp_member (c : Composition) (s : State) : (addComp c s).member = s.member := rfl
@[simp] theorem addComp_handoverCounter (c : Composition) (s : State) : (addComp c s).handoverCounter = s.handoverCounter := rfl
@[simp] theorem addComp_count (c : Composition) (s : State) : (addComp c s).count = s.count := rfl
@[simp] theorem addComp_service (c : Composition) (s : State) : (addComp c s).service = s.service := rfl
@[simp] theorem addComp_safe (c : Composition) (s : State) : (addComp c s).safe = s.safe := rfl
@[simp] theorem addComp_attn (c : Composition) (s : State) : (addComp c s).attn = s.attn := rfl
@[simp] theorem addComp_door (c : Composition) (s : State) : (addComp c s).door = s.door := rfl
@[simp] theorem addComp_lamps (c : Composition) (s : State) : (addComp c s).lamps = s.lamps := rfl
@[simp] theorem addComp_port (c : Composition) (s : State) : (addComp c s).port = s.port := rfl
@[simp] theorem addComp_pending (c : Composition) (s : State) : (addComp c s).pending = s.pending := rfl

@[simp] theorem takeComp_unit (c : Composition) (s : State) : (takeComp c s).unit = s.unit := rfl
@[simp] theorem takeComp_clock (c : Composition) (s : State) : (takeComp c s).clock = s.clock := rfl
@[simp] theorem takeComp_cfg (c : Composition) (s : State) : (takeComp c s).cfg = s.cfg := rfl
@[simp] theorem takeComp_custody (c : Composition) (s : State) : (takeComp c s).custody = s.custody := rfl
@[simp] theorem takeComp_loop (c : Composition) (s : State) : (takeComp c s).loop = s.loop := rfl
@[simp] theorem takeComp_member (c : Composition) (s : State) : (takeComp c s).member = s.member := rfl
@[simp] theorem takeComp_handoverCounter (c : Composition) (s : State) : (takeComp c s).handoverCounter = s.handoverCounter := rfl
@[simp] theorem takeComp_count (c : Composition) (s : State) : (takeComp c s).count = s.count := rfl
@[simp] theorem takeComp_service (c : Composition) (s : State) : (takeComp c s).service = s.service := rfl
@[simp] theorem takeComp_safe (c : Composition) (s : State) : (takeComp c s).safe = s.safe := rfl
@[simp] theorem takeComp_attn (c : Composition) (s : State) : (takeComp c s).attn = s.attn := rfl
@[simp] theorem takeComp_door (c : Composition) (s : State) : (takeComp c s).door = s.door := rfl
@[simp] theorem takeComp_lamps (c : Composition) (s : State) : (takeComp c s).lamps = s.lamps := rfl
@[simp] theorem takeComp_port (c : Composition) (s : State) : (takeComp c s).port = s.port := rfl
@[simp] theorem takeComp_pending (c : Composition) (s : State) : (takeComp c s).pending = s.pending := rfl

@[simp] theorem setCfg_unit (cfg : Settings) (s : State) : (setCfg cfg s).unit = s.unit := rfl
@[simp] theorem setCfg_clock (cfg : Settings) (s : State) : (setCfg cfg s).clock = s.clock := rfl
@[simp] theorem setCfg_custody (cfg : Settings) (s : State) : (setCfg cfg s).custody = s.custody := rfl
@[simp] theorem setCfg_loop (cfg : Settings) (s : State) : (setCfg cfg s).loop = s.loop := rfl
@[simp] theorem setCfg_member (cfg : Settings) (s : State) : (setCfg cfg s).member = s.member := rfl
@[simp] theorem setCfg_handoverCounter (cfg : Settings) (s : State) : (setCfg cfg s).handoverCounter = s.handoverCounter := rfl
@[simp] theorem setCfg_count (cfg : Settings) (s : State) : (setCfg cfg s).count = s.count := rfl
@[simp] theorem setCfg_position (cfg : Settings) (s : State) : (setCfg cfg s).position = s.position := rfl
@[simp] theorem setCfg_service (cfg : Settings) (s : State) : (setCfg cfg s).service = s.service := rfl
@[simp] theorem setCfg_safe (cfg : Settings) (s : State) : (setCfg cfg s).safe = s.safe := rfl
@[simp] theorem setCfg_attn (cfg : Settings) (s : State) : (setCfg cfg s).attn = s.attn := rfl
@[simp] theorem setCfg_door (cfg : Settings) (s : State) : (setCfg cfg s).door = s.door := rfl
@[simp] theorem setCfg_lamps (cfg : Settings) (s : State) : (setCfg cfg s).lamps = s.lamps := rfl
@[simp] theorem setCfg_port (cfg : Settings) (s : State) : (setCfg cfg s).port = s.port := rfl
@[simp] theorem setCfg_pending (cfg : Settings) (s : State) : (setCfg cfg s).pending = s.pending := rfl

@[simp] theorem setWindow_unit (w : Option CourierWindow) (s : State) : (setWindow w s).unit = s.unit := rfl
@[simp] theorem setWindow_clock (w : Option CourierWindow) (s : State) : (setWindow w s).clock = s.clock := rfl
@[simp] theorem setWindow_cfg (w : Option CourierWindow) (s : State) : (setWindow w s).cfg = s.cfg := rfl
@[simp] theorem setWindow_custody (w : Option CourierWindow) (s : State) : (setWindow w s).custody = s.custody := rfl
@[simp] theorem setWindow_loop (w : Option CourierWindow) (s : State) : (setWindow w s).loop = s.loop := rfl
@[simp] theorem setWindow_member (w : Option CourierWindow) (s : State) : (setWindow w s).member = s.member := rfl
@[simp] theorem setWindow_handoverCounter (w : Option CourierWindow) (s : State) : (setWindow w s).handoverCounter = s.handoverCounter := rfl
@[simp] theorem setWindow_count (w : Option CourierWindow) (s : State) : (setWindow w s).count = s.count := rfl
@[simp] theorem setWindow_position (w : Option CourierWindow) (s : State) : (setWindow w s).position = s.position := rfl
@[simp] theorem setWindow_service (w : Option CourierWindow) (s : State) : (setWindow w s).service = s.service := rfl
@[simp] theorem setWindow_attn (w : Option CourierWindow) (s : State) : (setWindow w s).attn = s.attn := rfl
@[simp] theorem setWindow_door (w : Option CourierWindow) (s : State) : (setWindow w s).door = s.door := rfl
@[simp] theorem setWindow_lamps (w : Option CourierWindow) (s : State) : (setWindow w s).lamps = s.lamps := rfl
@[simp] theorem setWindow_port (w : Option CourierWindow) (s : State) : (setWindow w s).port = s.port := rfl
@[simp] theorem setWindow_pending (w : Option CourierWindow) (s : State) : (setWindow w s).pending = s.pending := rfl

@[simp] theorem raise_unit (r : Reason) (s : State) : (raise r s).unit = s.unit := rfl
@[simp] theorem raise_clock (r : Reason) (s : State) : (raise r s).clock = s.clock := rfl
@[simp] theorem raise_cfg (r : Reason) (s : State) : (raise r s).cfg = s.cfg := rfl
@[simp] theorem raise_custody (r : Reason) (s : State) : (raise r s).custody = s.custody := rfl
@[simp] theorem raise_loop (r : Reason) (s : State) : (raise r s).loop = s.loop := rfl
@[simp] theorem raise_member (r : Reason) (s : State) : (raise r s).member = s.member := rfl
@[simp] theorem raise_handoverCounter (r : Reason) (s : State) : (raise r s).handoverCounter = s.handoverCounter := rfl
@[simp] theorem raise_count (r : Reason) (s : State) : (raise r s).count = s.count := rfl
@[simp] theorem raise_position (r : Reason) (s : State) : (raise r s).position = s.position := rfl
@[simp] theorem raise_service (r : Reason) (s : State) : (raise r s).service = s.service := rfl
@[simp] theorem raise_safe (r : Reason) (s : State) : (raise r s).safe = s.safe := rfl
@[simp] theorem raise_door (r : Reason) (s : State) : (raise r s).door = s.door := rfl
@[simp] theorem raise_lamps (r : Reason) (s : State) : (raise r s).lamps = s.lamps := rfl
@[simp] theorem raise_port (r : Reason) (s : State) : (raise r s).port = s.port := rfl
@[simp] theorem raise_pending (r : Reason) (s : State) : (raise r s).pending = s.pending := rfl

@[simp] theorem raiseResult_unit (tag : Nat) (side : Side) (o : NoteOutcome) (s : State) : (raiseResult tag side o s).unit = s.unit := rfl
@[simp] theorem raiseResult_clock (tag : Nat) (side : Side) (o : NoteOutcome) (s : State) : (raiseResult tag side o s).clock = s.clock := rfl
@[simp] theorem raiseResult_cfg (tag : Nat) (side : Side) (o : NoteOutcome) (s : State) : (raiseResult tag side o s).cfg = s.cfg := rfl
@[simp] theorem raiseResult_custody (tag : Nat) (side : Side) (o : NoteOutcome) (s : State) : (raiseResult tag side o s).custody = s.custody := rfl
@[simp] theorem raiseResult_loop (tag : Nat) (side : Side) (o : NoteOutcome) (s : State) : (raiseResult tag side o s).loop = s.loop := rfl
@[simp] theorem raiseResult_member (tag : Nat) (side : Side) (o : NoteOutcome) (s : State) : (raiseResult tag side o s).member = s.member := rfl
@[simp] theorem raiseResult_handoverCounter (tag : Nat) (side : Side) (o : NoteOutcome) (s : State) : (raiseResult tag side o s).handoverCounter = s.handoverCounter := rfl
@[simp] theorem raiseResult_count (tag : Nat) (side : Side) (o : NoteOutcome) (s : State) : (raiseResult tag side o s).count = s.count := rfl
@[simp] theorem raiseResult_position (tag : Nat) (side : Side) (o : NoteOutcome) (s : State) : (raiseResult tag side o s).position = s.position := rfl
@[simp] theorem raiseResult_service (tag : Nat) (side : Side) (o : NoteOutcome) (s : State) : (raiseResult tag side o s).service = s.service := rfl
@[simp] theorem raiseResult_safe (tag : Nat) (side : Side) (o : NoteOutcome) (s : State) : (raiseResult tag side o s).safe = s.safe := rfl
@[simp] theorem raiseResult_door (tag : Nat) (side : Side) (o : NoteOutcome) (s : State) : (raiseResult tag side o s).door = s.door := rfl
@[simp] theorem raiseResult_lamps (tag : Nat) (side : Side) (o : NoteOutcome) (s : State) : (raiseResult tag side o s).lamps = s.lamps := rfl
@[simp] theorem raiseResult_port (tag : Nat) (side : Side) (o : NoteOutcome) (s : State) : (raiseResult tag side o s).port = s.port := rfl
@[simp] theorem raiseResult_pending (tag : Nat) (side : Side) (o : NoteOutcome) (s : State) : (raiseResult tag side o s).pending = s.pending := rfl

@[simp] theorem quietLoop_unit (s : State) : (quietLoop s).unit = s.unit := rfl
@[simp] theorem quietLoop_clock (s : State) : (quietLoop s).clock = s.clock := rfl
@[simp] theorem quietLoop_cfg (s : State) : (quietLoop s).cfg = s.cfg := rfl
@[simp] theorem quietLoop_custody (s : State) : (quietLoop s).custody = s.custody := rfl
@[simp] theorem quietLoop_member (s : State) : (quietLoop s).member = s.member := rfl
@[simp] theorem quietLoop_handoverCounter (s : State) : (quietLoop s).handoverCounter = s.handoverCounter := rfl
@[simp] theorem quietLoop_count (s : State) : (quietLoop s).count = s.count := rfl
@[simp] theorem quietLoop_position (s : State) : (quietLoop s).position = s.position := rfl
@[simp] theorem quietLoop_service (s : State) : (quietLoop s).service = s.service := rfl
@[simp] theorem quietLoop_safe (s : State) : (quietLoop s).safe = s.safe := rfl
@[simp] theorem quietLoop_attn (s : State) : (quietLoop s).attn = s.attn := rfl
@[simp] theorem quietLoop_door (s : State) : (quietLoop s).door = s.door := rfl
@[simp] theorem quietLoop_lamps (s : State) : (quietLoop s).lamps = s.lamps := rfl
@[simp] theorem quietLoop_port (s : State) : (quietLoop s).port = s.port := rfl
@[simp] theorem quietLoop_pending (s : State) : (quietLoop s).pending = s.pending := rfl

@[simp] theorem lineTaken_unit (s : State) : (lineTaken s).unit = s.unit := rfl
@[simp] theorem lineTaken_clock (s : State) : (lineTaken s).clock = s.clock := rfl
@[simp] theorem lineTaken_cfg (s : State) : (lineTaken s).cfg = s.cfg := rfl
@[simp] theorem lineTaken_custody (s : State) : (lineTaken s).custody = s.custody := rfl
@[simp] theorem lineTaken_member (s : State) : (lineTaken s).member = s.member := rfl
@[simp] theorem lineTaken_handoverCounter (s : State) : (lineTaken s).handoverCounter = s.handoverCounter := rfl
@[simp] theorem lineTaken_count (s : State) : (lineTaken s).count = s.count := rfl
@[simp] theorem lineTaken_position (s : State) : (lineTaken s).position = s.position := rfl
@[simp] theorem lineTaken_service (s : State) : (lineTaken s).service = s.service := rfl
@[simp] theorem lineTaken_safe (s : State) : (lineTaken s).safe = s.safe := rfl
@[simp] theorem lineTaken_attn (s : State) : (lineTaken s).attn = s.attn := rfl
@[simp] theorem lineTaken_door (s : State) : (lineTaken s).door = s.door := rfl
@[simp] theorem lineTaken_lamps (s : State) : (lineTaken s).lamps = s.lamps := rfl
@[simp] theorem lineTaken_port (s : State) : (lineTaken s).port = s.port := rfl
@[simp] theorem lineTaken_pending (s : State) : (lineTaken s).pending = s.pending := rfl

@[simp] theorem driveSlot_unit (s : State) : (driveSlot s).unit = s.unit := rfl
@[simp] theorem driveSlot_clock (s : State) : (driveSlot s).clock = s.clock := rfl
@[simp] theorem driveSlot_cfg (s : State) : (driveSlot s).cfg = s.cfg := rfl
@[simp] theorem driveSlot_custody (s : State) : (driveSlot s).custody = s.custody := rfl
@[simp] theorem driveSlot_member (s : State) : (driveSlot s).member = s.member := rfl
@[simp] theorem driveSlot_handoverCounter (s : State) : (driveSlot s).handoverCounter = s.handoverCounter := rfl
@[simp] theorem driveSlot_count (s : State) : (driveSlot s).count = s.count := rfl
@[simp] theorem driveSlot_position (s : State) : (driveSlot s).position = s.position := rfl
@[simp] theorem driveSlot_service (s : State) : (driveSlot s).service = s.service := rfl
@[simp] theorem driveSlot_safe (s : State) : (driveSlot s).safe = s.safe := rfl
@[simp] theorem driveSlot_attn (s : State) : (driveSlot s).attn = s.attn := rfl
@[simp] theorem driveSlot_door (s : State) : (driveSlot s).door = s.door := rfl
@[simp] theorem driveSlot_lamps (s : State) : (driveSlot s).lamps = s.lamps := rfl
@[simp] theorem driveSlot_port (s : State) : (driveSlot s).port = s.port := rfl
@[simp] theorem driveSlot_pending (s : State) : (driveSlot s).pending = s.pending := rfl

@[simp] theorem sendFrame_unit (target : Nat) (p : Payload) (s : State) : (sendFrame target p s).unit = s.unit := rfl
@[simp] theorem sendFrame_clock (target : Nat) (p : Payload) (s : State) : (sendFrame target p s).clock = s.clock := rfl
@[simp] theorem sendFrame_cfg (target : Nat) (p : Payload) (s : State) : (sendFrame target p s).cfg = s.cfg := rfl
@[simp] theorem sendFrame_custody (target : Nat) (p : Payload) (s : State) : (sendFrame target p s).custody = s.custody := rfl
@[simp] theorem sendFrame_member (target : Nat) (p : Payload) (s : State) : (sendFrame target p s).member = s.member := rfl
@[simp] theorem sendFrame_handoverCounter (target : Nat) (p : Payload) (s : State) : (sendFrame target p s).handoverCounter = s.handoverCounter := rfl
@[simp] theorem sendFrame_count (target : Nat) (p : Payload) (s : State) : (sendFrame target p s).count = s.count := rfl
@[simp] theorem sendFrame_position (target : Nat) (p : Payload) (s : State) : (sendFrame target p s).position = s.position := rfl
@[simp] theorem sendFrame_service (target : Nat) (p : Payload) (s : State) : (sendFrame target p s).service = s.service := rfl
@[simp] theorem sendFrame_safe (target : Nat) (p : Payload) (s : State) : (sendFrame target p s).safe = s.safe := rfl
@[simp] theorem sendFrame_attn (target : Nat) (p : Payload) (s : State) : (sendFrame target p s).attn = s.attn := rfl
@[simp] theorem sendFrame_door (target : Nat) (p : Payload) (s : State) : (sendFrame target p s).door = s.door := rfl
@[simp] theorem sendFrame_lamps (target : Nat) (p : Payload) (s : State) : (sendFrame target p s).lamps = s.lamps := rfl
@[simp] theorem sendFrame_port (target : Nat) (p : Payload) (s : State) : (sendFrame target p s).port = s.port := rfl
@[simp] theorem sendFrame_pending (target : Nat) (p : Payload) (s : State) : (sendFrame target p s).pending = s.pending := rfl

@[simp] theorem setScore_unit (n : Nat) (s : State) : (setScore n s).unit = s.unit := rfl
@[simp] theorem setScore_clock (n : Nat) (s : State) : (setScore n s).clock = s.clock := rfl
@[simp] theorem setScore_cfg (n : Nat) (s : State) : (setScore n s).cfg = s.cfg := rfl
@[simp] theorem setScore_custody (n : Nat) (s : State) : (setScore n s).custody = s.custody := rfl
@[simp] theorem setScore_member (n : Nat) (s : State) : (setScore n s).member = s.member := rfl
@[simp] theorem setScore_handoverCounter (n : Nat) (s : State) : (setScore n s).handoverCounter = s.handoverCounter := rfl
@[simp] theorem setScore_count (n : Nat) (s : State) : (setScore n s).count = s.count := rfl
@[simp] theorem setScore_position (n : Nat) (s : State) : (setScore n s).position = s.position := rfl
@[simp] theorem setScore_service (n : Nat) (s : State) : (setScore n s).service = s.service := rfl
@[simp] theorem setScore_safe (n : Nat) (s : State) : (setScore n s).safe = s.safe := rfl
@[simp] theorem setScore_attn (n : Nat) (s : State) : (setScore n s).attn = s.attn := rfl
@[simp] theorem setScore_door (n : Nat) (s : State) : (setScore n s).door = s.door := rfl
@[simp] theorem setScore_lamps (n : Nat) (s : State) : (setScore n s).lamps = s.lamps := rfl
@[simp] theorem setScore_port (n : Nat) (s : State) : (setScore n s).port = s.port := rfl
@[simp] theorem setScore_pending (n : Nat) (s : State) : (setScore n s).pending = s.pending := rfl

@[simp] theorem oweStart_unit (k : StartKind) (s : State) : (oweStart k s).unit = s.unit := rfl
@[simp] theorem oweStart_clock (k : StartKind) (s : State) : (oweStart k s).clock = s.clock := rfl
@[simp] theorem oweStart_cfg (k : StartKind) (s : State) : (oweStart k s).cfg = s.cfg := rfl
@[simp] theorem oweStart_custody (k : StartKind) (s : State) : (oweStart k s).custody = s.custody := rfl
@[simp] theorem oweStart_loop (k : StartKind) (s : State) : (oweStart k s).loop = s.loop := rfl
@[simp] theorem oweStart_member (k : StartKind) (s : State) : (oweStart k s).member = s.member := rfl
@[simp] theorem oweStart_handoverCounter (k : StartKind) (s : State) : (oweStart k s).handoverCounter = s.handoverCounter := rfl
@[simp] theorem oweStart_count (k : StartKind) (s : State) : (oweStart k s).count = s.count := rfl
@[simp] theorem oweStart_position (k : StartKind) (s : State) : (oweStart k s).position = s.position := rfl
@[simp] theorem oweStart_service (k : StartKind) (s : State) : (oweStart k s).service = s.service := rfl
@[simp] theorem oweStart_safe (k : StartKind) (s : State) : (oweStart k s).safe = s.safe := rfl
@[simp] theorem oweStart_attn (k : StartKind) (s : State) : (oweStart k s).attn = s.attn := rfl
@[simp] theorem oweStart_door (k : StartKind) (s : State) : (oweStart k s).door = s.door := rfl
@[simp] theorem oweStart_lamps (k : StartKind) (s : State) : (oweStart k s).lamps = s.lamps := rfl
@[simp] theorem oweStart_pending (k : StartKind) (s : State) : (oweStart k s).pending = s.pending := rfl

@[simp] theorem releaseSlot_unit (s : State) : (releaseSlot s).unit = s.unit := rfl
@[simp] theorem releaseSlot_clock (s : State) : (releaseSlot s).clock = s.clock := rfl
@[simp] theorem releaseSlot_cfg (s : State) : (releaseSlot s).cfg = s.cfg := rfl
@[simp] theorem releaseSlot_custody (s : State) : (releaseSlot s).custody = s.custody := rfl
@[simp] theorem releaseSlot_member (s : State) : (releaseSlot s).member = s.member := rfl
@[simp] theorem releaseSlot_handoverCounter (s : State) : (releaseSlot s).handoverCounter = s.handoverCounter := rfl
@[simp] theorem releaseSlot_count (s : State) : (releaseSlot s).count = s.count := rfl
@[simp] theorem releaseSlot_position (s : State) : (releaseSlot s).position = s.position := rfl
@[simp] theorem releaseSlot_service (s : State) : (releaseSlot s).service = s.service := rfl
@[simp] theorem releaseSlot_safe (s : State) : (releaseSlot s).safe = s.safe := rfl
@[simp] theorem releaseSlot_attn (s : State) : (releaseSlot s).attn = s.attn := rfl
@[simp] theorem releaseSlot_door (s : State) : (releaseSlot s).door = s.door := rfl
@[simp] theorem releaseSlot_lamps (s : State) : (releaseSlot s).lamps = s.lamps := rfl
@[simp] theorem releaseSlot_port (s : State) : (releaseSlot s).port = s.port := rfl
@[simp] theorem releaseSlot_pending (s : State) : (releaseSlot s).pending = s.pending := rfl

@[simp] theorem endAssembly_unit (s : State) : (endAssembly s).unit = s.unit := rfl
@[simp] theorem endAssembly_clock (s : State) : (endAssembly s).clock = s.clock := rfl
@[simp] theorem endAssembly_cfg (s : State) : (endAssembly s).cfg = s.cfg := rfl
@[simp] theorem endAssembly_custody (s : State) : (endAssembly s).custody = s.custody := rfl
@[simp] theorem endAssembly_loop (s : State) : (endAssembly s).loop = s.loop := rfl
@[simp] theorem endAssembly_member (s : State) : (endAssembly s).member = s.member := rfl
@[simp] theorem endAssembly_handoverCounter (s : State) : (endAssembly s).handoverCounter = s.handoverCounter := rfl
@[simp] theorem endAssembly_position (s : State) : (endAssembly s).position = s.position := rfl
@[simp] theorem endAssembly_service (s : State) : (endAssembly s).service = s.service := rfl
@[simp] theorem endAssembly_safe (s : State) : (endAssembly s).safe = s.safe := rfl
@[simp] theorem endAssembly_attn (s : State) : (endAssembly s).attn = s.attn := rfl
@[simp] theorem endAssembly_door (s : State) : (endAssembly s).door = s.door := rfl
@[simp] theorem endAssembly_lamps (s : State) : (endAssembly s).lamps = s.lamps := rfl
@[simp] theorem endAssembly_port (s : State) : (endAssembly s).port = s.port := rfl
@[simp] theorem endAssembly_pending (s : State) : (endAssembly s).pending = s.pending := rfl

/-! ### What the updates write -/

@[simp] theorem answer_response (st : Status) (b : List Byte) (s : State) :
    (answer st b s).port.response = some { status := st, body := b } := rfl
@[simp] theorem answer_owed (st : Status) (b : List Byte) (s : State) : (answer st b s).port.owed = s.port.owed := rfl
@[simp] theorem newSelect_owed (s : State) : (newSelect s).port.owed = s.port.owed := rfl
@[simp] theorem newSelect_reasons (s : State) : (newSelect s).attn.reasons = s.attn.reasons := rfl
@[simp] theorem newSelect_returned (s : State) : (newSelect s).attn.returned = 0 := rfl
@[simp] theorem setStation_state (st : StationState) (s : State) : (setStation st s).member.state = st := rfl
@[simp] theorem setTable_table (l : List Container) (s : State) : (setTable l s).custody.table = l := rfl
@[simp] theorem setTable_inbound (l : List Container) (s : State) : (setTable l s).custody.inbound = s.custody.inbound := rfl
@[simp] theorem setTable_totals (l : List Container) (s : State) : (setTable l s).custody.totals = s.custody.totals := rfl
@[simp] theorem setInbound_inbound (l : List InboundEntry) (s : State) : (setInbound l s).custody.inbound = l := rfl
@[simp] theorem setInbound_table (l : List InboundEntry) (s : State) :
    (setInbound l s).custody.table = s.custody.table := rfl
@[simp] theorem setInbound_totals (l : List InboundEntry) (s : State) :
    (setInbound l s).custody.totals = s.custody.totals := rfl
@[simp] theorem updateContainer_table (tag : Nat) (f : Container → Container) (s : State) :
    (updateContainer tag f s).custody.table = s.custody.table.map (fun c => if c.tag == tag then f c else c) := rfl
@[simp] theorem updateContainer_inbound (tag : Nat) (f : Container → Container) (s : State) :
    (updateContainer tag f s).custody.inbound = s.custody.inbound := rfl
@[simp] theorem updateContainer_totals (tag : Nat) (f : Container → Container) (s : State) :
    (updateContainer tag f s).custody.totals = s.custody.totals := rfl
@[simp] theorem removeContainer_table (tag : Nat) (s : State) :
    (removeContainer tag s).custody.table = s.custody.table.filter (fun c => c.tag != tag) := rfl
@[simp] theorem removeContainer_inbound (tag : Nat) (s : State) :
    (removeContainer tag s).custody.inbound = s.custody.inbound := rfl
@[simp] theorem removeContainer_totals (tag : Nat) (s : State) :
    (removeContainer tag s).custody.totals = s.custody.totals := rfl
@[simp] theorem appendContainer_table (c : Container) (s : State) :
    (appendContainer c s).custody.table = s.custody.table ++ [c] := rfl
@[simp] theorem appendContainer_inbound (c : Container) (s : State) :
    (appendContainer c s).custody.inbound = s.custody.inbound := rfl
@[simp] theorem appendContainer_totals (c : Container) (s : State) :
    (appendContainer c s).custody.totals = s.custody.totals := rfl
@[simp] theorem updateInbound_inbound (tag : Nat) (f : InboundEntry → InboundEntry) (s : State) :
    (updateInbound tag f s).custody.inbound = s.custody.inbound.map (fun e => if e.tag == tag then f e else e) := rfl
@[simp] theorem updateInbound_table (tag : Nat) (f : InboundEntry → InboundEntry) (s : State) :
    (updateInbound tag f s).custody.table = s.custody.table := rfl
@[simp] theorem removeInbound_inbound (tag : Nat) (s : State) :
    (removeInbound tag s).custody.inbound = s.custody.inbound.filter (fun e => e.tag != tag) := rfl
@[simp] theorem removeInbound_table (tag : Nat) (s : State) : (removeInbound tag s).custody.table = s.custody.table := rfl
@[simp] theorem appendInbound_inbound (e : InboundEntry) (s : State) :
    (appendInbound e s).custody.inbound = s.custody.inbound ++ [e] := rfl
@[simp] theorem appendInbound_table (e : InboundEntry) (s : State) : (appendInbound e s).custody.table = s.custody.table := rfl
@[simp] theorem setCounts_counts (v : Vector Nat 12) (s : State) : (setCounts v s).position.counts = v := rfl
@[simp] theorem setCounts_float (v : Vector Nat 12) (s : State) : (setCounts v s).position.float = s.position.float := rfl
@[simp] theorem setFloatState_float (f : FloatState) (s : State) : (setFloatState f s).position.float = f := rfl
@[simp] theorem setFloatState_counts (f : FloatState) (s : State) :
    (setFloatState f s).position.counts = s.position.counts := rfl
@[simp] theorem setQueue_queue (q : List QueuedFrame) (s : State) : (setQueue q s).loop.queue = q := rfl
@[simp] theorem enqueue_queue (port : Bool) (target : Nat) (p : Payload) (s : State) :
    (enqueue port target p s).loop.queue =
      insertFrame { target := target, payload := p, port := port, onLine := false } s.loop.queue := rfl
@[simp] theorem setRequests_requests (l : List OwnRequest) (s : State) : (setRequests l s).service.requests = l := rfl
@[simp] theorem setRequests_list (l : List OwnRequest) (s : State) : (setRequests l s).service.list = s.service.list := rfl
@[simp] theorem setServiceList_list (l : List ServiceEntry) (s : State) : (setServiceList l s).service.list = l := rfl
@[simp] theorem setServiceList_requests (l : List ServiceEntry) (s : State) :
    (setServiceList l s).service.requests = s.service.requests := rfl
@[simp] theorem addRequest_requests (r : OwnRequest) (s : State) :
    (addRequest r s).service.requests = s.service.requests ++ [r] := rfl
@[simp] theorem setCount_count (c : CountEngine) (s : State) : (setCount c s).count = c := rfl
@[simp] theorem endAssembly_assembled (s : State) : (endAssembly s).count.assembled = [] := rfl
@[simp] theorem endAssembly_state (s : State) : (endAssembly s).count.state = s.count.state := rfl
@[simp] theorem endAssembly_job (s : State) : (endAssembly s).count.job = s.count.job := rfl
@[simp] theorem endAssembly_fifo (s : State) : (endAssembly s).count.fifo = s.count.fifo := rfl
@[simp] theorem endAssembly_batch (s : State) : (endAssembly s).count.batch = s.count.batch := rfl
@[simp] theorem endAssembly_discarding (s : State) : (endAssembly s).count.discarding = s.count.discarding := rfl
@[simp] theorem setDiscarding_discarding (on : Bool) (s : State) : (setDiscarding on s).count.discarding = on := rfl
@[simp] theorem setDiscarding_assembled (on : Bool) (s : State) :
    (setDiscarding on s).count.assembled = s.count.assembled := rfl
@[simp] theorem setDiscarding_state (on : Bool) (s : State) : (setDiscarding on s).count.state = s.count.state := rfl
@[simp] theorem setDiscarding_fifo (on : Bool) (s : State) : (setDiscarding on s).count.fifo = s.count.fifo := rfl
@[simp] theorem setDiscarding_batch (on : Bool) (s : State) : (setDiscarding on s).count.batch = s.count.batch := rfl
@[simp] theorem releaseSlot_slot (s : State) : (releaseSlot s).loop.slotDriven = false := rfl
@[simp] theorem releaseSlot_queue (s : State) : (releaseSlot s).loop.queue = s.loop.queue := rfl
@[simp] theorem setCfg_cfg (cfg : Settings) (s : State) : (setCfg cfg s).cfg = cfg := rfl
@[simp] theorem setWindow_window (w : Option CourierWindow) (s : State) : (setWindow w s).safe.window = w := rfl
@[simp] theorem setScore_score (n : Nat) (s : State) : (setScore n s).loop.faultScore = n := rfl
@[simp] theorem driveSlot_slot (s : State) : (driveSlot s).loop.slotDriven = true := rfl
@[simp] theorem answered_custody (st : Status) (b : List Byte) (s : State) : (answered st b s).custody = s.custody := rfl
@[simp] theorem answered_pending (st : Status) (b : List Byte) (s : State) : (answered st b s).pending = s.pending := rfl

end Sys2Proof.Machine
end

