-- ==== Sys2Proof/Laws/Ops.lean ====
section
/-! SUPPORT. One lemma for each shared operation that says all it can do, to be cited in place of its definition. -/

namespace Sys2Proof.Machine

/-! ### Requests and events -/

theorem portTakes_of_ready {s : State} (h : Ready s) : portTakes s = true := by
  simp [portTakes, h.running, h.noStart]

/-- A request with its fields runs in a new select period. -/
theorem request_fields {α : Type} {s : State} (h : Ready s) (a : α) (run : α → State → State) :
    request (.fields a) s run = .next (run a (newSelect s)) := by
  simp [request, portTakes_of_ready h]

/-- A request of the wrong length is answered BAD_LENGTH and changes nothing. -/
theorem request_wrongLength {α : Type} {s : State} (h : Ready s) (run : α → State → State) :
    request .wrongLength s run = .next (refused .badLength s) := by
  simp [request, portTakes_of_ready h]; rfl

/-- A part that does not take requests ignores one. -/
theorem request_ignored {α : Type} {s : State} (h : portTakes s = false) (b : Body α) (run : α → State → State) :
    request b s run = .next s := by
  simp [request, h]

theorem event_running {s : State} (h : s.unit.power = .running) (run : State → State) : event s run = .next (run s) := by
  simp [event, h]

theorem event_still {s : State} (h : s.unit.power ≠ .running) (run : State → State) : event s run = .next s := by
  simp [event, h]

@[simp] theorem refuse_newSelect (st : Status) (s : State) : refuse st (newSelect s) = refused st s := rfl

@[simp] theorem answer_newSelect (st : Status) (b : List Byte) (s : State) :
    answer st b (newSelect s) = answered st b s := rfl

/-! ### Frames and alarms -/

/-- All that placing a chip frame can do (R38, R40). -/
theorem chipFrame_cases (target : Nat) (p : Payload) (s : State) :
    (s.queueTakes = false ∧ chipFrame target p s = s) ∨
    (s.queueTakes = true ∧ s.chipRoom = true ∧ chipFrame target p s = enqueue false target p s) ∨
    (s.queueTakes = true ∧ s.chipRoom = false ∧ chipFrame target p s = raise .loopFrameDropped s) := by
  unfold chipFrame
  cases h : s.queueTakes <;> cases h' : s.chipRoom <;> simp

/-- A chip frame touches the loop interface and the attention reasons only. -/
theorem chipFrame_frame (target : Nat) (p : Payload) (s : State) :
    chipFrame target p s =
      { s with loop := (chipFrame target p s).loop, attn := (chipFrame target p s).attn } := by
  obtain ⟨_, h⟩ | ⟨_, _, h⟩ | ⟨_, _, h⟩ := chipFrame_cases target p s <;> rw [h] <;> rfl

/-- All that the frame of an alarm can do (R171). -/
theorem alarmFrame_cases (k : AlarmKind) (a : AlarmAction) (tag : Nat) (s : State) :
    (s.member.state ≠ .onLoop ∧ alarmFrame k a tag s = s) ∨
    (s.member.state = .onLoop ∧ alarmFrame k a tag s =
      chipFrame 0 (.alarm { kind := k, action := a, active := s.activeAlarm, tag := tag }) s) := by
  unfold alarmFrame
  by_cases h : s.member.state = .onLoop <;> simp [h]

theorem alarmFrame_frame (k : AlarmKind) (a : AlarmAction) (tag : Nat) (s : State) :
    alarmFrame k a tag s =
      { s with loop := (alarmFrame k a tag s).loop, attn := (alarmFrame k a tag s).attn } := by
  obtain ⟨_, h⟩ | ⟨_, h⟩ := alarmFrame_cases k a tag s
  · rw [h]
  · rw [h]; exact chipFrame_frame _ _ _

theorem raiseAlarm_frame (k : AlarmKind) (s : State) :
    raiseAlarm k s = { s with loop := (raiseAlarm k s).loop, attn := (raiseAlarm k s).attn } := by
  unfold raiseAlarm
  split
  · rfl
  · rw [alarmFrame_frame]

/-- Changing a total touches the totals, the saturation mark, the loop interface and the attention reasons only (R14). -/
theorem changeTotal_frame (k : TotalName) (d : Int) (s : State) :
    changeTotal k d s =
      { s with
        custody := { s.custody with totals := s.custody.totals.put k (boundTotal (s.custody.totals.get k + d)),
                                    saturated := s.custody.saturated || saturates (s.custody.totals.get k + d) },
        loop := (changeTotal k d s).loop, attn := (changeTotal k d s).attn } := by
  unfold changeTotal
  dsimp only
  split
  · rw [alarmFrame_frame]
  · rfl

@[simp] theorem Totals.get_put (t : Totals) (k : TotalName) (v : Int) : (t.put k v).get k = v := by
  cases k <;> rfl

theorem Totals.get_put_ne (t : Totals) {k l : TotalName} (v : Int) (h : l ≠ k) : (t.put k v).get l = t.get l := by
  cases k <;> cases l <;> first | rfl | exact absurd rfl h

/-! ### The waiting commands -/

@[simp] theorem chipFrame_pending (target : Nat) (p : Payload) (s : State) :
    (chipFrame target p s).pending = s.pending := by rw [chipFrame_frame]

@[simp] theorem alarmFrame_pending (k : AlarmKind) (a : AlarmAction) (tag : Nat) (s : State) :
    (alarmFrame k a tag s).pending = s.pending := by rw [alarmFrame_frame]

@[simp] theorem raiseAlarm_pending (k : AlarmKind) (s : State) : (raiseAlarm k s).pending = s.pending := by
  rw [raiseAlarm_frame]

@[simp] theorem changeTotal_pending (k : TotalName) (d : Int) (s : State) :
    (changeTotal k d s).pending = s.pending := by rw [changeTotal_frame]

/-! ### Count records -/

/-- A dropped record is stray without a session, and in one it begins or goes on with a batch that it damages (R86, R87,
R89). -/
theorem recordDropped_cases (r : DropReason) (s : State) :
    (s.count.state.sessionOpen = false ∧ recordDropped r s = strayRecord s) ∨
    (s.count.state.sessionOpen = true ∧ recordDropped r s = { s with count := { (beginBatch s).count with
      batch := { (beginBatch s).count.batch with
        dropped := min 255 ((beginBatch s).count.batch.dropped + 1),
        damage := (beginBatch s).count.batch.damage.add (dropDamage r) } } }) := by
  unfold recordDropped
  cases h : s.count.state.sessionOpen
  · exact .inl ⟨rfl, rfl⟩
  · refine .inr ⟨rfl, ?_⟩
    simp only [if_true]
    unfold beginBatch
    cases s.count.state <;> rfl

/-- A dropped record touches the count engine only. -/
theorem recordDropped_frame (r : DropReason) (s : State) :
    recordDropped r s = { s with count := (recordDropped r s).count } := by
  obtain ⟨_, h⟩ | ⟨_, h⟩ := recordDropped_cases r s
  · rw [h]; rfl
  · rw [h]

/-- All that abandoning a record in assembly can do (R85, R93). -/
theorem abandonAssembly_cases (s : State) :
    (s.count.assembled = [] ∧ abandonAssembly s = s) ∨
    (s.count.assembled ≠ [] ∧ abandonAssembly s = recordDropped .framing (endAssembly s)) := by
  unfold abandonAssembly
  by_cases h : s.count.assembled = []
  · exact .inl ⟨h, by simp [h]⟩
  · exact .inr ⟨h, by simp [h, recordAbandoned]⟩

theorem abandonAssembly_frame (s : State) : abandonAssembly s = { s with count := (abandonAssembly s).count } := by
  obtain ⟨_, h⟩ | ⟨_, h⟩ := abandonAssembly_cases s
  · rw [h]
  · rw [h, recordDropped_frame]; rfl

/-- All that a character of the count line can do: nothing, join the record being assembled, or complete it (R86). -/
theorem withCountCharacter_cases (c : Byte) (s : State) :
    ((s.unit.power ≠ .running ∨ s.count.discarding = true) ∧ s.withCountCharacter c = s) ∨
    (s.unit.power = .running ∧ s.count.discarding = false ∧
      ((∃ c0 c1 c2, s.count.assembled = [c0, c1, c2] ∧
          s.withCountCharacter c = { endAssembly s with pending := s.pending ++ [recordCommand c0 c1 c2 c] }) ∨
        (s.count.assembled.length ≠ 3 ∧
          s.withCountCharacter c = setCount { s.count with assembled := s.count.assembled ++ [c] } s))) := by
  unfold State.withCountCharacter
  by_cases hp : s.unit.power = .running
  · cases hd : s.count.discarding
    · refine .inr ⟨hp, rfl, ?_⟩
      simp only [hp, ne_eq, not_true_eq_false, Bool.false_eq_true, if_false, decide_false, Bool.or_self]
      split
      · rename_i c0 c1 c2 h
        exact .inl ⟨c0, c1, c2, h, rfl⟩
      · rename_i h
        refine .inr ⟨fun hl => ?_, rfl⟩
        obtain ⟨a, b, d, e⟩ := List.length_eq_three.mp hl
        exact h a b d e
    · exact .inl ⟨.inr rfl, by simp⟩
  · exact .inl ⟨.inl hp, by simp [hp]⟩

/-! ### Offers heard -/

/-- The entries that an OFFER's number meets (R67). -/
theorem mem_sameNumber {s : State} {giver number tag : Nat} {e : InboundEntry} :
    e ∈ s.sameNumber giver number tag ↔
      e ∈ s.custody.inbound ∧ e.giver = giver ∧ e.number = number ∧ e.tag ≠ tag := by
  simp [State.sameNumber, and_assoc]

/-- All that the number check of R67 can do: refuse, or place the OFFER once the entries it meets have lapsed. -/
theorem offerNumbered_cases (sender : Nat) (p : OfferPayload) (s : State) :
    ((∃ e ∈ s.sameNumber sender p.number p.tag, underTake e = true) ∧
      offerNumbered sender p s = refuseOffer sender p .duplicateTag s) ∨
    ((∀ e ∈ s.sameNumber sender p.number p.tag, underTake e = false) ∧
      offerNumbered sender p s =
        placeOffer sender p ((s.sameNumber sender p.number p.tag).foldl (fun s e => lapseEntry e s) s)) := by
  unfold offerNumbered
  cases h : (s.sameNumber sender p.number p.tag).any underTake
  · exact .inr ⟨by simpa using h, by simp [h]⟩
  · exact .inl ⟨by simpa using h, by simp [h]⟩

/-! ### Lists -/

/-- A frame joins the queue and no frame leaves it. -/
theorem insertFrame_perm (f : QueuedFrame) (q : List QueuedFrame) : (insertFrame f q).Perm (f :: q) := by
  induction q with
  | nil => exact List.Perm.refl _
  | cons g q ih =>
    unfold insertFrame
    split
    · exact List.Perm.refl _
    · exact (ih.cons g).trans (List.Perm.swap f g q)

/-- The queue stays ordered by class (R37). -/
theorem insertFrame_ordered (f : QueuedFrame) (q : List QueuedFrame)
    (h : q.Pairwise (fun a b => frameClass a.payload ≤ frameClass b.payload)) :
    (insertFrame f q).Pairwise (fun a b => frameClass a.payload ≤ frameClass b.payload) := by
  induction q with
  | nil => simp [insertFrame]
  | cons g q ih =>
    rw [List.pairwise_cons] at h
    unfold insertFrame
    split
    · rename_i hlt
      refine List.pairwise_cons.mpr ⟨fun b hb => ?_, List.pairwise_cons.mpr h⟩
      rcases List.mem_cons.mp hb with rfl | hb
      · exact hlt.le
      · exact hlt.le.trans (h.1 b hb)
    · rename_i hge
      refine List.pairwise_cons.mpr ⟨fun b hb => ?_, ih h.2⟩
      rcases List.mem_cons.mp ((insertFrame_perm f q).mem_iff.mp hb) with rfl | hb
      · exact not_lt.mp hge
      · exact h.1 b hb

/-- The last entries of a history are at most as many as it keeps (R10, R162). -/
theorem keepLast_length {α : Type} (n : Nat) (l : List α) : (keepLast n l).length ≤ n := by
  unfold keepLast
  rw [List.length_drop]
  omega

end Sys2Proof.Machine
end

