-- ==== Sys2Proof/Tests/Slice0.lean ====
section
/-! SUPPORT. Tests: ill-formed commands, worked examples of the spec, and for each statement with hypotheses a state and
operands that meet the hypotheses of its clauses. -/

namespace Sys2Proof.Tests

open Machine

/-! ### Small states -/

def peerOf (r : Role) : PeerEntry := { unknownPeer with state := .live, role := some r, m := some 3 }

/-- Station 1 with slot 0 at face 100, unit 10, and slot 1 at face 1000; peers 2 a till, 3 a desk, 4 a safe, all LIVE. -/
def station (r : Role) (st : StationState) : State :=
  { State.reset with
    unit := { State.reset.unit with role := some r, recordedRole := some r },
    clock := 1000000,
    cfg := { defaultSettings with
      number := some 1,
      denoms := (defaultSettings.denoms.setIfInBounds 0 { face := 100, kind := .coin, unit := 10 }).setIfInBounds 1
        { face := 1000, kind := .note, unit := 1 } },
    member := { State.reset.member with
      state := st,
      peers := ((unknownPeers.setIfInBounds 1 (peerOf .till)).setIfInBounds 2 (peerOf .desk)).setIfInBounds 3
        (peerOf .safe) } }

def till : State := station .till .onLoop
def desk : State := station .desk .onLoop
def safe : State := station .safe .onLoop

def bag (tag : Nat) (c : ContainerClass) (st : ContainerState) : Container :=
  { tag := tag, cls := c, state := st, origin := 1, value := 500, disputed := false, handovers := 0, lastResult := .none,
    comp := some [(0, 5)], counted := none, handover := none, deferred := none, nesting := none, sack := none,
    refusal := none, recallEnds := none, overdueAlarm := false }

/-- A pouch handed to desk 3 under number 9, with a deadline. -/
def sent (st : ContainerState) (deadline : Nat) : Container :=
  { bag 7 .pickupPouch st with handover := some { peer := 3, number := 9, deadline := deadline, purpose := 0 } }

def entry (st : InboundState) : InboundEntry :=
  { giver := 3, number := 9, tag := 8, cls := .floatBag, value := 500, comp := none, counted := some 500, purpose := 0,
    origin := 3, lapse := 1000000, state := st, queryPending := false, queryWaitEnds := none }

def need (ph : RequestPhase) : OwnRequest :=
  { id := 5, kind := .pickup, comp := [(0, 1)], value := 100, urgency := .normal, phase := ph, reopened := false,
    raisedAt := 0, openAge := 0 }

def wanted (st : ServiceState) : ServiceEntry :=
  { requester := 2, id := 5, kind := .pickup, urgency := .normal, value := 100, comp := [(0, 1)], reopened := false,
    heard := 0, state := st, listedRaised := true }

def withTable (s : State) (l : List Container) : State := { s with custody := { s.custody with table := l } }
def withInbound (s : State) (l : List InboundEntry) : State := { s with custody := { s.custody with inbound := l } }
def withNeeds (s : State) (l : List OwnRequest) : State := { s with service := { s.service with requests := l } }
def withList (s : State) (l : List ServiceEntry) : State := { s with service := { s.service with list := l } }
def withQueue (s : State) (l : List QueuedFrame) : State := { s with loop := { s.loop with queue := l } }
def withPieces (s : State) (n : Nat) : State :=
  { s with position := { s.position with counts := s.position.counts.setIfInBounds 0 n } }
def withPower (s : State) (p : Power) : State := { s with unit := { s.unit with power := p } }
def withState (s : State) (st : StationState) : State := { s with member := { s.member with state := st } }
def withRole (s : State) (r : Option Role) : State := { s with unit := { s.unit with role := r } }
def withPeer (s : State) (n : Nat) (e : PeerEntry) : State := setPeer n e s
def withWindow (s : State) (w : Option CourierWindow) : State := { s with safe := { s.safe with window := w } }

/-- A count session in a state, of a mode, with records. -/
def counting (s : State) (st : CountState) (m : CountMode) (l : List CountEntry) : State :=
  { s with count := { s.count with
      state := st, job := some { mode := m, tag := if isStanding m then 0 else 7, expected := none }, fifo := l,
      batch := { noBatch with taken := l.length } } }

/-- A frame of the queue on the line. -/
def onLine (s : State) (target : Nat) (p : Payload) : State :=
  { s with loop := { s.loop with queue := [{ target := target, payload := p, port := true, onLine := true }],
                                 sending := some { sender := s.own, target := target, payload := p } } }

/-- A frame on the line that never was in the queue. -/
def alone (s : State) (target : Nat) (p : Payload) : State :=
  { s with loop := { s.loop with sending := some { sender := s.own, target := target, payload := p } } }

def filler (port : Bool) : QueuedFrame :=
  { target := 2, payload := .recall { tag := 1, number := 1 }, port := port, onLine := false }

def fullPort (s : State) : State := withQueue s (List.replicate 8 (filler true))
def fullQueue (s : State) : State := withQueue s (List.replicate 12 (filler false))
def fullTable (s : State) : State := withTable s (List.replicate 48 (bag 1 .floatBag .held))

theorem onLine_of (s : State) (target : Nat) (p : Payload) (h : s.unit.power = .running) :
    OnLine (onLine s target p) target p := ⟨h, rfl, _, rfl, rfl, rfl⟩

theorem all_none {α : Type} {o : Option α} {P : α → Prop} (h : o = none) : ∀ a, o = some a → P a := by
  intro a k; rw [h] at k; cases k

theorem all_some {α : Type} {o : Option α} {b : α} {P : α → Prop} (h : o = some b) (p : P b) : ∀ a, o = some a → P a := by
  intro a k; rw [h] at k; cases k; exact p

/-! ### Ill-formed commands are refused (WellFormed) -/

theorem test_kind_byte_known : Instr.wellFormed (.unknownKindRequest 0x01) = false := by decide
theorem test_kind_byte_wide : Instr.wellFormed (.unknownKindRequest 256) = false := by decide
theorem test_byte_field : Instr.wellFormed (.setStation (.fields 256)) = false := by decide
theorem test_pair_field : Instr.wellFormed (.setCount (.fields 65536)) = false := by decide
theorem test_face_field :
    Instr.wellFormed (.setDenomination (.fields { slot := 0, face := 16777216, kind := 0, unit := 1 })) = false := by decide
theorem test_loop_field : Instr.wellFormed (.setLoop (.fields { autoRejoin := 0, m := 256 })) = false := by decide
theorem test_transit_field : Instr.wellFormed (.setTransit (.fields { cls := 256, minutes := 1 })) = false := by decide
theorem test_line_field :
    Instr.wellFormed (.setCountLine (.fields { baud := 0, parity := 0, stop := 256 }) false) = false := by decide
theorem test_tolerance_field :
    Instr.wellFormed (.setTolerance (.fields { absolute := 65536, relative := 0 })) = false := by decide
theorem test_float_field :
    Instr.wellFormed (.setFloat (.fields { slot := 0, target := 65536, pickup := 0, change := 0 })) = false := by decide
theorem test_cap_field :
    Instr.wellFormed (.setFloatStation (.fields { pickupTrigger := 2 ^ 40, topupCap := 0, autoRaise := 0 })) = false := by
  decide
theorem test_service_field :
    Instr.wellFormed (.setService (.fields { requestLimit := 256, escalation := 0, claimLimit := 0 })) = false := by decide
theorem test_cover_field : Instr.wellFormed (.setCover (.fields
    { primaryLow := 1, primaryHigh := 1, backupLow := 1, backupHigh := 1, delay := 65536 })) = false := by decide
theorem test_tag_field : Instr.wellFormed (.dismantle (.fields (2 ^ 32))) = false := by decide
theorem test_make_up_field :
    Instr.wellFormed (.makeUp (.fields { tag := 1, cls := 0, comp := [(0, 65536)] })) = false := by decide
theorem test_offer_field :
    Instr.wellFormed (.offer (.fields { tag := 1, receiver := 256, purpose := 0 })) = false := by decide
theorem test_take_field :
    Instr.wellFormed (.take (.fields { tag := 1, giver := 1, cls := 0, value := 2 ^ 40 })) = false := by decide
theorem test_count_open_field :
    Instr.wellFormed (.countOpen (.fields { mode := 0, tag := 0, expected := 16777216 })) = false := by decide
theorem test_need_field :
    Instr.wellFormed (.raiseNeed (.fields { kind := 0, urgency := 0, comp := [(256, 1)] })) = false := by decide
theorem test_claim_field : Instr.wellFormed (.claim (.fields { requester := 256, id := 1 })) = false := by decide
theorem test_admit_field :
    Instr.wellFormed (.admitStock (.fields { tag := 1, cls := 3, value := 2 ^ 40, comp := [] })) = false := by decide
theorem test_nest_field : Instr.wellFormed (.nest (.fields { sack := 2 ^ 32, member := 1 })) = false := by decide
theorem test_sender_field : Instr.wellFormed (.recallReceived 57 1 { tag := 1, number := 1 }) = false := by decide
theorem test_payload_field :
    Instr.wellFormed (.takenReceived 2 1 { tag := 1, number := 65536, value := 0 }) = false := by decide
theorem test_any_frame_field : Instr.wellFormed (.intactFrameHeard
    { sender := 2, target := 58, payload := .recall { tag := 1, number := 1 } }) = false := by decide
theorem test_peer_field : Instr.wellFormed (.peerQuiet 0) = false := by decide
theorem test_timer_tag : Instr.wellFormed (.transitDeadline (2 ^ 32)) = false := by decide
theorem test_record_slot : Instr.wellFormed (.countRecord 16 false 1) = false := by decide
theorem test_record_count : Instr.wellFormed (.endRecord 4096) = false := by decide
theorem test_timer_id : Instr.wellFormed (.requestExpiry 256) = false := by decide
theorem test_backup_id : Instr.wellFormed (.backupEligible 57 1) = false := by decide

/-! ### Worked examples of the spec -/

/-- 2.9: the sender's character of stations 22 and 31. -/
theorem test_sender_character : mirror 22#8 = 0x68#8 ∧ mirror 31#8 = 0xF8#8 := by decide

/-- 2.9: the kind characters of TAKEN and CLAIM. -/
theorem test_kind_characters :
    kindCharacter (.taken { tag := 1, number := 1, value := 0 }) = 0x24#8 ∧
    kindCharacter (.claim { id := 4, kind := .pickup, role := .desk }) = 0x66#8 := by decide

/-- 2.9: the TAKEN of till 9 wins against the CLAIM of desk 22, and that against the CLAIM of desk 31. -/
theorem test_three_contenders :
    let taken : Frame := { sender := 9, target := 40, payload := .taken { tag := 5100044, number := 2205, value := 0 } }
    let claim (n : Nat) : Frame := { sender := n, target := 7, payload := .claim { id := 4, kind := .pickup, role := .desk } }
    Frame.wins taken (claim 22) = true ∧ Frame.wins (claim 22) (claim 31) = true ∧
      Frame.wins (claim 31) (claim 22) = false := by decide

set_option maxRecDepth 100000 in
/-- R26: the check of the characters 0x31 to 0x39 is 0x29B1. -/
theorem test_check : crc16 [0x31, 0x32, 0x33, 0x34, 0x35, 0x36, 0x37, 0x38, 0x39] = 0x29B1#16 := by decide

/-- 9.7: the manifest check, before and after the second bag is unnested. -/
theorem test_manifest_check :
    let a := { bag 40123456 .depositBag .nested with value := 1244000 }
    let b := { bag 40123470 .depositBag .nested with value := 3500000 }
    let c := { bag 7000001 .depositBag .nested with value := 250050 }
    manifestCheck [a, b, c] = 5364449 ∧ manifestCheck [a, c] = 1617508 := by decide

/-- The settings of 7.7, with the cap given. -/
def afternoon (cap : Nat) : Settings :=
  { defaultSettings with
    denoms := ((defaultSettings.denoms.setIfInBounds 2 { face := 2000, kind := .note, unit := 100 }).setIfInBounds 6
      { face := 100, kind := .coin, unit := 25 }).setIfInBounds 7 { face := 50, kind := .coin, unit := 40 },
    floats := ((defaultSettings.floats.setIfInBounds 2 { target := 50, pickup := 200, change := 0 }).setIfInBounds 6
      { target := 100, pickup := 0, change := 25 }).setIfInBounds 7 { target := 80, pickup := 0, change := 20 },
    pickupTrigger := 150000, topupCap := cap }

/-- The position of a list of slots. -/
def held (l : List (Nat × Nat)) (d : Nat) : Nat := compAt l d

/-- 7.7 after Event 1: pickup, top-up trimmed to the cap, low slots and needs. -/
theorem test_float_levels :
    floatStateOf (some .till) (afternoon 10000) (held [(2, 150), (6, 18), (7, 70)]) =
      { pickup := [(2, 100)], pickupValue := 200000, uncapped := [(6, 100), (7, 40)], uncappedValue := 12000,
        topup := [(6, 75), (7, 40)], topupValue := 9500, low := [6], urgent := false, pickupNeed := true,
        topupNeed := true, changeNeed := false, capped := false } := by decide

/-- 7.8: a cap that leaves nothing. -/
theorem test_float_cap :
    let f := floatStateOf (some .till) (afternoon 1000) (held [(2, 120), (6, 18), (7, 70)])
    f.topup = [] ∧ f.topupValue = 0 ∧ f.capped = true ∧ f.topupNeed = false := by decide

/-- The settings of 6.8. -/
def pouchDesk : Settings :=
  { defaultSettings with
    tolAbs := 1000, tolRel := 5,
    denoms := (((defaultSettings.denoms.setIfInBounds 0 { face := 10000, kind := .note, unit := 100 }).setIfInBounds 1
      { face := 5000, kind := .note, unit := 100 }).setIfInBounds 2 { face := 2000, kind := .note, unit := 100 }).setIfInBounds 3
      { face := 1000, kind := .note, unit := 100 } }

/-- 6.8: the tally of the pouch, its straps of slot 2, the warning, and the class of its variance. -/
theorem test_pouch_tally :
    let fifo : List CountEntry := [⟨0, false, 50⟩, ⟨1, false, 99⟩, ⟨1, true, 1⟩, ⟨2, false, 100⟩, ⟨3, false, 49⟩]
    let t := tallyPart pouchDesk fifo (some 300)
    t.piecesGood = 298 ∧ t.piecesSusp = 1 ∧ t.countedValue = 1244000 ∧ t.suspectValue = 5000 ∧ t.mismatch = some true ∧
      headMismatch t (some 299) = false ∧ pouchDesk.classify 1244000 1250000 = .short := by decide

/-- 6.9: tolerances by declared value, and the boundary of WITHIN and OVER. -/
theorem test_tolerance_limits :
    pouchDesk.tolerance 0 = 1000 ∧ pouchDesk.tolerance 1999999 = 1000 ∧ pouchDesk.tolerance 2000020 = 1000 ∧
      pouchDesk.classify 2001000 2000000 = .within ∧ pouchDesk.classify 2001001 2000000 = .over := by decide

/-- The books after one command. -/
def after (c : Instr) (s : State) (p : State → Bool) : Bool :=
  match exec c s with
  | .next t => p t
  | .fault _ => false
  | .refused _ => false

/-- Till of 7.7 with a batch of good pieces in slot 6. -/
def afternoonTill (m : CountMode) (pieces good : Nat) : State :=
  { till with
    cfg := { afternoon 10000 with number := some 7 },
    position := { till.position with counts := (till.position.counts.setIfInBounds 6 pieces).setIfInBounds 2 150 },
    count := { till.count with
      state := .running, job := some { mode := m, tag := 0, expected := none },
      fifo := [{ slot := 6, suspect := false, count := good }] } }

/-- R86, R179: four characters, COUNT of 5 pieces of slot 2, are one record command; a fifth begins the next record. -/
theorem test_four_characters :
    let s := ([0x42, 0x00, 0x05, 0x47, 0x80].foldl (fun s c => s.withCountCharacter c) till)
    s.pending = [.countRecord 2 false 5] ∧ s.count.assembled = [0x80] := by decide

/-- R85, R86: 0x42 holds two ones, so its parity bit is 0 under even parity and 1 under odd; 10, 11 and 12 bit times; a parity bit
that is wrong, and a second stop bit read as 0. -/
theorem test_count_character_bits :
    let even : CountLine := { baud := 1, parity := 1, stop := 1 }
    let odd : CountLine := { baud := 1, parity := 2, stop := 2 }
    countCharacterBits even 0x42 = [false, false, true, false, false, false, false, true, false, false, true] ∧
      countCharacterBits odd 0x42 = [false, false, true, false, false, false, false, true, false, true, true, true] ∧
      [characterTime { even with parity := 0 }, characterTime even, characterTime odd] = [10, 11, 12] ∧
      readCountCharacter even [false, false, true, false, false, false, false, true, false, true, true] = .parityError ∧
      readCountCharacter odd [false, false, true, false, false, false, false, true, false, true, true, false] =
        .framingError := by decide

/-- R86: a character with a wrong parity bit, after two good ones, drops the record being assembled with PARITY. -/
theorem test_count_bits_drop :
    let good := [false, false, true, false, false, false, false, true, false, false, true]
    let bad := [false, false, true, false, false, false, false, true, false, true, true]
    let s := [good, good].foldl (fun s b => s.withCountBits b) till
    s.count.assembled = [0x42, 0x42] ∧ (s.withCountBits bad).pending = [.droppedRecord .parity] ∧
      (s.withCountBits bad).count.assembled = [] := by decide

/-- R85: the idle count line, eleven bit times at 1, is no character. -/
theorem test_count_line_idle : till.withCountBits (List.replicate 11 true) = till := by decide

/-- R25: ten recessive bits are no character. -/
theorem test_no_start_bit : readCharacter (List.replicate 10 true) = none := by decide

/-- R25, R32: a frame reads back with idle time before it, and between its characters up to one and a half of them, no more. -/
theorem test_idle_within_a_frame :
    let f : Frame := { sender := 2, target := 3, payload := .recall { tag := 7, number := 9 } }
    let bits (n : Nat) := List.replicate 40 true ++ (Frame.characters f).flatMap (fun c => characterBits c ++ List.replicate n true)
    readLine (bits 0) = some f ∧ readLine (bits 15) = some f ∧ readLine (bits 16) = none := by decide +kernel

/-- R30, R51: of two ANNOUNCEs of station 5 the one with serial 7 wins over that with serial 9, whose sender loses at the first data
bit in which the mirrored last characters of the serials differ, bit 4 of character 7, and drives no further bit; the winner reads
its frame as sent, and the command carries its serial. -/
theorem test_serial_lost :
    let announce (x : BitVec 32) : Frame := { sender := 5, target := 0, payload := .announce { serial := x, role := .till, m := 3 } }
    let driven := (Frame.lineLevels (announce 9)).take 76 ++ List.replicate 44 true
    let line := wired (Frame.lineLevels (announce 7)) driven
    let s := { till with loop := { till.loop with sending := some (announce 9) } }
    line = Frame.lineLevels (announce 7) ∧ Frame.readBack (announce 9) line = .lost 75 ∧
      (s.withReadBack line).pending = [.announceLostSerial 7] := by decide +kernel

/-- R31: of a RECALL of station 2 to station 3, a recessive data bit of character 1 read dominant has lost arbitration; one of the
target, a start bit read recessive and a stop bit read dominant are faults, and so is a dominant data bit of character 1 read recessive. -/
theorem test_read_back_faults :
    let f : Frame := { sender := 2, target := 3, payload := .recall { tag := 7, number := 9 } }
    let turned (i : Nat) := Frame.readBack f ((Frame.lineLevels f).set i (!(Frame.lineLevels f).getD i true))
    (Frame.lineLevels f).getD 17 false = true ∧ [17, 21, 20, 19, 11].map turned =
      [.lost 17, .fault 21, .fault 20, .fault 19, .fault 11] := by decide +kernel

/-- R34: ten dominant levels have a bad stop bit, a recessive slot is absent, and so is the character 0x01. -/
theorem test_slot_absent :
    [List.replicate 10 false, List.replicate 10 true, characterBits 0x01#8].map slotPresent = [false, false, false] := by decide

/-- R165: 0xFF while a request of two bytes comes in and for three more, then OK, the length and the body, then 0xFF again. -/
theorem test_port_bytes :
    (List.range 9).map (fun i => returnedByte 2 3 (some { status := .ok, body := [0x07] }) i) =
      [0xFF, 0xFF, 0xFF, 0xFF, 0xFF, 0x00, 0x01, 0x07, 0xFF] := by decide

/-- R177: the port of a part held in reset returns 0xFF, whatever its response was. -/
theorem test_port_in_reset :
    let s := { till with port := { till.port with response := some { status := .ok, body := [] } } }
    s.portByte 2 0 2 = some 0x00 ∧ { s with unit := { s.unit with power := .inReset } }.portByte 2 0 2 = some 0xFF := by decide

/-- 7.7, Event 3: a payout of 20 from a count of 18. -/
theorem test_payout_beyond_the_books : after (.endRecord 20) (afternoonTill .payout 18 20) (fun t =>
    t.pieces 6 == 0 && t.custody.totals.payout == 2000 && t.custody.totals.difference == 200 &&
      t.alarmSet .positionLimit) = true := by decide

/-- R116: an intake of 10 onto 65530 pieces stores 65535; the face value here is 100. -/
theorem test_intake_clamp : after (.endRecord 10) (afternoonTill .intake 65530 10) (fun t =>
    t.pieces 6 == 65535 && t.custody.totals.intake == 1000 && t.custody.totals.difference == -500) = true := by decide

/-- 7.7, Event 2: MAKE_UP of a pouch of 100 notes. -/
theorem test_make_up_takes_the_pieces :
    after (.makeUp (.fields { tag := 7000140, cls := 1, comp := [(2, 100)] })) (afternoonTill .intake 18 1) (fun t =>
      t.pieces 2 == 50 && t.custody.table.map (fun c => (c.tag, c.value)) == [(7000140, 200000)] &&
        !t.position.float.pickupNeed) = true := by decide

/-! ### Witnesses: for each statement with hypotheses, states and operands that meet the hypotheses of its clauses -/

theorem witness_StepRunsFront : ({ State.reset with pending := [.lampStep] } : State).pending = .lampStep :: [] := by decide

theorem witness_IdleStepIsTimerStep :
    (withPower till .off).pending = [] ∧ (withPower till .off).unit.power ≠ .running ∧
    State.reset.pending = [] ∧ State.reset.unit.power = .running ∧ onTheLine State.reset.member.state = false ∧
    till.pending = [] ∧ till.unit.power = .running ∧ onTheLine till.member.state = true := by decide

theorem witness_CommandsGoOnAndAHeldPartStandsStill :
    (withPower till .inReset).unit.power ≠ .running ∧ (∀ p, Instr.lampStep ≠ .powerUp p) ∧
    (∀ p, Instr.lampStep ≠ .coldStart p) ∧ (∀ p, Instr.lampStep ≠ .warmStart p) ∧
    (∀ n, Instr.lampStep ≠ .resetPinLow n) ∧ (∀ b, Instr.lampStep ≠ .mainSupplyLoss b) := by
  refine ⟨by decide, ?_, ?_, ?_, ?_, ?_⟩ <;> intro _ h <;> cases h

theorem witness_ColdStartBuildsEmptyBooks :
    till.unit.power ≠ .off ∧ (withPower till .inReset).unit.power ≠ .off := by decide

/-- A container in each state, an inbound entry being taken, a request in each state. -/
def shelf : State :=
  withNeeds (withInbound (withTable till [bag 1 .floatBag .held, bag 2 .floatBag .counting, sent .offering 1, sent .outbound 1,
    sent .recalling 1, sent .overdue 1, bag 3 .floatBag .nested]) [entry .taking, entry .unresolved])
    [need .opened, need (.claimed 3 1), need (.serving 3 1 7)]

theorem witness_WarmStartKeepsAndAdjusts :
    till.unit.power ≠ .off ∧ shelf.unit.power ≠ .off ∧
    shelf.custody.table.map (·.state) = [.held, .counting, .offering, .outbound, .recalling, .overdue, .nested] ∧
    shelf.custody.inbound.map (·.state) = [.taking, .unresolved] ∧
    shelf.service.requests.map (·.phase) = [.opened, .claimed 3 1, .serving 3 1 7] := by decide

/-- A part without supply whose retention marker did not last. -/
def lapsed : State := { till with unit := { till.unit with power := .off, marker := false } }

theorem witness_SupplyAndResetPin :
    ((withPower till .off).unit.power = .off ∧ (withPower till .off).unit.marker = true) ∧
    (lapsed.unit.power = .off ∧ lapsed.unit.marker = false) ∧
    till.unit.power ≠ .off ∧ (9 : Nat) < 10 ∧ (10 : Nat) ≤ 10 := by decide

def owing (k : StartKind) : State := { till with port := { till.port with owed := some k } }

theorem witness_StartsWaitForSelectRelease :
    Ready till ∧ (till.accountable = 0 ∧ till.custody.table = [] ∧ till.custody.inbound = [] ∧ till.service.requests = []) ∧
    Ready shelf ∧ ¬ (shelf.accountable = 0 ∧ shelf.custody.table = [] ∧ shelf.custody.inbound = [] ∧
      shelf.service.requests = []) ∧
    ((owing .warm).unit.power = .running ∧ (owing .warm).port.owed = some .warm) ∧
    ((owing .cold).unit.power = .running ∧ (owing .cold).port.owed = some .cold) ∧ till.port.owed = none := by
  repeat' first | decide | constructor

theorem witness_MalformedAndMistimedRequestsChangeNothing :
    Ready State.reset ∧ Ready till ∧ onTheLine till.member.state = true ∧
    Ready (withState till .duplicate) ∧ onTheLine (withState till .duplicate).member.state = true := by
  repeat' first | decide | constructor

theorem witness_SettingsAreClampedAndStored :
    (Ready State.reset ∧ State.reset.member.state = .unconfigured) ∧
    (Ready (withState till .stopped) ∧ (withState till .stopped).member.state = .stopped) ∧ (4 : Nat) ≤ 4 ∧
    ((withState till .stopped).custody.inbound = [] ∧ (withState till .stopped).service.requests = []) ∧
    ¬ ((withState shelf .stopped).custody.inbound = [] ∧ (withState shelf .stopped).service.requests = []) ∧
    (counting (withState till .stopped) .opened .intake []).count.state.sessionOpen = true ∧
    (withState till .stopped).count.state.sessionOpen = false := by
  repeat' first | decide | constructor

theorem witness_LevelSettingsEvaluate :
    Ready (withState till .stopped) ∧ (11 : Nat) < 12 ∧ (∀ e, (withState till .stopped).pieces e = 0) ∧
    (withState till .stopped).custody.table = [] ∧ (12 : Nat) ≤ 12 ∧
    ¬ (∀ e, (withPieces (withState till .stopped) 1).pieces e = 0) ∧ (withState shelf .stopped).custody.table ≠ [] := by
  refine ⟨⟨by decide, by decide⟩, by decide, ?_, by decide, by decide, fun h => absurd (h 0) (by decide), by decide⟩
  intro e
  by_cases h : e < 12 <;> simp [State.pieces, withState, till, station, State.reset, State.cold, h]

/-- STOPPED with two slots in use, and with slot 0 alone in use. -/
theorem witness_LevelSettingsEvaluate_last :
    let two := withState till .stopped
    let one := { two with cfg := { two.cfg with denoms := two.cfg.denoms.setIfInBounds 1 unusedSlot } }
    (two.member.state = .stopped ∧ (1 : Nat) ≠ 0 ∧ two.cfg.inUse 1 = true ∧ two.cfg.inUse 11 = false) ∧
    (Ready one ∧ one.member.state = .stopped ∧ one.cfg.inUse 0 = true ∧ (∀ e, e < 12 → e ≠ 0 → one.cfg.inUse e = false)) ∧
    (2 : Nat) ≤ 2 := by
  refine ⟨by decide, ⟨⟨by decide, by decide⟩, by decide, by decide, by decide⟩, by decide⟩

theorem witness_LevelSettingsEvaluate_cap :
    (afternoon 0).topupCap = 0 ∧ (afternoon 12000).valueOf ([] ++ [(6, 100)] ++ [(7, 40)]) ≤ (afternoon 12000).topupCap ∧
    ((afternoon 11999).topupCap ≠ 0 ∧ (afternoon 11999).topupCap < (afternoon 11999).valueOf ([] ++ [(6, 100)] ++ [(7, 40)])) ∧
    ((afternoon 1).topupCap ≠ 0 ∧ (afternoon 1).topupCap < (afternoon 1).valueOf ([] ++ [(6, 25)] ++ [(7, 40)]) ∧
      25 = ((afternoon 1).denom 6).unit) ∧
    (∀ n ∈ [25, 100], (([] ++ [(6, n)] ++ [(7, 40)] : Composition).map Prod.fst).Nodup ∧
      (∀ x ∈ ([] ++ [(6, n)] ++ [(7, 40)] : Composition), 1 ≤ ((afternoon 1).denom x.1).unit ∧
        ((afternoon 1).denom x.1).unit ∣ x.2 ∧ 1 ≤ x.2) ∧
      (∀ x ∈ ([] ++ [(6, n)] ++ [(7, 40)] : Composition), (afternoon 1).face x.1 < (afternoon 1).face 6 ∨
        ((afternoon 1).face x.1 = (afternoon 1).face 6 ∧ 6 ≤ x.1))) := by decide

theorem witness_AttentionMaskReadAndClear : Ready till ∧ till.unit.power = .running := by
  repeat' first | decide | constructor

/-- The station of 7.7 in STOPPED with a role and the three auto-raise settings. -/
def raising (r : Role) (pickup topup change : Bool) : State :=
  { station r .stopped with
    cfg := { afternoon 10000 with number := some 1, autoPickup := pickup, autoTopup := topup, autoChange := change },
    position := { till.position with counts := ((till.position.counts.setIfInBounds 2 150).setIfInBounds 6 18) } }

theorem witness_StartBeginsListening_raises :
    (∀ a ∈ [true, false], ∀ b ∈ [true, false], Ready (raising .till a b true) ∧
      (raising .till a b true).member.state = .stopped ∧ (raising .till a b true).unit.role.isSome = true ∧
      (floatStateOf (some .till) (raising .till a b true).cfg (raising .till a b true).pieces).pickupNeed = true ∧
      (floatStateOf (some .till) (raising .till a b true).cfg (raising .till a b true).pieces).topupNeed = true ∧
      (floatStateOf (some .till) (raising .till a b true).cfg (raising .till a b true).pieces).changeNeed = false) ∧
    (raising .till true true true).service.requests = [] ∧ (raising .till true true true).loop.queue = [] ∧
    (Ready (raising .desk true true true) ∧ (raising .desk true true true).member.state = .stopped ∧
      (floatStateOf (some .desk) (raising .desk true true true).cfg (raising .desk true true true).pieces).changeNeed = true) := by
  refine ⟨?_, by decide, by decide, ⟨by decide, by decide⟩, by decide, by decide⟩
  intro a ha b hb
  cases a <;> cases b <;> exact ⟨⟨by decide, by decide⟩, by decide⟩

theorem witness_StartBeginsListening :
    (Ready (withState till .stopped) ∧ (withState till .stopped).member.state = .stopped ∧
      (withState till .stopped).unit.role.isSome = true ∧ (withState till .stopped).cfg.autoPickup = false ∧
      (withState till .stopped).cfg.autoTopup = false ∧ (withState till .stopped).cfg.autoChange = false) ∧
    (Ready (withRole (withState till .stopped) none) ∧ (withRole (withState till .stopped) none).member.state = .stopped ∧
      (withRole (withState till .stopped) none).unit.role = none) ∧ till.member.state ≠ .stopped := by
  repeat' first | decide | constructor

theorem witness_StopLeavesTheLoop :
    Ready till ∧ till.member.state ≠ .unconfigured ∧ till.member.state ≠ .stopped ∧
    ((∀ c ∈ till.custody.table, inHandover c.state = false) ∧
      (∀ e ∈ till.custody.inbound, e.state ≠ .taking ∧ e.state ≠ .unsure) ∧
      (∀ r ∈ till.service.requests, r.phase = .opened) ∧ till.count.state.sessionOpen = false ∧ till.safe.window = none) ∧
    Ready shelf ∧ shelf.member.state ≠ .unconfigured ∧ shelf.member.state ≠ .stopped ∧
    ¬ (∀ c ∈ shelf.custody.table, inHandover c.state = false) := by
  repeat' first | decide | constructor

/-- Station WITHDRAWN at a clock value, with auto-rejoin on or off. -/
def withdrawn (w : Nat) (auto : Bool) : State :=
  { till with
    cfg := { till.cfg with autoRejoin := auto },
    member := { till.member with state := .withdrawn, withdrawnAt := some w } }

/-- A join or beacon timer that ends at a clock value. -/
def timed (st : StationState) (w : Nat) : State :=
  { till with
    member := { till.member with
      state := st, listeningEnds := some w, announceWaitEnds := some w, beaconDue := some w } }

theorem witness_JoiningTimersAndRejoin :
    (Ready (withdrawn 0 true) ∧ (withdrawn 0 true).member.state = .withdrawn ∧ Ready till ∧ till.member.state ≠ .withdrawn) ∧
    ((withdrawn 999500 true).unit.power = .running ∧ (withdrawn 999500 true).cfg.autoRejoin = true ∧
      (withdrawn 999500 true).member.withdrawnAt = some 999500 ∧ 999500 + 500 ≤ (withdrawn 999500 true).clock) ∧
    ((withdrawn 999501 true).member.withdrawnAt = some 999501 ∧ (withdrawn 999501 true).clock < 999501 + 500) ∧
    (withdrawn 0 false).cfg.autoRejoin = false ∧
    (∀ st ∈ [StationState.listening, .announcing, .onLoop],
      (timed st 1000000).member.state = st ∧ (timed st 1000000).member.listeningEnds = some 1000000 ∧
      (timed st 1000000).member.announceWaitEnds = some 1000000 ∧ (timed st 1000000).member.beaconDue = some 1000000 ∧
      1000000 ≤ (timed st 1000000).clock ∧ (timed st 1000001).clock < 1000001) := by
  repeat' first | decide | constructor

def joinedShelf : State :=
  { withNeeds (timed .announcing 1000000) [need .opened] with attn := { quietAttention with doorHeld := true } }

theorem witness_OnLoopSendsNeedsAndAlarms :
    joinedShelf.unit.power = .running ∧ joinedShelf.member.state = .announcing ∧
    joinedShelf.member.announceWaitEnds = some 1000000 ∧ 1000000 ≤ joinedShelf.clock ∧
    (∃ t, exec .announceWaitEnd joinedShelf = .next t) ∧
    joinedShelf.loop.queue.length + joinedShelf.openCount + (alarmInstances joinedShelf).length ≤ 12 ∧
    joinedShelf.openCount = 1 ∧ alarmInstances joinedShelf = [(.doorHeld, 0)] :=
  ⟨by decide, by decide, by decide, by decide, ⟨_, rfl⟩, by decide, by decide, by decide⟩

/-- Peer 3 in a state with a silence time. -/
def silent (st : PeerState) (n : Nat) : State := withPeer till 3 { peerOf .desk with state := st, silence := n }

theorem witness_PeersGrowQuietAndGo :
    till.unit.power = .running ∧ onTheLine till.member.state = true ∧ (1 : Nat) ≤ 56 ∧
    (((silent .live 200).peer 3).state = .live ∧ 2 * (25 * (1 + ((silent .live 200).peer 3).m.getD 3)) ≤ 200) ∧
    199 < 2 * (25 * (1 + ((silent .live 199).peer 3).m.getD 3)) ∧
    (((silent .quiet 800).peer 3).state = .quiet ∧ 8 * (25 * (1 + ((silent .quiet 800).peer 3).m.getD 3)) ≤ 800) ∧
    799 < 8 * (25 * (1 + ((silent .quiet 799).peer 3).m.getD 3)) ∧ ((silent .gone 800).peer 3).state = .gone := by decide

/-- Peer 3 has claimed one request and serves another, a PICKUP whose container is HELD, and is a requester itself. -/
def claimant : State :=
  withList (withNeeds (withTable (silent .quiet 800) [bag 7 .pickupPouch .held])
    [need (.claimed 3 1), { need (.serving 3 1 7) with id := 6 }]) [{ wanted .won with requester := 3 }]

theorem witness_PeersGrowQuietAndGo_lapses :
    (claimant.unit.power = .running ∧ onTheLine claimant.member.state = true ∧ (claimant.peer 3).state = .quiet ∧
      8 * (25 * (1 + (claimant.peer 3).m.getD 3)) ≤ (claimant.peer 3).silence) ∧
    (∃ e ∈ claimant.service.list, e.requester = 3 ∧ e.state = .won) ∧ (claimant.service.requests.map (·.id)).Nodup ∧
    claimant.service.requests.map (fun r => (r.kind, r.phase)) = [(.pickup, .claimed 3 1), (.pickup, .serving 3 1 7)] ∧
    (claimant.container? 7).any (fun k => k.state == .held) = true ∧ joiningOrJoined claimant.member.state = true ∧
    claimant.loop.queue.length + 2 ≤ 12 := by
  refine ⟨by decide, ⟨{ wanted .won with requester := 3 }, by decide⟩, by decide, by decide, by decide, by decide, by decide⟩

def own (p : Payload) (target : Nat) : Frame := { sender := 1, target := target, payload := p }
def announced (n : BitVec 32) : AnnouncePayload := { serial := n, role := .till, m := 3 }

theorem witness_OwnNumberIsHeard :
    (Frame.wellFormed (own (.announce (announced 7)) 0) = true ∧ (own (.announce (announced 7)) 0).sender = till.own) ∧
    (Frame.wellFormed (own (.conflict { serial := 7, answered := 0 }) 1) = true ∧ till.own = 1) ∧
    (Frame.wellFormed (own (.recall { tag := 1, number := 1 }) 2) = true ∧
      (∀ p, (own (.recall { tag := 1, number := 1 }) 2).payload ≠ .announce p) ∧
      (∀ p, (own (.recall { tag := 1, number := 1 }) 2).payload ≠ .conflict p)) ∧
    (∀ st ∈ [StationState.listening, .announcing, .onLoop, .duplicate, .withdrawn, .stopped],
      (withState till st).member.state = st ∧ (withState till st).unit.power = .running) ∧
    (announced 7).serial ≠ till.unit.serial := by
  refine ⟨by decide, by decide, ⟨by decide, ?_, ?_⟩, by decide, by decide⟩ <;> intro p h <;> cases h

def alarmRaised : AlarmPayload := { kind := .overdue, action := .raised, active := some .overdue, tag := 7 }

def ownNeed (k : NeedKind) : NeedPayload :=
  { id := 5, kind := k, urgency := .normal, reopened := false, value := 100, comp := [(0, 1)] }

def ownAward (n : Nat) : AwardPayload :=
  { id := 5, claimant := n, kind := .pickup, urgency := .normal, value := 100, comp := [(0, 1)] }

/-- A desk off the loop that hears its own number, its Service List given. -/
def shunned (st : StationState) (l : List ServiceEntry) : State := withList (withState desk st) l

/-- Frames of the own number that R33's table delivers, or not, in DUPLICATE and WITHDRAWN. -/
theorem witness_OwnNumberIsHeard_delivered :
    (∀ st ∈ [StationState.duplicate, .withdrawn], (shunned st []).member.state = st ∧ (shunned st []).unit.power = .running ∧
      (shunned st []).own = 1 ∧ (shunned st []).targeted 0 = true ∧ (shunned st []).targeted 58 = true ∧
      (shunned st []).targeted 2 = false) ∧
    Frame.wellFormed (own (.alarm alarmRaised) 0) = true ∧ alarmRaised.action = .raised ∧
    (∀ k ∈ [NeedKind.pickup, .change], Frame.wellFormed (own (.need (ownNeed k)) (needTarget k)) = true) ∧
    Frame.wellFormed (own (.withdraw { id := 5, kind := .pickup, reason := .expired }) 58) = true ∧
    (∀ n ∈ [1, 3], Frame.wellFormed (own (.award (ownAward n)) 58) = true) ∧
    (servesNeed desk.unit.role .pickup = true ∧ servesNeed desk.unit.role .change = false ∧
      (shunned .withdrawn []).service? 1 5 = none ∧ (shunned .withdrawn []).service.list.length < 16) ∧
    (∀ st ∈ [ServiceState.listed, .claiming, .won], (shunned .withdrawn [{ wanted st with requester := 1 }]).service? 1 5 =
      some { wanted st with requester := 1 }) := by decide

/-- R33, R59, R173: WITHDRAWN, an ALARM of the own number is told, and no Peer Table entry changes. -/
theorem test_own_alarm_withdrawn :
    after (.alarmReceived 1 0 alarmRaised) (withState till .withdrawn) (fun t =>
      t.attn.reasons == reasonMask .peerAlarm && t.member == (withState till .withdrawn).member) = true := by decide

def quietFlags : BeaconFlags :=
  { pickupNeed := false, topupNeed := false, changeNeed := false, windowOpen := false, alarmActive := false,
    countBusy := false }

def beacon (code : Nat) : BeaconPayload :=
  { role := .desk, stationCode := code, m := 3, flags := quietFlags, custodyCount := 0, outbound := 0, openRequests := 0 }

theorem witness_HeardFramesKeepThePeerTable :
    till.unit.power = .running ∧ onTheLine till.member.state = true ∧ (3 : Nat) ≠ till.own ∧ (beacon 4).stationCode = 4 ∧
    (Frame.wellFormed { sender := 3, target := 2, payload := .recall { tag := 1, number := 1 } } = true ∧
      till.targeted 2 = false) ∧
    (1 ≤ till.own ∧ till.own ≤ 56 ∧ (till.peer 3).state = .live) ∧
    Frame.wellFormed { sender := 3, target := 0, payload := .beacon (beacon 3) } = false ∧
    onTheLine (withState till .stopped).member.state = false := by decide

/-- Frames with a target of this station whose kind is not delivered in the station state. -/
theorem witness_HeardFramesKeepThePeerTable_undelivered :
    (∀ st ∈ [StationState.listening, .announcing, .duplicate, .withdrawn], (withState till st).member.state = st ∧
      onTheLine (withState till st).member.state = true ∧ (withState till st).targeted 1 = true) ∧
    (Frame.wellFormed { sender := 3, target := 1, payload := .recall { tag := 1, number := 1 } } = true ∧
      (∀ p, Payload.recall { tag := 1, number := 1 } ≠ .announce p) ∧
      (∀ p, Payload.recall { tag := 1, number := 1 } ≠ .beacon p) ∧
      (∀ p, Payload.recall { tag := 1, number := 1 } ≠ .alarm p) ∧
      (∀ p, Payload.recall { tag := 1, number := 1 } ≠ .conflict p) ∧
      frameClass (.recall { tag := 1, number := 1 }) = 2) := by
  refine ⟨by decide, by decide, ?_, ?_, ?_, ?_, by decide⟩ <;> intro p h <;> cases h

/-! #### Sending -/

def offerOf (c : Container) : OfferPayload :=
  { role := .till, number := 9, tag := c.tag, cls := c.cls, value := c.value, counted := none, origin := 1, purpose := 0,
    remaining := 0, comp := c.comp }

def taken8 : TakenPayload := { tag := 8, number := 9, value := 500 }

def waiting (p : Payload) : QueuedFrame := { target := 3, payload := p, port := true, onLine := false }

theorem witness_StationContendsWithOneFrame :
    (till.unit.power = .running ∧ till.member.state = .onLoop) ∧
    ((withQueue (withTable till [sent .offering 1]) [waiting (.offer (offerOf (sent .offering 1)))]).container? 7
        = some (sent .offering 1) ∧ (sent .offering 1).handover.isSome = true) ∧
    (withQueue (withInbound till [entry .taking]) [waiting (.taken taken8)]).inbound? 8 = some (entry .taking) ∧
    ((withQueue till [filler true]).loop.queue = filler true :: [] ∧ (∀ o, (filler true).payload ≠ .offer o) ∧
      (∀ o, (filler true).payload ≠ .taken o)) ∧
    (({ till with loop := { till.loop with conflictReady := some 7 } } : State).loop.conflictReady = some 7 ∧
      till.loop.queue = []) ∧
    (({ till with loop := { till.loop with beaconReady := true } } : State).loop.beaconReady = true ∧
      till.loop.conflictReady = none ∧ till.unit.role = some .till) ∧
    ({ withState till .announcing with loop := { till.loop with announceReady := true } } : State).loop.announceReady = true ∧
    ((withState till .listening).member.state ≠ .onLoop ∧ (withState till .listening).member.state ≠ .announcing) := by
  refine ⟨by decide, by decide, by decide, ⟨by decide, ?_, ?_⟩, by decide, by decide, by decide, by decide⟩ <;>
    intro o h <;> cases h

/-- A fault score before the fault. -/
def scored (s : State) (n : Nat) : State := { s with loop := { s.loop with faultScore := n } }

def needFrame : Payload := .need { id := 5, kind := .pickup, urgency := .normal, reopened := false, value := 100, comp := [(0, 1)] }

theorem witness_FramesEndCleanlyOrFail :
    ((alone till 0 (.beacon (beacon 4))).loop.sending = some { sender := 1, target := 0, payload := .beacon (beacon 4) } ∧
      (∀ q ∈ (alone till 0 (.beacon (beacon 4))).loop.queue, q.onLine = false)) ∧
    (∀ q ∈ (alone till 1 (.conflict { serial := 0, answered := 7 })).loop.queue, q.onLine = false) ∧
    (∀ q ∈ (alone (withState till .announcing) 0 (.announce (announced 0))).loop.queue, q.onLine = false) ∧
    ((onLine till 58 needFrame).loop.queue.find? (·.onLine) =
      some { target := 58, payload := needFrame, port := true, onLine := true } ∧ frameClass needFrame = 4) ∧
    (scored (alone till 0 (.beacon (beacon 4))) 19).loop.faultScore < 20 ∧
    (20 ≤ (scored (alone till 0 (.beacon (beacon 4))) 20).loop.faultScore ∧
      (∀ q ∈ (scored (onLine till 58 needFrame) 20).loop.queue, q.onLine = true → q.payload = needFrame)) ∧
    (∀ p, needFrame ≠ .announce p) := by
  refine ⟨by decide, by decide, by decide, by decide, by decide, by decide, ?_⟩
  intro p h; cases h

/-- Frames whose loss is reported, below a score of 20 and from there on, and an ANNOUNCE from there on. -/
theorem witness_FramesEndCleanlyOrFail_reports :
    (∀ n ∈ [19, 20], (scored (onLine till 3 (.taken taken8)) n).unit.power = .running ∧
      (scored (onLine till 3 (.taken taken8)) n).loop.sending = some { sender := 1, target := 3, payload := .taken taken8 } ∧
      (scored (onLine till 3 (.taken taken8)) n).loop.faultScore = n) ∧
    (∀ n, ∃ u, exec (.takenReport false) (scored (onLine till 3 (.taken taken8)) n) = .next u) ∧
    (20 ≤ (scored (alone (withState till .announcing) 0 (.announce (announced 0))) 20).loop.faultScore ∧
      (∀ q ∈ (scored (alone (withState till .announcing) 0 (.announce (announced 0))) 20).loop.queue,
        q.onLine = true → q.payload = .announce (announced 0))) :=
  ⟨by decide, fun _ => ⟨_, rfl⟩, by decide⟩

/-! #### Handover -/

theorem books_of {s : State} (h : (s.custody.table.map (·.tag)).Nodup ∧ (s.custody.inbound.map (·.tag)).Nodup ∧
    (∀ e ∈ s.custody.inbound, ∀ f ∈ s.custody.inbound,
      e.number ≠ 0 → e.giver = f.giver → e.number = f.number → e.tag = f.tag) ∧
    (∀ c ∈ s.custody.table, ∀ e ∈ s.custody.inbound, c.tag ≠ e.tag) ∧ s.custody.table.length + s.reserved ≤ 48 ∧
    s.custody.inbound.length ≤ 16 ∧ s.custody.releases.length ≤ 16 ∧ s.safe.dispatches.length ≤ 8) : BooksInv s :=
  ⟨h.1, h.2.1, h.2.2.1, h.2.2.2.1, h.2.2.2.2.1, h.2.2.2.2.2.1, h.2.2.2.2.2.2.1, h.2.2.2.2.2.2.2⟩

def pouch : Container := bag 7 .pickupPouch .held
def stored : State := withTable till [pouch]

theorem witness_OfferIsCheckedAndMade : BooksInv stored ∧
    (Ready (withState stored .stopped) ∧ joiningOrJoined (withState stored .stopped).member.state = false) ∧
    (Ready stored ∧ joiningOrJoined stored.member.state = true ∧ stored.own = 1) ∧
    stored.container? 6 = none ∧ stored.container? 7 = some pouch ∧
    (withTable till [bag 7 .courierSack .held]).container? 7 = some (bag 7 .courierSack .held) ∧
    ((sent .outbound 1).cls ≠ .courierSack ∧ (sent .outbound 1).state ≠ .counting ∧ (sent .outbound 1).state ≠ .held) ∧
    ({ pouch with disputed := true } : Container).disputed = true ∧
    ((stored.peer 5).state = .unknown ∧ (stored.peer 3).state = .live ∧ (stored.peer 3).role.isSome = true) ∧
    (routed stored.unit.role (stored.peer 4).role pouch.cls = false ∧
      routed stored.unit.role (stored.peer 3).role pouch.cls = true) ∧
    8 ≤ portFrames (fullPort stored).loop.queue ∧ 12 ≤ (fullQueue stored).loop.queue.length ∧ PortRoom stored ∧
    stored.unit.role = some .till ∧
    ((bag 7 .pickupPouch .counting).state = .counting ∧ (bag 7 .pickupPouch .counting).deferred = none) ∧
    ({ bag 7 .pickupPouch .counting with deferred := some { peer := 3, purpose := 0 } } : Container).deferred ≠ none := by
  refine ⟨books_of (by decide), ?_⟩
  repeat' first | decide | constructor

/-- The OFFER of a container on the line, its deadline given. -/
def offering (deadline : Nat) : State :=
  onLine (withTable till [sent .offering deadline]) 3 (.offer (offerOf (sent .offering deadline)))

theorem witness_OfferReportAndHandoverTimers :
    (OnLine (offering 1000001) 3 (.offer (offerOf (sent .offering 1000001))) ∧
      (offering 1000001).container? 7 = some (sent .offering 1000001) ∧ (offering 1000001).clock < 1000001 ∧
      1000000 ≤ (offering 1000000).clock ∧ (sent .offering 1000000).overdueAlarm = false) ∧
    ((withTable till [sent .outbound 1000000]).container? 7 = some (sent .outbound 1000000) ∧
      1000000 ≤ (withTable till [sent .outbound 1000000]).clock ∧
      (withTable till [sent .outbound 1000001]).clock < 1000001 ∧ (sent .overdue 1).state ≠ .outbound) ∧
    ((withInbound till [entry .expected]).inbound? 8 = some (entry .expected) ∧
      (entry .expected).lapse ≤ (withInbound till [entry .expected]).clock ∧ (entry .taking).state ≠ .expected) ∧
    ((withTable till [{ pouch with refusal := some { receiver := 3, number := 9, closes := 1000000 } }]).container? 7 =
        some { pouch with refusal := some { receiver := 3, number := 9, closes := 1000000 } } ∧
      1000000 ≤ till.clock) := by
  refine ⟨⟨onLine_of _ _ _ (by decide), ?_⟩, ?_⟩ <;> decide

def gone7 (n v : Nat) : TakenPayload := { tag := 7, number := n, value := v }

theorem witness_TakenReleases :
    (Hears (withTable till [sent .outbound 1]) 3 1 (.taken (gone7 9 500)) ∧
      (withTable till [sent .outbound 1]).container? 7 = some (sent .outbound 1) ∧ inTransit (sent .outbound 1).state = true) ∧
    (Hears (withTable till [sent .overdue 1]) 3 1 (.taken (gone7 0 500)) ∧
      (withTable till [sent .overdue 1]).container? 7 = some (sent .overdue 1)) ∧
    (Hears till 3 1 (.taken (gone7 9 500)) ∧ till.container? 7 = none ∧ till.loop.queue.length < 12) ∧
    saturates (till.custody.totals.released + 500) = false := by
  repeat' first | decide | constructor

theorem witness_TakenReleases_unfit : Hears (withTable till [sent .outbound 1]) 3 1 (.taken (gone7 9 501)) ∧
    (∀ c h, (withTable till [sent .outbound 1]).container? 7 = some c → c.handover = some h → inTransit c.state = false ∨
      h.peer ≠ 3 ∨ ((gone7 9 501).number ≠ h.number ∧ (gone7 9 501).number ≠ 0) ∨ (gone7 9 501).value ≠ c.value) := by
  refine ⟨by repeat' first | decide | constructor, fun c h hc _ => .inr (.inr (.inr ?_))⟩
  have e : c = sent .outbound 1 := (Option.some.inj hc).symm
  subst e; decide

def recalled7 : Container := { sent .recalling 1000001 with recallEnds := some 1000000 }

theorem witness_RecallsAtBothEnds :
    (PortRoom (withTable till [sent .overdue 1]) ∧ (withTable till [sent .overdue 1]).container? 7 = some (sent .overdue 1)) ∧
    (Hears (withTable till [recalled7]) 3 1 (.recallOk { tag := 7, number := 9 }) ∧
      (withTable till [recalled7]).container? 7 = some recalled7 ∧ inTransit recalled7.state = true) ∧
    (recalled7.state = .recalling ∧ recalled7.recallEnds = some 1000000 ∧ 1000000 ≤ till.clock ∧ till.clock < 1000001 ∧
      ({ recalled7 with recallEnds := some 1000001 } : Container).recallEnds = some 1000001) ∧
    (({ sent .recalling 1000000 with recallEnds := some 1000000 } : Container).handover.isSome = true ∧
      1000000 ≤ till.clock) ∧
    (Hears (withInbound till [entry .expected]) 3 1 (.recall { tag := 8, number := 9 }) ∧
      (withInbound till [entry .expected]).loop.queue.length < 12 ∧
      (withInbound till [entry .expected]).inbound? 8 = some (entry .expected) ∧
      (withInbound till [entry .taking]).inbound? 8 = some (entry .taking)) ∧
    ((withTable till [sent .outbound 1]).inbound? 7 = none ∧
      ((withTable till [sent .outbound 1]).container? 7).isSome = true) ∧
    (till.inbound? 8 = none ∧ till.container? 8 = none) := by
  repeat' first | decide | constructor

def refusal7 (r : RefuseReason) : RefusePayload := { tag := 7, number := 9, reason := r }
def refusable : State := withTable till [{ pouch with refusal := some { receiver := 3, number := 9, closes := 1 } }]

theorem witness_RefusalsAreApplied :
    (Hears refusable 3 1 (.refuse (refusal7 .inboundFull)) ∧ refusable.container? 7 =
      some { pouch with refusal := some { receiver := 3, number := 9, closes := 1 } }) ∧
    (Hears (withTable till [sent .outbound 1]) 3 1 (.refuse (refusal7 .declined)) ∧
      (withTable till [sent .outbound 1]).container? 7 = some (sent .outbound 1) ∧
      inTransit (sent .outbound 1).state = true ∧ (sent .outbound 1).overdueAlarm = false) ∧
    Hears refusable 3 1 (.refuse (refusal7 .declined)) ∧
    Hears (withTable till [sent .outbound 1]) 3 1 (.refuse (refusal7 .tooLate)) ∧
    (Hears (withInbound till [entry .unsure]) 3 1 (.refuse { tag := 8, number := 9, reason := .notOffered }) ∧
      (withInbound till [entry .unsure]).inbound? 8 = some (entry .unsure) ∧ (entry .unsure).giver = 3) ∧
    (Hears till 3 1 (.refuse (refusal7 .declined)) ∧ till.container? 7 = none ∧ till.inbound? 7 = none) := by
  repeat' first | decide | constructor

def late7 : Container := { sent .overdue 1 with overdueAlarm := true }

/-- A declined container with its OVERDUE alarm set, with room in the queue and without. -/
theorem witness_RefusalsAreApplied_overdue :
    (late7.state = .overdue ∧ inTransit late7.state = true ∧ late7.overdueAlarm = true) ∧
    (∀ s ∈ [withTable till [late7], withTable (fullQueue till) [late7]], s.container? 7 = some late7) ∧
    Hears (withTable till [late7]) 3 1 (.refuse (refusal7 .declined)) ∧ (withTable till [late7]).loop.queue.length < 12 ∧
    Hears (withTable (fullQueue till) [late7]) 3 1 (.refuse (refusal7 .declined)) ∧
    12 ≤ (withTable (fullQueue till) [late7]).loop.queue.length := by
  repeat' first | decide | constructor

/-- A known tag under another sender or number, a window that has closed, and an entry that is neither TAKING nor UNSURE. -/
theorem witness_RefusalsAreApplied_unfit :
    (Hears refusable 2 1 (.refuse (refusal7 .inboundFull)) ∧ refusable.container? 7 =
      some { pouch with refusal := some { receiver := 3, number := 9, closes := 1 } } ∧ (3 : Nat) ≠ 2) ∧
    (Hears stored 3 1 (.refuse (refusal7 .declined)) ∧ stored.container? 7 = some pouch ∧ pouch.refusal = none ∧
      inTransit pouch.state = false) ∧
    (Hears (withTable till [sent .outbound 1]) 3 1 (.refuse { refusal7 .tooLate with number := 8 }) ∧
      (withTable till [sent .outbound 1]).container? 7 = some (sent .outbound 1) ∧ (9 : Nat) ≠ 8) ∧
    (Hears (withInbound till [entry .expected]) 3 1 (.refuse { tag := 8, number := 9, reason := .notOffered }) ∧
      (withInbound till [entry .expected]).inbound? 8 = some (entry .expected) ∧ (entry .expected).state ≠ .taking ∧
      (entry .expected).state ≠ .unsure) := by
  repeat' first | decide | constructor

theorem witness_TakeReservesAPlace :
    (PortRoom (withInbound till [entry .expected]) ∧ classOfCode 0 = some .floatBag ∧
      (withInbound till [entry .expected]).inbound? 8 = some (entry .expected) ∧
      ¬ 48 ≤ (withInbound till [entry .expected]).custody.table.length + (withInbound till [entry .expected]).reserved ∧
      (2 : Nat) ≠ 0 ∧ 2 ≠ (entry .expected).giver) ∧
    ((withInbound till [entry .unsure]).inbound? 8 = some (entry .unsure) ∧
      (withInbound till [entry .unresolved]).inbound? 8 = some (entry .unresolved)) ∧
    48 ≤ (withInbound (fullTable till) [entry .expected]).custody.table.length +
      (withInbound (fullTable till) [entry .expected]).reserved ∧
    (PortRoom till ∧ till.inbound? 8 = none ∧ classOfCode 4 = some .courierSack ∧ 56 < 57 ∧ till.own = 1) ∧
    (canHold till.unit.role .depositBag = false ∧ canHold till.unit.role .floatBag = true ∧ till.container? 8 = none ∧
      till.custody.inbound.length < 16 ∧ ¬ 48 ≤ till.custody.table.length + till.reserved) ∧
    (PortRoom stored ∧ (stored.container? 7).isSome = true) ∧ PortRoom (fullTable till) ∧
    (fullTable till).container? 8 = none := by
  repeat' first | decide | constructor

theorem witness_TakenReportEnters :
    OnLine (onLine (withInbound till [entry .taking]) 3 (.taken taken8)) 3 (.taken taken8) ∧
    (onLine (withInbound till [entry .taking]) 3 (.taken taken8)).inbound? 8 = some (entry .taking) ∧
    (entry .taking).counted = some 500 ∧ ({ entry .taking with counted := none } : InboundEntry).counted = none ∧
    saturates ((withInbound till [entry .taking]).custody.totals.received + 500) = false ∧
    (onLine (withInbound till [entry .taking]) 3 (.taken taken8)).loop.queue.length ≤ 12 :=
  ⟨onLine_of _ _ _ (by decide), by decide, by decide, by decide, by decide, by decide⟩

def asked (st : InboundState) : InboundEntry := { entry st with queryPending := true, queryWaitEnds := some 1000000 }

theorem witness_QueriesArePending :
    (PortRoom (withInbound till [entry .unsure]) ∧ (withInbound till [entry .unsure]).inbound? 8 = some (entry .unsure) ∧
      (entry .unsure).queryPending = false) ∧
    ((withInbound till [asked .unresolved]).inbound? 8 = some (asked .unresolved) ∧ (asked .unresolved).queryPending = true) ∧
    (withInbound till [entry .taking]).inbound? 8 = some (entry .taking) ∧
    OnLine (onLine (withInbound till [asked .unsure]) 3 (.query { tag := 8, number := 9 })) 3
      (.query { tag := 8, number := 9 }) ∧
    (1000000 ≤ till.clock ∧ till.clock < 1000001) ∧
    (((withInbound till [asked .unsure]).peer 3).state = .live ∧
      ((withPeer (withInbound till [asked .unsure]) 3 unknownPeer).peer 3).state = .unknown) := by
  refine ⟨?_, ?_, ?_, onLine_of _ _ _ (by decide), ?_⟩ <;> repeat' first | decide | constructor

def release (n : Nat) : ReleaseEntry := { tag := 7, receiver := 3, number := n, value := 500 }
def withReleases (s : State) (l : List ReleaseEntry) : State := { s with custody := { s.custody with releases := l } }
def query7 (n : Nat) : TagNumber := { tag := 7, number := n }

theorem witness_QueryIsAnswered :
    (Hears (withTable till [sent .outbound 1]) 3 1 (.query (query7 9)) ∧
      (withTable till [sent .outbound 1]).container? 7 = some (sent .outbound 1) ∧
      (withTable till [sent .outbound 1]).loop.queue.length < 12) ∧
    (Hears (fullQueue till) 3 1 (.query (query7 9)) ∧ (fullQueue till).loop.queue.length = 12) ∧
    (Hears (withReleases till [release 8, release 9]) 3 1 (.query (query7 0)) ∧
      (withReleases till [release 8, release 9]).container? 7 = none ∧
      (withReleases till [release 8, release 9]).custody.releases = [release 8] ++ [release 9] ++ [] ∧
      (∀ q ∈ ([] : List ReleaseEntry), q.tag = 7 → q.receiver = 3 → (query7 0).number ≠ 0 ∧ q.number ≠ 0)) ∧
    (∀ r ∈ till.custody.releases, r.tag = 7 → r.receiver = 3 → (query7 9).number ≠ 0 ∧ r.number ≠ 9) := by
  repeat' first | decide | constructor

def answer8 (k : AnswerKind) (v : Nat) : AnswerPayload := { tag := 8, answer := k, number := 9, remaining := 1, value := v }

/-- 48 bags of different tags. -/
def crowd : List Container := (List.range 48).map (fun n => bag (100 + n) .floatBag .held)

theorem witness_AnswersSettleEntries :
    (BooksInv (withInbound till [entry .unsure]) ∧ Hears (withInbound till [entry .unsure]) 3 1 (.answer (answer8 .heldForYou 0)) ∧
      (withInbound till [entry .unsure]).inbound? 8 = some (entry .unsure)) ∧
    (Hears (withInbound till [entry .unsure]) 3 1 (.answer (answer8 .releasedToYou 501)) ∧
      (answer8 .releasedToYou 501).value ≠ (entry .unsure).value) ∧
    (BooksInv (withTable (withInbound till [entry .unresolved]) crowd) ∧
      Hears (withTable (withInbound till [entry .unresolved]) crowd) 3 1 (.answer (answer8 .releasedToYou 500)) ∧
      48 ≤ (withTable (withInbound till [entry .unresolved]) crowd).custody.table.length +
        (withTable (withInbound till [entry .unresolved]) crowd).reserved) ∧
    (Ready (withInbound till [entry .unresolved]) ∧ (withInbound till [entry .unresolved]).member.state ≠ .unconfigured ∧
      (withInbound till [entry .unresolved]).inbound? 8 = some (entry .unresolved) ∧
      (withInbound till [entry .unresolved]).custody.table.length + (withInbound till [entry .unresolved]).reserved < 48) ∧
    (entry .expected).state ≠ .unresolved ∧
    (BooksInv (withInbound till [{ entry .unsure with number := 0 }, { entry .expected with tag := 10 }]) ∧
      (withInbound till [{ entry .unsure with number := 0 }, { entry .expected with tag := 10 }]).inbound? 8 =
        some { entry .unsure with number := 0 }) := by
  refine ⟨⟨books_of (by decide), ?_⟩, ?_, ⟨books_of (by decide), ?_⟩, ?_, ?_, ⟨books_of (by decide), ?_⟩⟩ <;>
    repeat' first | decide | constructor

/-- R75: the answered entry takes the carried number, and another entry of the giver has it no more (R9). -/
theorem test_held_number :
    after (.answerReceived 3 1 (answer8 .heldForYou 0))
      (withInbound till [{ entry .expected with tag := 10 }, { entry .unsure with number := 0 }])
      (fun t => t.custody.inbound.map (fun e => (e.tag, e.number)) == [(10, 0), (8, 9)]) = true := by decide

theorem witness_DeclineRemovesTheEntry :
    (Ready (withInbound till [entry .expected]) ∧ joiningOrJoined (withInbound till [entry .expected]).member.state = true ∧
      (withInbound till [entry .expected]).inbound? 7 = none ∧
      (withInbound till [entry .expected]).inbound? 8 = some (entry .expected) ∧
      portFrames (withInbound till [entry .expected]).loop.queue < 8) ∧
    (Ready (fullPort till) ∧ 8 ≤ portFrames (fullPort till).loop.queue) ∧
    (withInbound till [entry .unsure]).inbound? 8 = some (entry .unsure) := by
  repeat' first | decide | constructor

def float8 (from_ : Role) (n : Nat) : OfferPayload :=
  { role := from_, number := n, tag := 8, cls := .floatBag, value := 500, counted := none, origin := 3, purpose := 0,
    remaining := 0, comp := none }

theorem witness_OfferIsRegistered :
    (Hears till 3 1 (.offer (float8 .till 9)) ∧ routed (some .till) till.unit.role .floatBag = false) ∧
    (Hears (withTable till [bag 8 .floatBag .held]) 3 1 (.offer (float8 .desk 9)) ∧
      ((withTable till [bag 8 .floatBag .held]).container? 8).isSome = true) ∧
    (Hears (withInbound till [entry .taking]) 3 1 (.offer (float8 .desk 9)) ∧
      routed (some .desk) till.unit.role .floatBag = true ∧ (withInbound till [entry .taking]).container? 8 = none ∧
      (withInbound till [entry .taking]).inbound? 8 = some (entry .taking)) ∧
    ((withInbound till [{ entry .expected with giver := 2 }]).inbound? 8 = some { entry .expected with giver := 2 } ∧
      ({ entry .expected with giver := 2 } : InboundEntry).giver ≠ 3) ∧
    (Hears till 3 1 (.offer (float8 .desk 9)) ∧ till.inbound? 8 = none ∧ till.container? 8 = none ∧
      till.sameNumber 3 9 8 = [] ∧ till.custody.inbound.length < 16) ∧
    ((withInbound till (List.replicate 16 { entry .taking with tag := 9, number := 1 })).sameNumber 3 9 8 = [] ∧
      (withInbound till [entry .expected]).sameNumber 3 9 8 = [] ∧
      (withInbound till [entry .unresolved]).inbound? 8 = some (entry .unresolved)) ∧
    (∀ st ∈ [InboundState.taking, .unsure, .expected, .unresolved],
      (withInbound till [{ entry st with tag := 9 }]).sameNumber 3 9 8 = [{ entry st with tag := 9 }] ∧
      (withInbound till [{ entry st with tag := 9 }, { entry .expected with number := 4 }]).sameNumber 3 9 8 =
        [{ entry st with tag := 9 }] ∧
      (withInbound till [{ entry st with tag := 9 }, { entry .expected with number := 4 }]).inbound? 8 =
        some { entry .expected with number := 4 }) := by
  repeat' first | decide | constructor

/-- A PICKUP request served by the container in transit, and one linked to it under another claimant. -/
def served7 : State :=
  withNeeds (withTable till [sent .outbound 1]) [need (.serving 3 0 7), { need (.serving 2 0 7) with id := 6 }]

/-- A TOPUP request that an entry of desk 3 serves. -/
def served8 (st : InboundState) : State := withNeeds (withInbound till [entry st]) [{ need (.serving 3 0 8) with kind := .topup }]

theorem witness_CompletedHandoversCloseRequests :
    ((served7.service.requests.map (·.id)).Nodup ∧ Hears served7 3 1 (.taken (gone7 9 500)) ∧
      served7.container? 7 = some (sent .outbound 1) ∧ (sent .outbound 1).overdueAlarm = false ∧
      joiningOrJoined served7.member.state = true ∧ served7.loop.yielded.queue.length + 1 + 2 ≤ 12 ∧
      saturates (served7.custody.totals.released + 500) = false) ∧
    (∀ st ∈ [InboundState.taking, .unsure, .unresolved], ((served8 st).service.requests.map (·.id)).Nodup ∧
      (served8 st).inbound? 8 = some (entry st) ∧ (served8 st).custody.table.length + (served8 st).reserved < 48 ∧
      joiningOrJoined (served8 st).member.state = true ∧ (served8 st).loop.queue.length + 1 + 2 ≤ 12) ∧
    OnLine (onLine (served8 .taking) 3 (.taken taken8)) 3 (.taken taken8) ∧
    (Hears (served8 .unsure) 3 1 (.answer (answer8 .releasedToYou 500)) ∧
      Hears (served8 .unresolved) 3 1 (.answer (answer8 .releasedToYou 500)) ∧
      (answer8 .releasedToYou 500).value = (entry .unsure).value) ∧
    (Ready (withState (served8 .unresolved) .stopped) ∧
      joiningOrJoined (withState (served8 .unresolved) .stopped).member.state = false) := by
  refine ⟨?_, by decide, onLine_of _ _ _ (by decide), ?_, ?_⟩ <;> repeat' first | decide | constructor

/-- R141: the request that the release serves is gone, the one under another claimant is CLAIMED again, and the WITHDRAW waits. -/
theorem test_release_closes :
    after (.takenReceived 3 1 (gone7 9 500)) served7 (fun t =>
      t.service.requests.map (fun r => (r.id, r.phase)) == [(6, .claimed 2 0)] &&
      t.loop.queue == [{ target := 58, payload := .withdraw { id := 5, kind := .pickup, reason := .served }, port := false,
                         onLine := false }]) = true := by decide

/-! #### The books -/

def rich : State := withPieces till 5

theorem witness_MakeUpCreatesAContainer :
    (Ready rich ∧ classOfCode 1 = some .pickupPouch ∧ rich.member.state ≠ .unconfigured ∧ (7 : Nat) ≠ 0 ∧
      compRequired [(0, 5)] = true ∧ canMakeUp rich.unit.role .pickupPouch = true ∧ rich.container? 7 = none ∧
      rich.inbound? 7 = none ∧ rich.custody.table.length + rich.reserved < 48 ∧
      (∀ q ∈ ([(0, 5)] : Composition), q.2 ≤ rich.pieces q.1)) ∧
    (∃ q ∈ ([(0, 6)] : Composition), rich.pieces q.1 < q.2) ∧ compRequired [] = false ∧
    canMakeUp rich.unit.role .floatBag = false ∧ (stored.container? 7).isSome = true ∧
    ((withInbound till [entry .expected]).inbound? 8).isSome = true ∧
    48 ≤ (fullTable till).custody.table.length + (fullTable till).reserved ∧
    (Ready State.reset ∧ State.reset.member.state = .unconfigured) := by
  repeat' first | decide | exact ⟨(0, 6), by decide⟩ | constructor

theorem witness_DismantleReturnsThePieces :
    (Ready stored ∧ stored.member.state ≠ .unconfigured ∧ stored.container? 7 = some pouch ∧ pouch.cls ≠ .courierSack ∧
      pouch.state = .held ∧ pouch.disputed = false ∧ pouch.origin = stored.own ∧ pouch.handovers = 0 ∧
      pouch.comp = some [(0, 5)] ∧ (∀ q ∈ ([(0, 5)] : Composition), stored.pieces q.1 + q.2 ≤ 65535)) ∧
    (∃ q ∈ ([(0, 5)] : Composition), 65535 < (withPieces stored 65531).pieces q.1 + q.2) ∧ stored.container? 6 = none ∧
    (withTable till [bag 7 .courierSack .held]).container? 7 = some (bag 7 .courierSack .held) ∧
    (sent .outbound 1).state ≠ .held ∧ ({ pouch with handovers := 1 } : Container).handovers ≠ 0 := by
  repeat' first | decide | exact ⟨(0, 5), by decide⟩ | constructor

def group (v : Nat) : CountedGroup :=
  { value := v, comp := some [], suspect := 0, variance := (v : Int) - 500, cls := .short }

def short7 : Container := { pouch with disputed := true, counted := some (group 0) }

theorem witness_AcceptVarianceSettles :
    (Ready (withTable till [short7]) ∧ (withTable till [short7]).member.state ≠ .unconfigured ∧
      (withTable till [short7]).container? 7 = some short7 ∧ short7.state = .held ∧ short7.disputed = true ∧
      short7.counted = some (group 0)) ∧
    (Ready stored ∧ stored.container? 6 = none ∧ stored.container? 7 = some pouch ∧ pouch.disputed = false) ∧
    State.reset.member.state = .unconfigured := by
  repeat' first | decide | constructor

theorem witness_DayCloseOpensTheNextDay :
    (Ready till ∧ till.member.state ≠ .unconfigured ∧ till.count.state = .idle) ∧
    (Ready (counting till .paused .intake []) ∧ (counting till .paused .intake []).count.state = .paused) ∧
    Ready State.reset ∧ State.reset.member.state = .unconfigured := by
  repeat' first | decide | constructor

theorem parts_of {s : State} (h : (∀ c ∈ s.custody.table, c.handover.isSome = inHandover c.state) ∧
    (∀ c ∈ s.custody.table, c.nesting.isSome = (c.state == .nested)) ∧
    (∀ c ∈ s.custody.table, c.sack.isSome = (c.cls == .courierSack)) ∧
    (∀ c ∈ s.custody.table, c.cls = .courierSack → c.state = .held) ∧
    (∀ c ∈ s.custody.table, c.deferred.isSome → c.state = .counting) ∧
    (∀ c ∈ s.custody.table, c.refusal.isSome → c.state = .held) ∧ (∀ c ∈ s.custody.table, c.state ≠ .counting) ∧
    (∀ e ∈ s.custody.inbound, e.cls ≠ .courierSack)) : PartsInv s :=
  ⟨h.1, h.2.1, h.2.2.1, h.2.2.2.1, h.2.2.2.2.1, h.2.2.2.2.2.1, fun c m k => absurd k (h.2.2.2.2.2.2.1 c m),
    h.2.2.2.2.2.2.2⟩

def sackOf (k : SackFields) (v : Nat) : Container :=
  { bag 20 .courierSack .held with value := v, comp := none, sack := some k }
def nested (tag : Nat) (next : Option Nat) : Container :=
  { bag tag .depositBag .nested with nesting := some { parent := 20, next := next } }
def chain2 : SackFields := { emptySack with first := some 21, count := 2 }

/-- A safe with a sack of two members and a deposit bag beside it. -/
def sacked : State :=
  withTable { safe with cfg := { safe.cfg with uncounted := true } }
    [sackOf chain2 1000, nested 21 (some 22), nested 22 none, bag 23 .depositBag .held]

/-- A state whose day opened with what it is accountable for now. -/
def balanced (s : State) : State :=
  { s with custody := { s.custody with totals := { s.custody.totals with opening := s.accountable } } }

/-- The laws of the sacks and the compositions, for the table of the safe above. -/
theorem laws_of {s : State} (ht : s.custody.table = sacked.custody.table) (hc : s.cfg = sacked.cfg) :
    SackInv s ∧ WorthInv s := by
  have mem : ∀ c ∈ s.custody.table, c = sackOf chain2 1000 ∨ c = nested 21 (some 22) ∨ c = nested 22 none ∨
      c = bag 23 .depositBag .held := by
    intro c m; rw [ht] at m; simpa [sacked, withTable] using m
  have find : ∀ tag, s.container? tag = sacked.container? tag := by intro tag; simp only [State.container?, ht]
  have chain : s.members chain2 = [nested 21 (some 22), nested 22 none] := by
    have same : ∀ n first, s.chainFrom n first = sacked.chainFrom n first := by
      intro n
      induction n with
      | zero => intro first; rfl
      | succ n ih => intro first; cases first <;> simp [State.chainFrom, find, ih]
    simp only [State.members, same]; decide
  have one : ∀ c ∈ s.custody.table, ∀ q, c.sack = some q → c = sackOf chain2 1000 ∧ q = chain2 := by
    intro c m q hq
    rcases mem c m with rfl | rfl | rfl | rfl <;> first | exact ⟨rfl, (Option.some.inj hq).symm⟩ | cases hq
  refine ⟨⟨?_, ?_, ?_, ?_, ?_, ?_, ?_⟩, ⟨?_, ?_⟩⟩
  · intro k m q hq
    obtain ⟨rfl, rfl⟩ := one k m q hq
    rw [chain]
    exact ⟨⟨21, rfl, by rw [find]; decide⟩, ⟨22, rfl, by rw [find]; decide⟩, rfl⟩
  · intro k m q hq; obtain ⟨rfl, rfl⟩ := one k m q hq; rw [chain]; decide
  · intro k m q hq; obtain ⟨rfl, rfl⟩ := one k m q hq; rw [chain]; decide
  · intro k m q hq c mc n hn
    obtain ⟨rfl, rfl⟩ := one k m q hq
    rw [chain] at mc
    have : c = nested 21 (some 22) ∨ c = nested 22 none := by simpa using mc
    rcases this with rfl | rfl <;> (rw [← Option.some.inj hn]; decide)
  · intro k m q hq; obtain ⟨rfl, rfl⟩ := one k m q hq; rw [chain]; decide
  · intro c m n hn
    refine ⟨sackOf chain2 1000, by rw [ht]; decide, chain2, ?_, rfl, ?_⟩
    · rcases mem c m with rfl | rfl | rfl | rfl <;> first | (rw [← Option.some.inj hn]; decide) | cases hn
    · rw [chain]; rcases mem c m with rfl | rfl | rfl | rfl <;> first | decide | cases hn
  · rw [ht]; decide
  · intro c m k hk
    rw [hc]
    rcases mem c m with rfl | rfl | rfl | rfl <;> cases hk <;> decide
  · intro c m g hg
    rcases mem c m with rfl | rfl | rfl | rfl <;> cases hg

/-- The safe above, its books balanced, with SACK_ABANDON of its sack waiting. -/
def abandoning : State := { balanced sacked with pending := [.sackAbandon (.fields 20)] }

theorem witness_MovementsKeepTheIdentity_step :
    (∃ t, step abandoning = .next t) ∧ BooksInv abandoning ∧ PartsInv abandoning ∧ SackInv abandoning ∧
    WorthInv abandoning ∧ IdentityInv abandoning :=
  have laws := laws_of (s := abandoning) rfl rfl
  ⟨⟨_, rfl⟩, books_of (by decide), parts_of (by decide), laws.1, laws.2, fun _ => by decide⟩

/-- The commands of the second clause on the safe above: each goes on, and no total saturates. -/
theorem witness_MovementsKeepTheIdentity_commands :
    BooksInv sacked ∧ PartsInv sacked ∧ SackInv sacked ∧ Ready sacked ∧
    (∀ c ∈ ([.dispatch (.fields 20), .sackAbandon (.fields 20), .answerReceived 3 1 (answer8 .releasedToYou 500), .haltRecord,
        .batchIdleEnd, .countAbort (.fields ()), .noRecordTimeout] : List Instr),
      after c sacked (fun t => !t.custody.saturated) = true) ∧
    after (.dayClose (.fields ())) sacked (fun t =>
      !t.custody.saturated && t.port.response == some { status := .ok, body := [] }) = true := by
  refine ⟨books_of (by decide), parts_of (by decide), (laws_of rfl rfl).1, ⟨by decide, by decide⟩, by decide, by decide⟩

theorem witness_MovementsKeepTheIdentity :
    (BooksInv stored ∧ PartsInv stored ∧ ∃ t, exec (.dismantle (.fields 7)) stored = .next t ∧ t.custody.saturated = false) ∧
    (∀ c k, stored.container? 7 = some c → c.comp = some k → compProper k = true ∧ stored.cfg.valueOf k = c.value) ∧
    (BooksInv sacked ∧ PartsInv sacked ∧ ∃ t, exec (.unnest (.fields 21)) sacked = .next t ∧ t.custody.saturated = false) ∧
    (∀ m n k, sacked.container? 21 = some m → m.nesting = some n → sacked.container? n.parent = some k →
      m.value ≤ k.value ∧ k.state ≠ .nested) := by
  refine ⟨⟨books_of (by decide), parts_of (by decide), _, rfl, by decide⟩, fun c k hc hk => ?_,
    ⟨books_of (by decide), parts_of (by decide), _, rfl, by decide⟩, fun m n k hm hn hk => ?_⟩
  · have e : c = pouch := (Option.some.inj hc).symm
    subst e
    have e : k = [(0, 5)] := (Option.some.inj hk).symm
    subst e; decide
  · have e : m = nested 21 (some 22) := (Option.some.inj hm).symm
    subst e
    have e : n = { parent := 20, next := some 22 } := (Option.some.inj hn).symm
    subst e
    have e : k = sackOf chain2 1000 := (Option.some.inj hk).symm
    subst e; decide

/-! #### Counting -/

theorem witness_CountOpenStartsASession :
    (Ready till ∧ till.member.state ≠ .unconfigured ∧ till.count.state = .idle ∧ modeOfCode 0 = some .intake ∧
      (999999 : Nat) ≤ 999999) ∧
    (Ready stored ∧ modeOfCode 2 = some .recount ∧ stored.container? 6 = none ∧ stored.container? 7 = some pouch ∧
      pouch.cls ≠ .courierSack ∧ pouch.state = .held) ∧
    ¬ (1000000 : Nat) ≤ 999999 ∧
    (withTable till [bag 7 .courierSack .held]).container? 7 = some (bag 7 .courierSack .held) ∧
    (sent .outbound 1).state ≠ .held ∧ (counting till .running .intake []).count.state = .running ∧
    State.reset.member.state = .unconfigured := by
  repeat' first | decide | constructor

def timedCount (w : Nat) : State :=
  let s := counting (withTable till [bag 7 .pickupPouch .counting]) .opened .recount []
  { s with count := { s.count with noRecordEnds := some w } }

theorem witness_SessionsCloseWithoutABatch :
    (Ready (counting till .opened .intake []) ∧ (counting till .opened .intake []).count.state = .opened ∧
      (counting till .opened .intake []).count.job = some { mode := .intake, tag := 0, expected := none }) ∧
    (Ready (counting till .running .payout []) ∧ (counting till .running .payout []).count.state = .running ∧
      (counting till .running .payout []).count.job = some { mode := .payout, tag := 0, expected := none }) ∧
    (Ready (timedCount 1000000) ∧ (timedCount 1000000).count.state.sessionOpen = true ∧
      (timedCount 1000000).count.job = some { mode := .recount, tag := 7, expected := none } ∧
      (timedCount 1000000).container? 7 = some (bag 7 .pickupPouch .counting) ∧
      (bag 7 .pickupPouch .counting).deferred = none) ∧
    ((timedCount 1000000).count.noRecordEnds = some 1000000 ∧ 1000000 ≤ (timedCount 1000000).clock ∧
      (timedCount 1000001).clock < 1000001) ∧
    (Ready till ∧ till.count.state = .idle) ∧
    ((counting till .closed .intake []).count.state = .closed ∧
      (counting till .closed .intake []).count.job = some { mode := .intake, tag := 0, expected := none }) := by
  repeat' first | decide | constructor

/-- A RECOUNT session in a state whose container has an OFFER deferred or not. -/
def recounting (st : CountState) (d : Option DeferredOffer) : State :=
  counting (withTable till [{ bag 7 .pickupPouch .counting with deferred := d }]) st .recount []

theorem witness_SessionsCloseWithoutABatch_target :
    (∀ d ∈ [none, some ({ peer := 3, purpose := 0 } : DeferredOffer)],
      (recounting .running d).unit.power = .running ∧ (recounting .running d).port.owed = none ∧
      (recounting .running d).count.state.sessionOpen = true ∧
      (recounting .running d).count.job = some { mode := .recount, tag := 7, expected := none } ∧
      (recounting .running d).container? 7 = some { bag 7 .pickupPouch .counting with deferred := d }) ∧
    (∀ d ∈ [none, some ({ peer := 3, purpose := 0 } : DeferredOffer)],
      let s := recounting .opened d
      ({ s with count := { s.count with noRecordEnds := some 1000000 } } : State).count.noRecordEnds = some 1000000 ∧
        1000000 ≤ s.clock) := by decide

def record : CountEntry := { slot := 0, suspect := false, count := 1 }
def intaking (n : Nat) : State := counting till .running .intake (List.replicate n record)

theorem witness_RecordsJoinTheBatch :
    ({ till with count := { till.count with discarding := true } } : State).count.discarding = true ∧
    (till.unit.power = .running ∧ till.count.discarding = false ∧ till.count.state.sessionOpen = false) ∧
    ((intaking 31).count.state.sessionOpen = true ∧ (intaking 31).count.discarding = false ∧ (1 : Nat) ≠ 0 ∧
      (intaking 31).cfg.inUse 1 = true ∧ (intaking 31).count.fifo.length < 32) ∧
    ((intaking 32).count.state = .running ∧ 32 ≤ (intaking 32).count.fifo.length) ∧
    (counting till .opened .intake []).count.state.sessionOpen = true ∧ (intaking 1).cfg.threshold = 0 := by decide

/-- A running intake with a threshold and what the batch has counted, characters of a record brought. -/
def progressing (threshold good : Nat) (progressed : Bool) : State :=
  let s := intaking 1
  { s with cfg := { s.cfg with threshold := threshold },
           count := { s.count with assembled := [0x10, 0x00], batch := { s.count.batch with good := good, progressed := progressed } } }

theorem witness_RecordsJoinTheBatch_progress :
    ((progressing 3 2 false).count.batch.progressed = false ∧ (progressing 3 2 false).cfg.threshold ≠ 0 ∧
      (progressing 3 2 false).count.batch.good < (progressing 3 2 false).cfg.threshold ∧
      after (.countRecord 0 false 1) (progressing 3 2 false) (fun t => t.count.batch.good == 3) = true) ∧
    ((progressing 3 2 true).count.batch.progressed = true ∧
      (progressing 3 3 false).cfg.threshold ≤ (progressing 3 3 false).count.batch.good ∧
      after (.countRecord 0 false 1) (progressing 4 2 false) (fun t => t.count.batch.good == 3) = true) ∧
    ((progressing 3 2 false).count.assembled ≠ [] ∧ till.count.assembled = [] ∧ till.cfg.inUse 0 = true ∧ till.cfg.inUse 2 = false ∧
      (progressing 3 2 false).cfg.countLine.parity ≠ 0 ∧ DropReason.check ≠ .parity ∧
      ({ baud := 0, parity := 0, stop := 1 } : CountLineFields).parity = 0) := by decide

theorem witness_StandingBatchesAreApplied :
    ((intaking 1).unit.power = .running ∧ (intaking 1).count.discarding = false ∧ (intaking 1).count.state = .running ∧
      (intaking 1).count.job = some { mode := .intake, tag := 0, expected := none }) ∧
    ((counting till .running .payout [record]).count.state = .running ∧
      (counting till .running .payout [record]).count.job = some { mode := .payout, tag := 0, expected := none }) ∧
    (till.cfg.inUse 0 = true ∧ 65535 < (withPieces till 65535).pieces 0 + 1 ∧ till.pieces 0 < 1) := by decide

def targeted (m : CountMode) : State := counting (withTable till [bag 7 .pickupPouch .counting]) .running m [record]

/-- A running batch of target mode whose container has an OFFER deferred to a peer. -/
def deferring (m : CountMode) (n peer : Nat) : State :=
  counting (withTable { till with cfg := { till.cfg with tolRel := 0 } }
    [{ bag 7 .pickupPouch .counting with deferred := some { peer := peer, purpose := 0 } }]) .running m
    [{ slot := 0, suspect := false, count := n }]

theorem witness_TargetBatchesAreApplied :
    (∀ m ∈ [CountMode.recount, .unpack], BooksInv (targeted m) ∧ (targeted m).unit.power = .running ∧
      (targeted m).count.discarding = false ∧ (targeted m).count.assembled = [] ∧ (targeted m).count.state = .running ∧
      (targeted m).count.job = some { mode := m, tag := 7, expected := none } ∧
      (targeted m).container? 7 = some (bag 7 .pickupPouch .counting) ∧ (bag 7 .pickupPouch .counting).deferred = none ∧
      (targeted m).count.batch.damage = 0 ∧ (∀ r ∈ (targeted m).count.fifo, (targeted m).cfg.inUse r.slot = true) ∧
      (targeted m).count.fifo.map (fun r => (r.slot, r.suspect, r.count)) = [(0, false, 1)]) ∧
    (∃ r ∈ (counting till .running .recount [{ record with slot := 2 }]).count.fifo, till.cfg.inUse r.slot = false) := by
  refine ⟨?_, { record with slot := 2 }, by decide⟩
  intro m hm
  have : m = .recount ∨ m = .unpack := by simpa using hm
  rcases this with rfl | rfl <;> exact ⟨books_of (by decide), by decide⟩

/-- Five pieces of 100 are worth the container's 500, one piece is not; desk 3 may take it, no one has number 5. -/
theorem witness_TargetBatchesAreApplied_deferred :
    (∀ m ∈ [CountMode.recount, .unpack], ∀ n ∈ [1, 5], ∀ p ∈ [3, 5],
      ((deferring m n p).custody.table.map (·.tag)).Nodup ∧ (deferring m n p).custody.inbound = [] ∧
      (deferring m n p).unit.power = .running ∧ (deferring m n p).count.discarding = false ∧
      (deferring m n p).count.assembled = [] ∧ (deferring m n p).count.state = .running ∧
      (deferring m n p).count.job = some { mode := m, tag := 7, expected := none } ∧
      (deferring m n p).container? 7 =
        some { bag 7 .pickupPouch .counting with deferred := some { peer := p, purpose := 0 } } ∧
      (deferring m n p).count.batch.damage = 0 ∧
      (deferring m n p).count.fifo = [{ slot := 0, suspect := false, count := n }] ∧ till.cfg.face 0 = 100) ∧
    ((deferring .recount 5 3).unit.role = some .till ∧ joiningOrJoined (deferring .recount 5 3).member.state = true ∧
      ((deferring .recount 5 3).peer 3).state = .live ∧ ((deferring .recount 5 3).peer 3).role.isSome = true ∧
      routed (deferring .recount 5 3).unit.role ((deferring .recount 5 3).peer 3).role .pickupPouch = true ∧
      (deferring .recount 5 3).loop.queue.length < 12 ∧ ((deferring .recount 5 5).peer 5).state = .unknown) ∧
    (12 ≤ (fullQueue (deferring .recount 5 3)).loop.queue.length ∧ 5 % 4096 = 5 ∧
      (fullQueue (deferring .recount 5 3)).container? 7 = (deferring .recount 5 3).container? 7) ∧
    max (deferring .recount 5 3).cfg.tolAbs (500 * (deferring .recount 5 3).cfg.tolRel / 10000) < 400 := by decide

/-! #### Service -/

def bare : State := withNeeds till []
def needing (r : OwnRequest) : State := withNeeds till [r]

theorem witness_RequestsAreRaisedAndEnd :
    (PortRoom till ∧ compRequired [(0, 1)] = true ∧ (∀ q ∈ ([(0, 1)] : Composition), till.cfg.inUse q.1 = true) ∧
      raisesNeed till.unit.role .pickup = true ∧ till.service.requests.length < 4 ∧ 1 ≤ till.service.nextId ∧
      till.service.nextId ≤ 255 ∧ (∀ r ∈ till.service.requests, r.id ≠ till.service.nextId)) ∧
    (∃ q ∈ ([(2, 1)] : Composition), till.cfg.inUse q.1 = false) ∧ raisesNeed till.unit.role .change = false ∧
    (PortRoom (withNeeds till (List.replicate 4 (need .opened))) ∧
      4 ≤ (withNeeds till (List.replicate 4 (need .opened))).service.requests.length) ∧
    (till.request? 5 = none ∧ PortRoom (needing (need .opened)) ∧ (needing (need .opened)).request? 5 = some (need .opened) ∧
      (∀ n a g, (need .opened).phase ≠ .serving n a g)) ∧
    (PortRoom (needing (need (.serving 3 0 7))) ∧ ∃ n a g, (need (.serving 3 0 7)).phase = .serving n a g) ∧
    ((needing { need .opened with openAge := 360000 }).request? 5 = some { need .opened with openAge := 360000 } ∧
      till.cfg.requestLimit * 6000 ≤ 360000 ∧ 359999 < till.cfg.requestLimit * 6000 ∧ till.cfg.escalation ≠ 0 ∧
      till.cfg.escalation * 6000 ≤ 90000 ∧ 89999 < till.cfg.escalation * 6000 ∧ (need .opened).urgency = .normal) ∧
    ((needing (need (.claimed 3 120000))).request? 5 = some (need (.claimed 3 120000)) ∧
      till.cfg.claimLimit * 6000 ≤ 120000 ∧ 119999 < till.cfg.claimLimit * 6000) := by
  refine ⟨?_, ⟨(2, 1), by decide⟩, by decide, ?_, ⟨by decide, ?_, by decide, fun _ _ _ h => by cases h⟩,
    ⟨?_, 3, 0, 7, rfl⟩, by decide, by decide⟩ <;> repeat' first | decide | constructor

def listing (l : List ServiceEntry) : State := withList desk l
def claim5 : ClaimPayload := { id := 5, kind := .pickup, role := .desk }

theorem witness_ClaimsAreMadeAndAwarded :
    (PortRoom (listing (List.replicate 4 (wanted .won))) ∧ desk.unit.role = some .desk ∧ Role.desk ≠ .till ∧
      4 ≤ ((listing (List.replicate 4 (wanted .won))).service.list.filter (fun e => e.state ≠ .listed)).length) ∧
    (PortRoom (listing []) ∧ (∀ e ∈ (listing []).service.list, (listing []).eligible e = false)) ∧
    (PortRoom (listing [wanted .won, wanted .listed]) ∧
      (listing [wanted .won, wanted .listed]).service.list.filter (·.urgency = .urgent) ++
        (listing [wanted .won, wanted .listed]).service.list.filter (·.urgency = .normal) =
          [wanted .won] ++ [wanted .listed] ++ [] ∧
      (∀ d ∈ [wanted .won], (listing [wanted .won, wanted .listed]).eligible d = false) ∧
      (listing [wanted .won, wanted .listed]).eligible (wanted .listed) = true) ∧
    ((listing [wanted .listed]).service? 2 5 = some (wanted .listed) ∧ (2 : Nat) ≠ (listing [wanted .listed]).own) ∧
    (PortRoom till ∧ till.unit.role = some .till) ∧
    OnLine (onLine (listing [wanted .claiming]) 2 (.claim claim5)) 2 (.claim claim5) ∧
    ((onLine (listing [wanted .claiming]) 2 (.claim claim5)).service? 2 5 = some (wanted .claiming) ∧
      (wanted .won).state ≠ .claiming) ∧
    (Hears (needing (need .opened)) 3 1 (.claim claim5) ∧ (needing (need .opened)).request? 5 = some (need .opened) ∧
      (need .opened).kind = claim5.kind ∧ servesNeed (some claim5.role) claim5.kind = true ∧
      ((needing (need .opened)).loop.queue.filter (fun f => !isWaitingNeed 5 { f with onLine := false })).length < 12) ∧
    (Hears till 3 1 (.claim claim5) ∧ till.request? 5 = none) := by
  refine ⟨?_, ?_, ?_, ?_, ?_, onLine_of _ _ _ (by decide), ?_⟩ <;> repeat' first | decide | constructor

def need5 (u : Urgency) : NeedPayload :=
  { id := 5, kind := .pickup, urgency := u, reopened := false, value := 100, comp := [(0, 1)] }
def award5 (n : Nat) : AwardPayload :=
  { id := 5, claimant := n, kind := .pickup, urgency := .normal, value := 100, comp := [(0, 1)] }
def otherEntry (u : Urgency) (n : Nat) : ServiceEntry := { wanted .listed with id := 10 + n, urgency := u }
def crowded (u : Urgency) : State := listing ((List.range 15).map (otherEntry .urgent) ++ [otherEntry u 15])

/-- A station whose primary range leaves station 2 to the backup range. -/
def backup (l : List ServiceEntry) : State :=
  { listing l with
    cfg := { desk.cfg with cover := { primaryLow := 3, primaryHigh := 3, backupLow := 1, backupHigh := 2, delay := 600 } } }

theorem witness_ServiceListFollowsTheFrames :
    (Hears (listing []) 2 58 (.need { need5 .normal with kind := .change }) ∧ servesNeed desk.unit.role .change = false) ∧
    (Hears (listing [wanted .claiming]) 2 58 (.need (need5 .normal)) ∧ servesNeed desk.unit.role .pickup = true ∧
      (listing [wanted .claiming]).service? 2 5 = some (wanted .claiming)) ∧
    (listing [wanted .won]).service? 2 5 = some (wanted .won) ∧
    (Hears (listing []) 2 58 (.need (need5 .normal)) ∧ (listing []).service? 2 5 = none) ∧
    (Hears (crowded .urgent) 2 58 (.need (need5 .urgent)) ∧ (crowded .urgent).service? 2 5 = none ∧
      16 ≤ (crowded .urgent).service.list.length ∧
      (∀ e ∈ (crowded .urgent).service.list, e.state = .listed → e.urgency = .urgent)) ∧
    ((crowded .normal).service.list =
        (List.range 15).map (otherEntry .urgent) ++ [otherEntry .normal 15] ++ [] ∧
      16 ≤ (crowded .normal).service.list.length) ∧
    ((backup [{ wanted .listed with listedRaised := false, heard := 940000 }]).eligible
        { wanted .listed with listedRaised := false, heard := 940000 } = true ∧
      inPrimary (backup []).cfg.cover 2 = false ∧
      (backup []).eligible { wanted .listed with listedRaised := false, heard := 940001 } = false) ∧
    (Hears (listing [wanted .listed]) 2 58 (.award (award5 1)) ∧ (award5 1).claimant = desk.own ∧
      (award5 3).claimant ≠ desk.own ∧ Hears (listing [wanted .won]) 2 58 (.award (award5 3)) ∧
      Hears (listing []) 2 58 (.award (award5 1)) ∧ (listing []).service.list.length < 16) ∧
    (Hears (listing [wanted .won]) 2 58 (.withdraw { id := 5, kind := .pickup, reason := .expired }) ∧
      (listing []).service? 2 5 = none) := by
  repeat' first | decide | constructor

/-! #### The safe, alarms, door, lamps, reads -/

def window (e : Nat) : State := withWindow safe (some { opened := 1, ends := e })

theorem witness_WindowAdmitAndSackOpen :
    (Ready State.reset ∧ State.reset.member.state = .unconfigured) ∧
    (Ready till ∧ till.member.state ≠ .unconfigured ∧ till.member.state ≠ .stopped ∧ till.unit.role ≠ some .safe) ∧
    (Ready safe ∧ safe.unit.role = some .safe ∧ safe.safe.window = none ∧ safe.member.state ≠ .unconfigured) ∧
    (Ready (window 1000000) ∧ (window 1000000).safe.window = some { opened := 1, ends := 1000000 } ∧
      1000000 ≤ (window 1000000).clock ∧ (window 1000001).clock < 1000001) ∧
    ((7 : Nat) ≠ 0 ∧ (2 ^ 40 - 1 : Nat) < 2 ^ 40 ∧ (window 1).tagKnown 7 = false ∧
      (window 1).custody.table.length + (window 1).reserved < 48 ∧
      saturates ((window 1).custody.totals.admitted + 500) = false) ∧
    (compRequired [(0, 5)] = true ∧ (∀ q ∈ ([(0, 5)] : Composition), (window 1).cfg.inUse q.1 = true) ∧
      (window 1).cfg.valueOf [(0, 5)] = 500) ∧
    ((withTable (window 1) [bag 7 .changeStock .held]).tagKnown 7 = true ∧ (fullTable (window 1)).tagKnown 7 = false ∧
      48 ≤ (fullTable (window 1)).custody.table.length + (fullTable (window 1)).reserved) := by
  repeat' first | decide | constructor

theorem witness_NestAndUnnestKeepTheChain :
    BooksInv sacked ∧ Ready sacked ∧ sacked.member.state ≠ .unconfigured ∧ sacked.unit.role = some .safe ∧
    sackOf chain2 1000 ∈ sacked.custody.table ∧ bag 23 .depositBag .held ∈ sacked.custody.table ∧
    (sackOf chain2 1000).sack = some chain2 ∧ chain2.state = .assembling ∧
    sacked.members chain2 = [nested 21 (some 22), nested 22 none] ∧ chain2.count = 2 ∧
    (20 : Nat) ∉ [nested 21 (some 22), nested 22 none].map (·.tag) ∧
    (∀ c ∈ [nested 21 (some 22), nested 22 none], c.nesting.isSome = true) ∧ (nested 22 none).nextMember = none ∧
    ((23 : Nat) ∉ [nested 21 (some 22), nested 22 none].map (·.tag) ∧ sacked.cfg.uncounted = true ∧
      (sackOf chain2 1000).value + 500 < 2 ^ 40) ∧
    (nested 21 (some 22) ∈ sacked.custody.table ∧ nested 22 none ∈ sacked.custody.table ∧
      [nested 21 (some 22), nested 22 none].map (·.tag) = [] ++ [21] ++ [22] ∧
      [nested 21 (some 22), nested 22 none].map (·.tag) = [21] ++ [22] ++ []) := by
  refine ⟨books_of (by decide), ?_⟩
  repeat' first | decide | constructor

theorem witness_NestAndUnnestKeepTheChain_first :
    BooksInv (withTable sacked [sackOf emptySack 0, bag 23 .depositBag .held]) ∧
    (withTable sacked [sackOf emptySack 0, bag 23 .depositBag .held]).members emptySack = [] ∧ emptySack.count = 0 ∧
    emptySack.first = none := by
  refine ⟨books_of (by decide), ?_⟩
  decide

def closed2 : SackFields := { chain2 with state := .closed, check := some 1 }

theorem witness_SacksCloseAndLeave :
    (Ready sacked ∧ sacked.member.state ≠ .unconfigured ∧ sacked.unit.role = some .safe ∧
      sacked.container? 20 = some (sackOf chain2 1000) ∧ (sackOf chain2 1000).sack = some chain2 ∧
      chain2.state = .assembling ∧ chain2.count ≠ 0 ∧ sacked.safe.window = none) ∧
    ((withTable safe [sackOf emptySack 0]).container? 20 = some (sackOf emptySack 0) ∧ emptySack.count = 0) ∧
    ((withTable (window 1) [sackOf closed2 1000]).container? 20 = some (sackOf closed2 1000) ∧ closed2.state = .closed ∧
      closed2.check = some 1 ∧ (withTable (window 1) [sackOf closed2 1000]).safe.window.isSome = true ∧
      saturates ((window 1).custody.totals.dispatched + 1000) = false) := by
  repeat' first | decide | constructor

theorem witness_SackReopenRemovesTheCheck :
    (Ready (withTable safe [sackOf closed2 0]) ∧ (withTable safe [sackOf closed2 0]).member.state ≠ .unconfigured ∧
      (withTable safe [sackOf closed2 0]).unit.role = some .safe ∧
      (withTable safe [sackOf closed2 0]).container? 20 = some (sackOf closed2 0) ∧
      (withTable safe [sackOf closed2 0]).container? 21 = none ∧ closed2.state = .closed) ∧
    chain2.state ≠ .closed ∧ pouch.cls ≠ .courierSack ∧ till.unit.role ≠ some .safe ∧
    State.reset.member.state = .unconfigured := by
  repeat' first | decide | constructor

def alarmed (s : State) : State := { s with attn := { s.attn with doorHeld := true } }

theorem witness_AlarmClearClearsEventAlarms :
    (Ready (alarmed till) ∧ (alarmed till).alarmSet .doorHeld = true ∧ (alarmed till).alarmSet .duplicateStation = false ∧
      portFrames (alarmed till).loop.queue < 8 ∧ (alarmed till).loop.queue.length < 12) ∧
    (Ready (fullPort (alarmed till)) ∧ joiningOrJoined (fullPort (alarmed till)).member.state = true ∧
      8 ≤ portFrames (fullPort (alarmed till)).loop.queue) ∧
    joiningOrJoined (withState (alarmed till) .stopped).member.state = false ∧ (7 : Nat) < 8 := by
  repeat' first | decide | constructor

def opened (o : Nat) (h : Bool) : State :=
  { till with door := { isOpen := true, openSince := some o, heldRaised := h, allowanceEnds := some 1000000 } }

def lit (s : State) (n : Nat) : State := { s with lamps := { s.lamps with ms := n } }

theorem witness_DoorAndLamps :
    (Ready till ∧ till.member.state ≠ .unconfigured ∧ till.unit.power = .running ∧ till.door.isOpen = false ∧
      till.door.allowanceEnds = none ∧ till.unit.role ≠ some .safe ∧ till.count.state.sessionOpen = false) ∧
    ((window 1).safe.window.isSome = true ∧ (counting till .opened .intake []).count.state.sessionOpen = true) ∧
    ((opened 988000 false).door.allowanceEnds = some 1000000 ∧ 1000000 ≤ (opened 988000 false).clock ∧
      988000 + (opened 988000 false).cfg.holdLimit * 100 ≤ (opened 988000 false).clock ∧
      (opened 988001 false).clock < 988001 + (opened 988001 false).cfg.holdLimit * 100) ∧
    ((lit till 124).lamps.ms < 125 ∧ 125 ≤ (lit till 125).lamps.ms) ∧
    ((alarmed till).anyAlarm = true ∧ till.anyAlarm = false) ∧
    (∃ e ∈ (withInbound till [entry .unsure]).custody.inbound, e.state = .unsure ∨ e.state = .unresolved) ∧
    ((∃ e ∈ (withInbound till [entry .expected]).custody.inbound, e.state = .expected) ∧
      (∀ e ∈ (withInbound till [entry .expected]).custody.inbound, e.state ≠ .unsure ∧ e.state ≠ .unresolved)) ∧
    (∃ r ∈ (needing (need (.claimed 3 0))).service.requests, r.phase ≠ .opened) ∧
    (needing (need .opened)).service.requests ≠ [] := by
  refine ⟨?_, by decide, by decide, by decide, by decide, ⟨entry .unsure, by decide⟩, ⟨⟨entry .expected, by decide⟩, by decide⟩,
    ⟨need (.claimed 3 0), by decide⟩, by decide⟩
  repeat' first | decide | constructor

theorem witness_DoorAndLamps_peers : till.anyAlarm = false ∧
    ((withPeer till 56 { peerOf .desk with alarm := some .doorHeld }).peer 56).alarm.isSome = true ∧
    (∀ n, (withPeer State.reset 1 unknownPeer).peer n = unknownPeer) := by
  refine ⟨by decide, by decide, fun n => ?_⟩
  unfold State.peer
  split
  · rfl
  · simp only [withPeer, setPeer, State.reset, State.cold, unknownPeers]
    by_cases h : n - 1 < 56 <;> simp [h]

theorem witness_ReadsAnswerTheirBodies :
    (Ready sacked ∧ sacked.container? 1 = none ∧ sacked.container? 20 = some (sackOf chain2 1000) ∧
      (sackOf chain2 1000).sack = some chain2) ∧
    (till.unit.role = some .till ∧ desk.unit.role = some .desk ∧ till.container? 1 = none ∧ desk.container? 1 = none ∧
      sacked.unit.role = some .safe ∧ (withRole till none).unit.role = none ∧ Ready (withRole till none)) ∧
    (sacked.container? 23 = some (bag 23 .depositBag .held) ∧ (bag 23 .depositBag .held).cls ≠ .courierSack) := by
  repeat' first | decide | constructor

theorem witness_FramesAndRecordsReadBack :
    frameOk 56 1 (.taken { tag := 4294967295, number := 65535, value := 2 ^ 40 - 1 }) = true ∧
    frameOk 1 0 (.beacon (beacon 4)) = true ∧ (15 : Nat) < 16 ∧ (4095 : Nat) ≤ 4095 ∧ (63#8).toNat < 64 ∧
    192 ≤ (192#8).toNat ∧ (1#8) ≠ 0#8 ^^^ 0#8 ^^^ 0#8 ∧
    0 < (Frame.characters { sender := 1, target := 0, payload := .beacon (beacon 4) }).length := by decide

theorem witness_ArbitrationOrdersFrames :
    let a : Frame := { sender := 1, target := 0, payload := .announce (announced 7) }
    let b : Frame := { sender := 56, target := 0, payload := .announce (announced 8) }
    (1 ≤ a.sender ∧ a.sender ≤ 56 ∧ 1 ≤ b.sender ∧ b.sender ≤ 56) ∧
    frameClass (.recall { tag := 1, number := 1 }) < frameClass a.payload ∧ kindCharacter a.payload = kindCharacter b.payload ∧
    (let catalogue : List Byte := [0x00#8, 0x24#8, 0x34#8, 0x2C#8, 0x3C#8, 0x42#8, 0x52#8, 0x4A#8, 0x66#8, 0x76#8, 0x81#8,
       0x91#8, 0xA5#8, 0xB5#8, 0xC3#8]
     catalogue.idxOf (kindCharacter (.query { tag := 1, number := 1 })) <
       catalogue.idxOf (kindCharacter (.recall { tag := 1, number := 1 })) ∨
     catalogue.idxOf (kindCharacter (.recall { tag := 1, number := 1 })) <
       catalogue.idxOf (kindCharacter (.query { tag := 1, number := 1 }))) ∧
    frameClass (.recall { tag := 1, number := 1 }) = frameClass (.query { tag := 1, number := 1 }) ∧
    a.sender < b.sender ∧ (announced 7).serial.toNat < (announced 8).serial.toNat ∧ Frame.wins a b = true := by decide

/-! #### Invariants -/

def front (c : Instr) (s : State) : State := { s with pending := [c] }

theorem witness_StepKeepsTheBooks :
    (∃ t, step (front (.unnest (.fields 21)) sacked) = .next t) ∧ BooksInv (front (.unnest (.fields 21)) sacked) ∧
    PartsInv (front (.unnest (.fields 21)) sacked) ∧ SackInv (front (.unnest (.fields 21)) sacked) ∧
    WorthInv (front (.unnest (.fields 21)) sacked) :=
  have laws := laws_of (s := front (.unnest (.fields 21)) sacked) rfl rfl
  ⟨⟨_, rfl⟩, books_of (by decide), parts_of (by decide), laws.1, laws.2⟩

theorem witness_StepKeepsLoopAndPeers :
    (∃ t, step (front .frameSendStart (withQueue till [filler true])) = .next t) ∧
    LoopInv (front .frameSendStart (withQueue till [filler true])) ∧ MemberInv (front .frameSendStart till) := by
  refine ⟨⟨_, rfl⟩, ⟨by decide, by decide, by decide, by decide, by decide, by decide, ?_, by decide, by decide, by decide⟩,
    ⟨by decide, by decide, ?_, ?_⟩⟩
  · intro f h; cases h
  · exact all_some (b := 1) rfl (by decide)
  · intro n
    have h : ∀ e ∈ (front .frameSendStart till).member.peers.toList, e.silence ≤ 65535 := by decide
    unfold State.peer
    split
    · decide
    · by_cases k : n - 1 < 56
      · simpa [k] using h _ (by simp)
      · simp [k, unknownPeer, Config.silenceMax]

theorem witness_StepKeepsServiceAndCount :
    (∃ t, step (front (.cancelNeed (.fields 5)) (needing (need .opened))) = .next t) ∧
    ServiceInv (front (.cancelNeed (.fields 5)) (needing (need .opened))) ∧
    CountInv (front (.endRecord 1) (intaking 1)) := by
  refine ⟨⟨_, rfl⟩, ⟨by decide, by decide, by decide, by decide, by decide, by decide⟩,
    ⟨by decide, by decide, by decide, by decide, by decide, by decide, by decide, by decide, by decide, by decide, by decide⟩⟩

theorem witness_CommandsKeepMoneyInRange :
    Instr.wellFormed (.dismantle (.fields 7)) = true ∧ BooksInv stored ∧ MoneyInv stored ∧
    ∃ t, exec (.dismantle (.fields 7)) stored = .next t := by
  refine ⟨by decide, books_of (by decide), ⟨?_, ?_, by decide, ?_, by decide, ?_, ?_⟩, _, rfl⟩
  · intro d
    by_cases h : d < 12 <;> simp [State.pieces, stored, withTable, till, station, State.reset, State.cold, h, Config.countMax]
  · intro d
    have h : ∀ e ∈ stored.cfg.denoms.toList, e.face ≤ 500000 := by decide
    unfold Settings.face Settings.denom
    by_cases k : d < 12
    · simpa [k] using h _ (by simp)
    · simp [k, unusedSlot]
  · intro c m g hg
    have e : c = pouch := by simpa [stored, withTable] using m
    subst e; cases hg
  · intro e m; cases m
  · intro k; cases k <;> decide

end Sys2Proof.Tests
end

/-! PROOFS. The books alone (R11 to R18): what an evaluation of the float levels can change beyond the Float State, and the
requests DISMANTLE, ACCEPT_VARIANCE and DAY_CLOSE. -/

namespace Sys2Proof.Machine

/-! ### What alarm frames leave unchanged -/

/-- Placing a chip frame leaves the loop interface as it was but for the Transmit Queue (R38, R40). -/
theorem chipFrame_loop (target : Nat) (p : Payload) (s : State) :
    (chipFrame target p s).loop = { s.loop with queue := (chipFrame target p s).loop.queue } := by
  obtain ⟨_, h⟩ | ⟨_, _, h⟩ | ⟨_, _, h⟩ := chipFrame_cases target p s <;> rw [h] <;> rfl

theorem alarmFrame_loop (k : AlarmKind) (a : AlarmAction) (tag : Nat) (s : State) :
    (alarmFrame k a tag s).loop = { s.loop with queue := (alarmFrame k a tag s).loop.queue } := by
  obtain ⟨_, h⟩ | ⟨_, h⟩ := alarmFrame_cases k a tag s
  · rw [h]
  · rw [h]; exact chipFrame_loop _ _ _

theorem changeTotal_loop (k : TotalName) (d : Int) (s : State) :
    (changeTotal k d s).loop = { s.loop with queue := (changeTotal k d s).loop.queue } := by
  unfold changeTotal
  dsimp only
  split
  · exact alarmFrame_loop _ _ _ _
  · rfl

/-! ### What the service unit's raises leave unchanged -/

/-- `t` is `s` but for the Transmit Queue, the service unit and the attention record: all that raising requests changes
(R129, R132 to R134). -/
def ServedFrom (s t : State) : Prop :=
  ∃ (q : List QueuedFrame) (v : ServiceUnit) (a : Attention),
    t = { s with loop := { s.loop with queue := q }, service := v, attn := a }

theorem ServedFrom.refl (s : State) : ServedFrom s s := ⟨s.loop.queue, s.service, s.attn, rfl⟩

theorem ServedFrom.trans {s t u : State} (h : ServedFrom s t) (h' : ServedFrom t u) : ServedFrom s u := by
  obtain ⟨_, _, _, rfl⟩ := h
  obtain ⟨q, v, a, rfl⟩ := h'
  exact ⟨q, v, a, rfl⟩

theorem raise_servedFrom (r : Reason) (s : State) : ServedFrom s (raise r s) :=
  ⟨s.loop.queue, s.service, (raise r s).attn, rfl⟩

theorem raiseIf_servedFrom (c : Bool) (r : Reason) (s : State) : ServedFrom s (raiseIf c r s) := by
  cases c
  · exact .refl s
  · exact raise_servedFrom r s

theorem chipFrame_servedFrom (target : Nat) (p : Payload) (s : State) : ServedFrom s (chipFrame target p s) := by
  refine ⟨(chipFrame target p s).loop.queue, s.service, (chipFrame target p s).attn, ?_⟩
  rw [← chipFrame_loop]
  exact chipFrame_frame target p s

/-- A NEED is not sent, refreshes the one that waits, or joins as a chip frame (R132, R134). -/
theorem sendNeed_servedFrom (r : OwnRequest) (s : State) : ServedFrom s (sendNeed r s) := by
  unfold sendNeed
  split
  · exact .refl s
  · split
    · exact ⟨_, s.service, s.attn, rfl⟩
    · exact chipFrame_servedFrom _ _ s

theorem handRaise_servedFrom (kind : NeedKind) (u : Urgency) (c : Composition) (v : Nat) (s : State) :
    ServedFrom s (handRaise kind u c v s) := by
  unfold handRaise
  split
  · exact .refl s
  · have added (r : OwnRequest) : ServedFrom s (addRequest r s) := ⟨s.loop.queue, _, s.attn, rfl⟩
    exact ((added _).trans (sendNeed_servedFrom _ _)).trans (raise_servedFrom _ _)

theorem autoRaise_servedFrom (holds on : Bool) (k : NeedKind) (u : Urgency) (c : Composition) (v : Nat) (s : State) :
    ServedFrom s (autoRaise holds on k u c v s) := by
  unfold autoRaise
  split
  · exact handRaise_servedFrom k u c v s
  · exact .refl s

theorem autoRaises_servedFrom (s : State) : ServedFrom s (autoRaises s) := by
  unfold autoRaises
  dsimp only
  split
  · exact ((autoRaise_servedFrom ..).trans (autoRaise_servedFrom ..)).trans (autoRaise_servedFrom ..)
  · exact .refl s

/-- An evaluation writes the Float State of the position as it stands; the rest that it changes is what raising requests
changes (R122, R127, R129). -/
theorem evaluate_servedFrom (s : State) :
    ServedFrom (setFloatState (floatStateOf s.unit.role s.cfg s.pieces) s) (evaluate s) :=
  (raiseIf_servedFrom ..).trans (autoRaises_servedFrom _)

/-! ### Lookups -/

/-- A container that a tag finds has that tag. -/
theorem tag_of_container? {s : State} {tag : Nat} {c : Container} (h : s.container? tag = some c) : c.tag = tag := by
  simpa using List.find?_some h

/-! ### DISMANTLE (R12) -/

theorem exec_dismantle {s : State} (h : Ready s) (tag : Nat) :
    exec (.dismantle (.fields tag)) s = .next (dismantle tag (newSelect s)) :=
  request_fields h tag dismantle

theorem dismantle_unconfigured {s : State} (h : s.member.state = .unconfigured) (tag : Nat) :
    dismantle tag s = refuse .badState s := by
  simp [dismantle, h]

theorem dismantle_unknown {s : State} {tag : Nat} (h : s.member.state ≠ .unconfigured) (hc : s.container? tag = none) :
    dismantle tag s = refuse .notFound s := by
  simp [dismantle, h, hc]

theorem dismantle_known {s : State} {tag : Nat} {c : Container} (h : s.member.state ≠ .unconfigured)
    (hc : s.container? tag = some c) : dismantle tag s = dismantleFound c s := by
  simp [dismantle, h, hc]

/-- Only a container made up here, never offered, and with its declared composition is taken apart (R12). -/
theorem dismantleFound_foreign {s : State} {c : Container} (hcls : c.cls ≠ .courierSack) (hheld : c.state = .held)
    (hclear : c.disputed = false) (h : c.origin ≠ s.own ∨ c.handovers ≠ 0 ∨ c.comp = none) :
    dismantleFound c s = refuse .badState s := by
  simp only [dismantleFound, hcls, hheld, hclear, ne_eq, not_true_eq_false, Bool.false_eq_true, if_false]
  split
  · rfl
  · next hown =>
    obtain horigin | hover | hcomp := h
    · exact absurd (.inl horigin) hown
    · exact absurd (.inr hover) hown
    · simp [hcomp]

/-- A container of this station that was never offered: its pieces go back if every slot has room for them (R12). -/
theorem dismantleFound_own {s : State} {c : Container} {k : Composition} (hcls : c.cls ≠ .courierSack)
    (hheld : c.state = .held) (hclear : c.disputed = false) (horigin : c.origin = s.own) (hover : c.handovers = 0)
    (hcomp : c.comp = some k) :
    dismantleFound c s = if s.roomFor k then dismantleAccepted c.tag k s else refuse .limit s := by
  simp [dismantleFound, hcls, hheld, hclear, horigin, hover, hcomp]

theorem roomFor_iff (s : State) (k : Composition) : s.roomFor k = true ↔ ∀ q ∈ k, s.pieces q.1 + q.2 ≤ 65535 := by
  simp [State.roomFor, Config.countMax]

/-- Every slot takes the count that the composition lists for it. -/
theorem pieces_addComp (k : Composition) (s : State) {d : Nat} (h : d < 12) :
    (addComp k s).pieces d = s.pieces d + compAt k d := by
  simp [State.pieces, addComp, h]

theorem removeContainer_eq (tag : Nat) (s : State) :
    removeContainer tag s = setTable (s.custody.table.filter (fun c => c.tag ≠ tag)) s := by
  unfold removeContainer
  congr 2
  funext c
  simp [bne, beq_eq_decide]

/-- An accepted DISMANTLE: the pieces back in the position, the container gone, the float levels evaluated (R12, R122). -/
theorem dismantleAccepted_newSelect (tag : Nat) (k : Composition) (s : State) :
    ∃ t, dismantleAccepted tag k (newSelect s) = t ∧
      (∀ d, d < 12 → t.pieces d = s.pieces d + compAt k d) ∧
      t = { answered .ok [] s with
        custody := { s.custody with table := s.custody.table.filter (fun d => d.tag ≠ tag) },
        position := { counts := t.position.counts, float := floatStateOf s.unit.role s.cfg t.pieces },
        loop := { s.loop with queue := t.loop.queue }, service := t.service, attn := t.attn } := by
  unfold dismantleAccepted
  obtain ⟨q, v, a, he⟩ := evaluate_servedFrom (removeContainer tag (addComp k (newSelect s)))
  rw [he, removeContainer_eq]
  exact ⟨_, rfl, fun d hd => pieces_addComp k s hd, rfl⟩

/-- Settles O35: the checks of `dismantle` one after another, then the effect by `dismantleAccepted_newSelect`. -/
theorem dismantleReturnsThePieces : Obligations.DismantleReturnsThePieces := by
  intro tag s hready
  rw [exec_dismantle hready]
  refine ⟨fun hun => ?_, fun hconf => ⟨fun hnone => ?_, fun c hc => ?_⟩⟩
  · rw [dismantle_unconfigured (s := newSelect s) hun, refuse_newSelect]
  · rw [dismantle_unknown (s := newSelect s) hconf hnone, refuse_newSelect]
  rw [dismantle_known (s := newSelect s) hconf hc]
  refine ⟨fun hsack => ?_, fun hcls hheld => ?_, fun hcls hheld hdisp => ?_, fun hcls hheld hclear =>
    ⟨fun hforeign => ?_, fun k horigin hover hcomp => ?_⟩⟩
  · simp [dismantleFound, hsack]
  · simp [dismantleFound, hcls, hheld]
  · simp [dismantleFound, hcls, hheld, hdisp]
  · rw [dismantleFound_foreign (s := newSelect s) hcls hheld hclear hforeign, refuse_newSelect]
  rw [dismantleFound_own (s := newSelect s) hcls hheld hclear horigin hover hcomp]
  refine ⟨fun ⟨q, hq, hfull⟩ => ?_, fun hroom => ?_⟩
  · have hno : ¬ (newSelect s).roomFor k = true := fun h => absurd ((roomFor_iff _ k).mp h q hq) (not_le.mpr hfull)
    rw [if_neg hno, refuse_newSelect]
  · rw [if_pos ((roomFor_iff (newSelect s) k).mpr hroom), tag_of_container? hc]
    obtain ⟨t, ht, hpieces, heq⟩ := dismantleAccepted_newSelect tag k s
    exact ⟨t, congrArg _ ht, hpieces, heq⟩

/-! ### ACCEPT_VARIANCE (R13) -/

theorem exec_acceptVariance {s : State} (h : Ready s) (tag : Nat) :
    exec (.acceptVariance (.fields tag)) s = .next (acceptVariance tag (newSelect s)) :=
  request_fields h tag acceptVariance

theorem acceptVariance_unconfigured {s : State} (h : s.member.state = .unconfigured) (tag : Nat) :
    acceptVariance tag s = refuse .badState s := by
  simp [acceptVariance, h]

theorem acceptVariance_unknown {s : State} {tag : Nat} (h : s.member.state ≠ .unconfigured)
    (hc : s.container? tag = none) : acceptVariance tag s = refuse .notFound s := by
  simp [acceptVariance, h, hc]

theorem acceptVariance_known {s : State} {tag : Nat} {c : Container} (h : s.member.state ≠ .unconfigured)
    (hc : s.container? tag = some c) : acceptVariance tag s = acceptVarianceFound c s := by
  simp [acceptVariance, h, hc]

/-- The counted composition as a declaration: an empty one is none (R2). -/
theorem declaredFrom_eq (g : CountedGroup) : declaredFrom g = if g.comp = some [] then none else g.comp := by
  unfold declaredFrom
  cases h : g.comp with
  | none => simp
  | some k => cases k <;> simp

/-- The table with one container changed, in the terms of the statements. -/
theorem updateContainer_eq (tag : Nat) (f : Container → Container) (s : State) :
    updateContainer tag f s = setTable (s.tableWith tag f) s := by
  simp [updateContainer, State.tableWith]

theorem saturates_iff (v : Int) : saturates v = true ↔ 140737488355327 ≤ v ∨ v ≤ -140737488355327 := by
  simp [saturates, Config.totalMax]

/-- An accepted ACCEPT_VARIANCE: the difference total takes the variance, the count becomes the declaration (R13, R14). -/
theorem acceptVarianceAccepted_newSelect (c : Container) (g : CountedGroup) (s : State) :
    ∃ t, acceptVarianceAccepted c g (newSelect s) = t ∧
      t.custody.table = s.tableWith c.tag (acceptedCount g) ∧
      t.custody.totals = s.custody.totals.put .difference
        (boundTotal (s.custody.totals.difference + varianceOf g.value c.value)) ∧
      t.custody.saturated = (s.custody.saturated || saturates (s.custody.totals.difference + varianceOf g.value c.value)) ∧
      t = { answered .ok [] s with
        custody := { s.custody with table := t.custody.table, totals := t.custody.totals, saturated := t.custody.saturated },
        loop := { s.loop with queue := t.loop.queue }, attn := t.attn } := by
  unfold acceptVarianceAccepted
  rw [updateContainer_eq, changeTotal_frame, changeTotal_loop]
  exact ⟨_, rfl, rfl, rfl, rfl, rfl⟩

/-- Settles O36: the checks of `acceptVariance`, then the effect by `acceptVarianceAccepted_newSelect`. -/
theorem acceptVarianceSettles : Obligations.AcceptVarianceSettles := by
  intro tag s hready
  rw [exec_acceptVariance hready]
  refine ⟨fun hun => ?_, fun hconf hnone => ?_, fun c hconf hc hno => ?_, fun c g hconf hc hheld hdisp hg => ?_⟩
  · rw [acceptVariance_unconfigured (s := newSelect s) hun, refuse_newSelect]
  · rw [acceptVariance_unknown (s := newSelect s) hconf hnone, refuse_newSelect]
  · rw [acceptVariance_known (s := newSelect s) hconf hc, acceptVarianceFound, if_pos hno, refuse_newSelect]
  · obtain ⟨t, ht, htable, htotals, hsat, heq⟩ := acceptVarianceAccepted_newSelect c g s
    have hfound : acceptVariance tag (newSelect s) = t := by
      rw [acceptVariance_known (s := newSelect s) hconf hc, ← ht]
      simp [acceptVarianceFound, hheld, hdisp, hg]
    refine ⟨t, congrArg _ hfound, ?_, ⟨htotals, ?_⟩, heq⟩
    · rw [htable, tag_of_container? hc]
      unfold acceptedCount
      rw [declaredFrom_eq]
    · rw [hsat, Bool.or_eq_true, saturates_iff]; rfl

/-! ### DAY_CLOSE (R16, R17) -/

theorem exec_dayClose {s : State} (h : Ready s) :
    exec (.dayClose (.fields ())) s = .next (dayClose (newSelect s)) :=
  request_fields h () (fun _ => dayClose)

theorem sessionOpen_iff (c : CountState) : c.sessionOpen = true ↔ c = .opened ∨ c = .running ∨ c = .paused := by
  cases c <;> simp [CountState.sessionOpen]

theorem sessionOpen_eq_false_iff (c : CountState) : c.sessionOpen = false ↔ c = .idle ∨ c = .closed := by
  cases c <;> simp [CountState.sessionOpen]

/-- No day is closed before the part is configured or while a count session is open (R16). -/
theorem dayClose_refused {s : State}
    (h : s.member.state = .unconfigured ∨ s.count.state = .opened ∨ s.count.state = .running ∨ s.count.state = .paused) :
    dayClose s = refuse .badState s :=
  if_pos (h.imp_right (sessionOpen_iff s.count.state).mpr)

theorem dayClose_accepted {s : State} (h : s.member.state ≠ .unconfigured)
    (hidle : s.count.state = .idle ∨ s.count.state = .closed) : dayClose s = answer .ok [] (closeDay s) := by
  simp [dayClose, h, (sessionOpen_eq_false_iff s.count.state).mpr hidle]

/-- The books after a DAY_CLOSE (R16, R17). -/
def closedBooks (s : State) : CustodyUnit :=
  { s.custody with day := s.dayRecord, totals := { zeroTotals with opening := s.accountable }, saturated := false }

/-- Closing the day writes the books; clearing the mark may place an ALARM frame (R16, R18). -/
theorem closeDay_eq (s : State) :
    closeDay s = { s with custody := closedBooks s, loop := { s.loop with queue := (closeDay s).loop.queue },
                          attn := (closeDay s).attn } := by
  unfold closeDay
  dsimp only
  split
  · rw [alarmFrame_frame, alarmFrame_loop]; rfl
  · rfl

/-- The opening total of the new day is all that the identity of R15 adds up. -/
theorem balance_of_closedBooks {s t : State} (hpos : t.position.counts = s.position.counts) (hcfg : t.cfg = s.cfg)
    (hbooks : t.custody = closedBooks s) : t.balance = 0 := by
  have hacc : t.accountable = s.accountable := by
    simp [State.accountable, State.positionValue, State.pieces, hpos, hcfg, hbooks, closedBooks]
  have hid : t.custody.totals.identity = s.accountable := by
    simp [hbooks, closedBooks, Totals.identity, zeroTotals]
  rw [State.balance, hacc, hid, sub_self]

/-- Settles O37: a refusal while unconfigured or in a count session, else the books of `closedBooks`. -/
theorem dayCloseOpensTheNextDay : Obligations.DayCloseOpensTheNextDay := by
  intro s hready
  rw [exec_dayClose hready]
  refine ⟨fun hno => ?_, fun hconf hidle => ?_⟩
  · rw [dayClose_refused (s := newSelect s) hno, refuse_newSelect]
  · rw [dayClose_accepted (s := newSelect s) hconf hidle, closeDay_eq]
    exact ⟨_, rfl, rfl, rfl, rfl, rfl, balance_of_closedBooks (s := s) rfl rfl rfl, rfl⟩

end Sys2Proof.Machine

/-! PROOFS. The sacks (R158 to R160): the checks that the requests naming a sack share, and SACK_REOPEN. -/

namespace Sys2Proof.Machine

/-! ### The requests of the safe -/

theorem atSafe_unconfigured {s : State} (h : s.member.state = .unconfigured) (run : State → State) :
    atSafe run s = refuse .badState s :=
  if_pos h

theorem atSafe_elsewhere {s : State} (h : s.member.state ≠ .unconfigured) (hrole : s.unit.role ≠ some .safe)
    (run : State → State) : atSafe run s = refuse .roleNotAllowed s := by
  rw [atSafe, if_neg h, if_pos hrole]

theorem atSafe_configured {s : State} (h : s.member.state ≠ .unconfigured) (hrole : s.unit.role = some .safe)
    (run : State → State) : atSafe run s = run s := by
  rw [atSafe, if_neg h, if_neg (not_not.mpr hrole)]

/-! ### The checks of R158 through the class check -/

section OnSack

variable {s : State} {tag : Nat} {c : Container} (run : Container → SackFields → State → State)

theorem onSack_unknown (h : s.member.state ≠ .unconfigured) (hrole : s.unit.role = some .safe)
    (hc : s.container? tag = none) : onSack run tag s = refuse .notFound s := by
  simp [onSack, atSafe_configured h hrole, hc]

theorem onSack_otherClass (h : s.member.state ≠ .unconfigured) (hrole : s.unit.role = some .safe)
    (hc : s.container? tag = some c) (hcls : c.cls ≠ .courierSack) :
    onSack run tag s = refuse .classNotAllowed s := by
  simp [onSack, atSafe_configured h hrole, hc, hcls]

/-- Past the checks the request runs on the sack that it names. -/
theorem onSack_sack {k : SackFields} (h : s.member.state ≠ .unconfigured) (hrole : s.unit.role = some .safe)
    (hc : s.container? tag = some c) (hcls : c.cls = .courierSack) (hk : c.sack = some k) :
    onSack run tag s = run c k s := by
  simp [onSack, atSafe_configured h hrole, hc, hcls, hk]

end OnSack

/-! ### SACK_REOPEN (R159) -/

theorem exec_sackReopen {s : State} (h : Ready s) (tag : Nat) :
    exec (.sackReopen (.fields tag)) s = .next (onSack sackReopen tag (newSelect s)) :=
  request_fields h tag (onSack sackReopen)

theorem sackReopen_notClosed {k : SackFields} (h : k.state ≠ .closed) (c : Container) (s : State) :
    sackReopen c k s = refuse .badState s :=
  if_pos h

/-- An accepted SACK_REOPEN writes the sack fields of the named container alone (R159). -/
theorem sackReopen_closed {k : SackFields} (h : k.state = .closed) (c : Container) (s : State) :
    sackReopen c k s =
      answer .ok [] (setTable (s.tableWith c.tag (withSack { k with state := .assembling, check := none })) s) := by
  rw [sackReopen, if_neg (not_not.mpr h), updateContainer_eq]

/-- Settles O50: the checks of `onSack` one after another, then the sack state and the effect by `sackReopen_closed`. -/
theorem sackReopenRemovesTheCheck : Obligations.SackReopenRemovesTheCheck := by
  intro tag s hready
  rw [exec_sackReopen hready]
  refine ⟨fun hun => ?_, fun hconf hrole => ?_, fun hconf hrole => ⟨fun hnone => ?_, fun c hc =>
    ⟨fun hcls => ?_, fun k hcls hk => ?_⟩⟩⟩
  · rw [onSack, atSafe_unconfigured (s := newSelect s) hun, refuse_newSelect]
  · rw [onSack, atSafe_elsewhere (s := newSelect s) hconf hrole, refuse_newSelect]
  · rw [onSack_unknown (s := newSelect s) sackReopen hconf hrole hnone, refuse_newSelect]
  · rw [onSack_otherClass (s := newSelect s) sackReopen hconf hrole hc hcls, refuse_newSelect]
  rw [onSack_sack (s := newSelect s) sackReopen hconf hrole hc hcls hk]
  refine ⟨fun hopen => ?_, fun hclosed => ?_⟩
  · rw [sackReopen_notClosed hopen, refuse_newSelect]
  · rw [sackReopen_closed hclosed, tag_of_container? hc]
    rfl

end Sys2Proof.Machine

/-! PROOFS. What the state after reset satisfies (O56), and two laws that a step need not keep by themselves: that a declared
composition is worth its value (O57) and the form of the Peer Table (O58). -/

namespace Sys2Proof.Machine

/-! ### The state after reset -/

theorem booksInv_of_empty {s : State} (htable : s.custody.table = []) (hinbound : s.custody.inbound = [])
    (hreleases : s.custody.releases = []) (hdispatches : s.safe.dispatches = []) : BooksInv s := by
  constructor <;> simp [htable, hinbound, hreleases, hdispatches, State.reserved]

theorem partsInv_of_empty {s : State} (htable : s.custody.table = []) (hinbound : s.custody.inbound = []) :
    PartsInv s := by
  constructor <;> simp [htable, hinbound]

theorem sackInv_of_empty {s : State} (htable : s.custody.table = []) : SackInv s := by
  constructor <;> simp [htable]

theorem worthInv_of_empty {s : State} (htable : s.custody.table = []) : WorthInv s := by
  constructor <;> simp [htable]

/-- A place of a table of fresh entries is UNKNOWN, and so is a number that names none. -/
theorem peer_of_unknownPeers {s : State} (h : s.member.peers = unknownPeers) (n : Nat) : s.peer n = unknownPeer := by
  unfold State.peer
  rw [h]
  split
  · rfl
  · by_cases hn : n - 1 < 56 <;> simp [unknownPeers, hn]

theorem memberInv_reset : MemberInv State.reset := by
  have hpeer (n : Nat) : State.reset.peer n = unknownPeer := peer_of_unknownPeers rfl n
  refine ⟨by decide, by decide, fun n hn => (nomatch hn), fun n => ?_⟩
  rw [hpeer]
  decide

theorem pieces_reset (d : Nat) : State.reset.pieces d = 0 := by
  by_cases hd : d < 12 <;> simp [State.pieces, State.reset, State.cold, hd]

theorem face_defaultSettings (d : Nat) : defaultSettings.face d = 0 := by
  by_cases hd : d < 12 <;> simp [Settings.face, Settings.denom, defaultSettings, unusedSlot, hd]

theorem balance_reset : State.reset.balance = 0 := by
  simp only [State.balance, State.accountable, State.positionValue, pieces_reset, Nat.zero_mul]
  decide

theorem moneyInv_reset : MoneyInv State.reset := by
  have htable : State.reset.custody.table = [] := rfl
  have hinbound : State.reset.custody.inbound = [] := rfl
  refine ⟨fun d => ?_, fun d => ?_, ?_, ?_, ?_, ?_, fun k => ?_⟩
  · simp [pieces_reset]
  · exact (face_defaultSettings d).trans_le (Nat.zero_le _)
  · simp [htable]
  · simp [htable]
  · simp [hinbound]
  · simp [hinbound]
  · cases k <;> decide

/-- Settles O56: the books are empty, every unit is at rest. -/
theorem resetIsSound : Obligations.ResetIsSound := by
  refine ⟨booksInv_of_empty rfl rfl rfl rfl, partsInv_of_empty rfl rfl, ?_, memberInv_reset, ?_, ?_, moneyInv_reset,
    sackInv_of_empty rfl, worthInv_of_empty rfl, fun _ => balance_reset, balance_reset⟩
  · constructor <;> simp [State.reset, State.cold, idleLoop, portFrames]
  · constructor <;> simp [State.reset, State.cold]
  · constructor <;> simp [State.reset, State.cold, idleCount, noBatch, CountState.sessionOpen]

/-! ### A sack with a declared composition -/

/-- An empty sack that declares the empty composition, which is worth its value 0: WorthInv has nothing against it. -/
def declaringSack : Container := { freshSack 1 1 with comp := some [] }

def looseBag : Container := freshContainer 2 .depositBag 1 5 none

/-- A safe with that sack and a bag beside it; the NEST of the bag waits. -/
def nestingSafe : State :=
  { State.reset with
    unit := { State.reset.unit with role := some .safe },
    cfg := { defaultSettings with uncounted := true },
    member := { State.reset.member with state := .stopped },
    custody := { emptyCustody with table := [declaringSack, looseBag] },
    pending := [.nest (.fields { sack := 1, member := 2 })] }

/-- The sack gains the member's value and keeps the composition that it declares. -/
def nestedSafe : State := nest { sack := 1, member := 2 } (newSelect { nestingSafe with pending := [] })

theorem step_nestingSafe : step nestingSafe = .next nestedSafe := rfl

theorem booksInv_nestingSafe : BooksInv nestingSafe := by
  refine ⟨by decide, by decide, nofun, ?_, by decide, by decide, by decide, by decide⟩
  intro c _ e he
  cases he

theorem worthInv_nestingSafe : WorthInv nestingSafe := by
  constructor <;> simp [nestingSafe, declaringSack, looseBag, freshSack, freshContainer, compProper, Settings.valueOf]

/-- Refutes O57: WorthInv is not kept by itself. R2 gives a sack no composition, which no law of the four says, and NEST
raises the sack's value beside the composition that it declares. -/
theorem not_stepKeepsTheBooks : ¬ Obligations.StepKeepsTheBooks := by
  intro h
  obtain ⟨-, -, -, hworth⟩ := h nestingSafe nestedSafe step_nestingSafe booksInv_nestingSafe
  have hsack : { declaringSack with
      value := 5, sack := some { emptySack with first := some 2, count := 1 } } ∈ nestedSafe.custody.table := by decide
  obtain ⟨-, hvalue⟩ := (hworth worthInv_nestingSafe).declared _ hsack [] rfl
  exact absurd hvalue (by decide)

/-! ### An ANNOUNCE on the line of an unconfigured station -/

/-- An unconfigured station with an ANNOUNCE on the line, which MemberInv does not exclude, about to lose its serial. -/
def strayAnnounce : State :=
  { State.reset with
    loop := { idleLoop with sending := some { sender := 1, target := 0, payload := .announce State.reset.announce } },
    pending := [.announceLostSerial 0] }

theorem step_strayAnnounce :
    step strayAnnounce = .next (enterDuplicate .lostSerial (some 0) { strayAnnounce with pending := [] }) := rfl

theorem memberInv_strayAnnounce : MemberInv strayAnnounce := by
  obtain ⟨hconf, hrole, hown, hsilence⟩ := memberInv_reset
  exact ⟨hconf, hrole, hown, hsilence⟩

/-- Refutes O58: MemberInv is not kept by itself. The station becomes DUPLICATE with an incomplete configuration; that an
ANNOUNCE is on the line in ANNOUNCING alone is a law of the loop interface, which the clause does not assume. -/
theorem not_stepKeepsLoopAndPeers : ¬ Obligations.StepKeepsLoopAndPeers := by
  intro h
  have hconf := ((h _ _ step_strayAnnounce).2 memberInv_strayAnnounce).configured
  exact absurd (hconf.mpr (by decide)) (by decide)

end Sys2Proof.Machine

/-! PROOFS. What every operation and every command leaves unchanged, part by part of the state: the frame of each shared
operation, said once, and the table of what a command can touch (O3). -/

namespace Sys2Proof.Machine

/-! ### Parts of the state -/

/-- The parts of the state that are written apart from each other: `line` is the loop interface without the queue, `station`
the membership unit without the Peer Table, `totals` goes with the saturation mark. -/
inductive Part where
  | unit | clock | cfg | table | inbound | releases | totals | day | queue | line | station | peers | counter | count | counts
  | float | requests | list | safe | attn | door | lamps | port | pending
  deriving DecidableEq

/-- The part is in the second state as it is in the first. -/
def Part.Same (s t : State) : Part → Prop
  | .unit => t.unit = s.unit
  | .clock => t.clock = s.clock
  | .cfg => t.cfg = s.cfg
  | .table => t.custody.table = s.custody.table
  | .inbound => t.custody.inbound = s.custody.inbound
  | .releases => t.custody.releases = s.custody.releases
  | .totals => (t.custody.totals, t.custody.saturated) = (s.custody.totals, s.custody.saturated)
  | .day => t.custody.day = s.custody.day
  | .queue => t.loop.queue = s.loop.queue
  | .line => { t.loop with queue := [] } = { s.loop with queue := [] }
  | .station => { t.member with peers := unknownPeers } = { s.member with peers := unknownPeers }
  | .peers => t.member.peers = s.member.peers
  | .counter => t.handoverCounter = s.handoverCounter
  | .count => t.count = s.count
  | .counts => t.position.counts = s.position.counts
  | .float => t.position.float = s.position.float
  | .requests => (t.service.requests, t.service.nextId) = (s.service.requests, s.service.nextId)
  | .list => t.service.list = s.service.list
  | .safe => t.safe = s.safe
  | .attn => t.attn = s.attn
  | .door => t.door = s.door
  | .lamps => t.lamps = s.lamps
  | .port => t.port = s.port
  | .pending => t.pending = s.pending

theorem Part.Same.refl (s : State) (p : Part) : p.Same s s := by
  cases p <;> rfl

theorem Part.Same.symm {s t : State} {p : Part} (h : p.Same s t) : p.Same t s := by
  cases p <;> exact Eq.symm h

theorem Part.Same.trans {s t u : State} {p : Part} (h : p.Same s t) (h' : p.Same t u) : p.Same s u := by
  cases p <;> exact Eq.trans h' h

/-- From `s` to `t` nothing but the listed parts has changed. -/
def Within (ps : List Part) (s t : State) : Prop := ∀ p, p ∉ ps → p.Same s t

@[simp] theorem Within.refl (ps : List Part) (s : State) : Within ps s s := fun p _ => .refl s p

theorem Within.trans {ps : List Part} {s t u : State} (h : Within ps s t) (h' : Within ps t u) : Within ps s u :=
  fun p hp => (h p hp).trans (h' p hp)

theorem Within.mono {ps qs : List Part} {s t : State} (h : Within qs s t) (hq : qs ⊆ ps) : Within ps s t :=
  fun p hp => h p (fun k => hp (hq k))

/-- What touches listed parts only does not matter to whether others have changed. -/
theorem Within.iff_of {ps qs : List Part} {s t u : State} (h : Within qs t u) (hq : qs ⊆ ps) :
    Within ps s u ↔ Within ps s t :=
  ⟨fun k p hp => (k p hp).trans (h.mono hq p hp).symm, fun k => k.trans (h.mono hq)⟩

/-! ### A state put together from two -/

/-- `t` in the listed parts and `s` in the others. -/
def overlay (ps : List Part) (s t : State) : State :=
  { unit := if .unit ∈ ps then t.unit else s.unit,
    clock := if .clock ∈ ps then t.clock else s.clock,
    cfg := if .cfg ∈ ps then t.cfg else s.cfg,
    custody := { table := if .table ∈ ps then t.custody.table else s.custody.table,
                 inbound := if .inbound ∈ ps then t.custody.inbound else s.custody.inbound,
                 releases := if .releases ∈ ps then t.custody.releases else s.custody.releases,
                 totals := if .totals ∈ ps then t.custody.totals else s.custody.totals,
                 saturated := if .totals ∈ ps then t.custody.saturated else s.custody.saturated,
                 day := if .day ∈ ps then t.custody.day else s.custody.day },
    loop := { (if .line ∈ ps then t.loop else s.loop) with
              queue := if .queue ∈ ps then t.loop.queue else s.loop.queue },
    member := { (if .station ∈ ps then t.member else s.member) with
                peers := if .peers ∈ ps then t.member.peers else s.member.peers },
    handoverCounter := if .counter ∈ ps then t.handoverCounter else s.handoverCounter,
    count := if .count ∈ ps then t.count else s.count,
    position := { counts := if .counts ∈ ps then t.position.counts else s.position.counts,
                  float := if .float ∈ ps then t.position.float else s.position.float },
    service := { requests := if .requests ∈ ps then t.service.requests else s.service.requests,
                 nextId := if .requests ∈ ps then t.service.nextId else s.service.nextId,
                 list := if .list ∈ ps then t.service.list else s.service.list },
    safe := if .safe ∈ ps then t.safe else s.safe,
    attn := if .attn ∈ ps then t.attn else s.attn,
    door := if .door ∈ ps then t.door else s.door,
    lamps := if .lamps ∈ ps then t.lamps else s.lamps,
    port := if .port ∈ ps then t.port else s.port,
    pending := if .pending ∈ ps then t.pending else s.pending }

/-- A value that is kept outside the listed parts is the one put together. -/
theorem picked {α : Type} {ps : List Part} {p : Part} {a b : α} (h : p ∉ ps → b = a) : b = if p ∈ ps then b else a := by
  split
  · rfl
  · next hp => exact h hp

/-- The frame of an operation as an equation: nothing but the listed parts has changed. -/
theorem Within.overlay {ps : List Part} {s t : State} (h : Within ps s t) : t = overlay ps s t := by
  have htotals : t.custody.totals = if .totals ∈ ps then t.custody.totals else s.custody.totals :=
    picked fun hp => congrArg Prod.fst (h .totals hp)
  have hsaturated : t.custody.saturated = if .totals ∈ ps then t.custody.saturated else s.custody.saturated :=
    picked fun hp => congrArg Prod.snd (h .totals hp)
  have hrequests : t.service.requests = if .requests ∈ ps then t.service.requests else s.service.requests :=
    picked fun hp => congrArg Prod.fst (h .requests hp)
  have hnext : t.service.nextId = if .requests ∈ ps then t.service.nextId else s.service.nextId :=
    picked fun hp => congrArg Prod.snd (h .requests hp)
  have hloop : t.loop = { (if .line ∈ ps then t.loop else s.loop) with
      queue := if .queue ∈ ps then t.loop.queue else s.loop.queue } := by
    rw [← picked (h .queue)]
    split
    · rfl
    · next hp => exact congrArg (fun l => { l with queue := t.loop.queue }) (h .line hp)
  have hmember : t.member = { (if .station ∈ ps then t.member else s.member) with
      peers := if .peers ∈ ps then t.member.peers else s.member.peers } := by
    rw [← picked (h .peers)]
    split
    · rfl
    · next hp => exact congrArg (fun m => { m with peers := t.member.peers }) (h .station hp)
  unfold Machine.overlay
  rw [← htotals, ← hsaturated, ← hrequests, ← hnext, ← hloop, ← hmember, ← picked (h .unit), ← picked (h .clock),
    ← picked (h .cfg), ← picked (h .table), ← picked (h .inbound), ← picked (h .releases), ← picked (h .day),
    ← picked (h .counter), ← picked (h .count), ← picked (h .counts), ← picked (h .float), ← picked (h .list),
    ← picked (h .safe), ← picked (h .attn), ← picked (h .door), ← picked (h .lamps), ← picked (h .port),
    ← picked (h .pending)]

/-- An operation whose effect is written out keeps what is outside the listed parts. -/
theorem Within.of_overlay {ps : List Part} {s t : State} (h : t = Machine.overlay ps s t) : Within ps s t := by
  intro p hp
  rw [h]
  cases p <;> simp [Part.Same, Machine.overlay, hp]

/-! ### Plain updates -/

section Plain

variable {ps : List Part} {s t : State}

@[simp] theorem within_answer (h : [.port] ⊆ ps) (st : Status) (b : List Byte) : Within ps s (answer st b t) ↔ Within ps s t :=
  Within.iff_of (.of_overlay rfl) h

@[simp] theorem within_newSelect (h : [.port, .attn] ⊆ ps) : Within ps s (newSelect t) ↔ Within ps s t :=
  Within.iff_of (.of_overlay rfl) h

@[simp] theorem within_raise (h : [.attn] ⊆ ps) (r : Reason) : Within ps s (raise r t) ↔ Within ps s t :=
  Within.iff_of (.of_overlay rfl) h

@[simp] theorem within_raiseResult (h : [.attn] ⊆ ps) (tag : Nat) (side : Side) (o : NoteOutcome) : Within ps s (raiseResult tag side o t) ↔ Within ps s t :=
  Within.iff_of (.of_overlay rfl) h

@[simp] theorem within_setStation (h : [.station] ⊆ ps) (st : StationState) : Within ps s (setStation st t) ↔ Within ps s t :=
  Within.iff_of (.of_overlay rfl) h

@[simp] theorem within_setTable (h : [.table] ⊆ ps) (l : List Container) : Within ps s (setTable l t) ↔ Within ps s t :=
  Within.iff_of (.of_overlay rfl) h

@[simp] theorem within_setInbound (h : [.inbound] ⊆ ps) (l : List InboundEntry) : Within ps s (setInbound l t) ↔ Within ps s t :=
  Within.iff_of (.of_overlay rfl) h

@[simp] theorem within_setCounts (h : [.counts] ⊆ ps) (v : Vector Nat 12) : Within ps s (setCounts v t) ↔ Within ps s t :=
  Within.iff_of (.of_overlay rfl) h

@[simp] theorem within_setFloatState (h : [.float] ⊆ ps) (f : FloatState) : Within ps s (setFloatState f t) ↔ Within ps s t :=
  Within.iff_of (.of_overlay rfl) h

@[simp] theorem within_setQueue (h : [.queue] ⊆ ps) (q : List QueuedFrame) : Within ps s (setQueue q t) ↔ Within ps s t :=
  Within.iff_of (.of_overlay rfl) h

@[simp] theorem within_setRequests (h : [.requests] ⊆ ps) (l : List OwnRequest) : Within ps s (setRequests l t) ↔ Within ps s t :=
  Within.iff_of (.of_overlay rfl) h

@[simp] theorem within_addRequest (h : [.requests] ⊆ ps) (r : OwnRequest) : Within ps s (addRequest r t) ↔ Within ps s t :=
  Within.iff_of (.of_overlay rfl) h

@[simp] theorem within_setServiceList (h : [.list] ⊆ ps) (l : List ServiceEntry) : Within ps s (setServiceList l t) ↔ Within ps s t :=
  Within.iff_of (.of_overlay rfl) h

@[simp] theorem within_quietLoop (h : [.line] ⊆ ps) : Within ps s (quietLoop t) ↔ Within ps s t :=
  Within.iff_of (.of_overlay rfl) h

@[simp] theorem within_releaseSlot (h : [.line] ⊆ ps) : Within ps s (releaseSlot t) ↔ Within ps s t :=
  Within.iff_of (.of_overlay rfl) h

@[simp] theorem within_driveSlot (h : [.line] ⊆ ps) : Within ps s (driveSlot t) ↔ Within ps s t :=
  Within.iff_of (.of_overlay rfl) h

@[simp] theorem within_setScore (h : [.line] ⊆ ps) (n : Nat) : Within ps s (setScore n t) ↔ Within ps s t :=
  Within.iff_of (.of_overlay rfl) h

@[simp] theorem within_setCount (h : [.count] ⊆ ps) (c : CountEngine) : Within ps s (setCount c t) ↔ Within ps s t :=
  Within.iff_of (.of_overlay rfl) h

@[simp] theorem within_setCfg (h : [.cfg] ⊆ ps) (c : Settings) : Within ps s (setCfg c t) ↔ Within ps s t :=
  Within.iff_of (.of_overlay rfl) h

@[simp] theorem within_setWindow (h : [.safe] ⊆ ps) (w : Option CourierWindow) : Within ps s (setWindow w t) ↔ Within ps s t :=
  Within.iff_of (.of_overlay rfl) h

@[simp] theorem within_sendFrame (h : [.line] ⊆ ps) (target : Nat) (p : Payload) : Within ps s (sendFrame target p t) ↔ Within ps s t :=
  Within.iff_of (.of_overlay rfl) h

@[simp] theorem within_oweStart (h : [.port] ⊆ ps) (k : StartKind) : Within ps s (oweStart k t) ↔ Within ps s t :=
  Within.iff_of (.of_overlay rfl) h

@[simp] theorem within_showLamps (h : [.lamps] ⊆ ps) : Within ps s (showLamps t) ↔ Within ps s t :=
  Within.iff_of (.of_overlay rfl) h

@[simp] theorem within_refuse (h : [.port] ⊆ ps) (st : Status) : Within ps s (refuse st t) ↔ Within ps s t :=
  within_answer h st []

@[simp] theorem within_raiseIf (h : [.attn] ⊆ ps) (c : Bool) (r : Reason) :
    Within ps s (raiseIf c r t) ↔ Within ps s t := by
  unfold raiseIf
  split <;> simp_all

@[simp] theorem within_setPeer (h : [.peers] ⊆ ps) (n : Nat) (e : PeerEntry) :
    Within ps s (setPeer n e t) ↔ Within ps s t := by
  refine Within.iff_of ?_ h
  unfold setPeer
  split
  · simp
  · exact .of_overlay rfl

end Plain

/-- A run of operations that each touch the listed parts only touches no others. -/
theorem within_foldl {α : Type} {ps : List Part} {f : State → α → State} (h : ∀ s a, Within ps s (f s a)) (l : List α)
    (s : State) : Within ps s (l.foldl f s) := by
  induction l generalizing s with
  | nil => exact .refl _ _
  | cons a l ih => exact (h s a).trans (ih _)

/-! ### Records, frames, alarms, totals -/

section Shared

variable {ps : List Part} {s t : State}

@[simp] theorem within_updateContainer (h : [.table] ⊆ ps) (tag : Nat) (f : Container → Container) :
    Within ps s (updateContainer tag f t) ↔ Within ps s t := within_setTable h _

@[simp] theorem within_removeContainer (h : [.table] ⊆ ps) (tag : Nat) :
    Within ps s (removeContainer tag t) ↔ Within ps s t := within_setTable h _

@[simp] theorem within_appendContainer (h : [.table] ⊆ ps) (c : Container) :
    Within ps s (appendContainer c t) ↔ Within ps s t := within_setTable h _

@[simp] theorem within_updateInbound (h : [.inbound] ⊆ ps) (tag : Nat) (f : InboundEntry → InboundEntry) :
    Within ps s (updateInbound tag f t) ↔ Within ps s t := within_setInbound h _

@[simp] theorem within_removeInbound (h : [.inbound] ⊆ ps) (tag : Nat) :
    Within ps s (removeInbound tag t) ↔ Within ps s t := within_setInbound h _

@[simp] theorem within_appendInbound (h : [.inbound] ⊆ ps) (e : InboundEntry) :
    Within ps s (appendInbound e t) ↔ Within ps s t := within_setInbound h _

@[simp] theorem within_enqueue (h : [.queue] ⊆ ps) (port : Bool) (target : Nat) (p : Payload) :
    Within ps s (enqueue port target p t) ↔ Within ps s t := within_setQueue h _

@[simp] theorem within_chipFrame (h : [.queue, .attn] ⊆ ps) (target : Nat) (p : Payload) :
    Within ps s (chipFrame target p t) ↔ Within ps s t := by
  refine Within.iff_of ?_ h
  obtain ⟨_, hk⟩ | ⟨_, _, hk⟩ | ⟨_, _, hk⟩ := chipFrame_cases target p t <;> simp [hk]

@[simp] theorem within_alarmFrame (h : [.queue, .attn] ⊆ ps) (k : AlarmKind) (a : AlarmAction) (tag : Nat) :
    Within ps s (alarmFrame k a tag t) ↔ Within ps s t := by
  refine Within.iff_of ?_ h
  obtain ⟨_, hk⟩ | ⟨_, hk⟩ := alarmFrame_cases k a tag t <;> simp [hk]

@[simp] theorem within_raiseAlarm (h : [.queue, .attn] ⊆ ps) (k : AlarmKind) :
    Within ps s (raiseAlarm k t) ↔ Within ps s t := by
  refine Within.iff_of ?_ h
  have hset : Within [.queue, .attn] t { t with attn := t.attn.withAlarm k true } := .of_overlay rfl
  unfold raiseAlarm
  split
  · exact .refl _ t
  · exact hset.trans (by simp)

@[simp] theorem within_becomeOverdue (h : [.table, .queue, .attn] ⊆ ps) (c : Container) :
    Within ps s (becomeOverdue c t) ↔ Within ps s t :=
  Within.iff_of (by unfold becomeOverdue; dsimp only; split <;> simp) h

@[simp] theorem within_overdueCleared (h : [.queue, .attn] ⊆ ps) (c : Container) :
    Within ps s (overdueCleared c t) ↔ Within ps s t :=
  Within.iff_of (by unfold overdueCleared; split <;> simp) h

@[simp] theorem within_becomeUnresolved (h : [.inbound, .queue, .attn] ⊆ ps) (e : InboundEntry) :
    Within ps s (becomeUnresolved e t) ↔ Within ps s t :=
  Within.iff_of (by unfold becomeUnresolved; split <;> simp) h

@[simp] theorem within_unresolvedCleared (h : [.queue, .attn] ⊆ ps) (e : InboundEntry) :
    Within ps s (unresolvedCleared e t) ↔ Within ps s t :=
  Within.iff_of (by unfold unresolvedCleared; split <;> simp) h

@[simp] theorem within_changeTotal (h : [.totals, .queue, .attn] ⊆ ps) (k : TotalName) (d : Int) :
    Within ps s (changeTotal k d t) ↔ Within ps s t := by
  refine Within.iff_of ?_ h
  have hbooks : Within [.totals, .queue, .attn] t { t with custody := { t.custody with
      totals := t.custody.totals.put k (boundTotal (t.custody.totals.get k + d)),
      saturated := t.custody.saturated || saturates (t.custody.totals.get k + d) } } := .of_overlay rfl
  unfold changeTotal
  dsimp only
  split
  · exact hbooks.trans (by simp)
  · exact hbooks

end Shared

/-! ### The service unit and the position -/

section Service

variable {ps : List Part} {s t : State}

@[simp] theorem within_updateRequest (h : [.requests] ⊆ ps) (id : Nat) (f : OwnRequest → OwnRequest) :
    Within ps s (updateRequest id f t) ↔ Within ps s t := within_setRequests h _

@[simp] theorem within_removeRequest (h : [.requests] ⊆ ps) (id : Nat) :
    Within ps s (removeRequest id t) ↔ Within ps s t := within_setRequests h _

@[simp] theorem within_sendNeed (h : [.queue, .attn] ⊆ ps) (r : OwnRequest) :
    Within ps s (sendNeed r t) ↔ Within ps s t :=
  Within.iff_of (by unfold sendNeed; (repeat' split) <;> simp) h

@[simp] theorem within_dropNeed (h : [.queue] ⊆ ps) (id : Nat) : Within ps s (dropNeed id t) ↔ Within ps s t :=
  within_setQueue h _

@[simp] theorem within_sendWithdraw (h : [.queue, .attn] ⊆ ps) (r : OwnRequest) (w : WithdrawReason) :
    Within ps s (sendWithdraw r w t) ↔ Within ps s t :=
  Within.iff_of (by unfold sendWithdraw; split <;> simp) h

@[simp] theorem within_handRaise (h : [.requests, .queue, .attn] ⊆ ps) (k : NeedKind) (u : Urgency) (c : Composition)
    (v : Nat) : Within ps s (handRaise k u c v t) ↔ Within ps s t :=
  Within.iff_of (by unfold handRaise; split <;> simp) h

@[simp] theorem within_toldOffer (h : [.requests] ⊆ ps) (gives : Bool) (peer purpose tag : Nat) :
    Within ps s (toldOffer gives peer purpose tag t) ↔ Within ps s t := within_setRequests h _

@[simp] theorem within_toldSetback (h : [.requests] ⊆ ps) (gives : Bool) (tag : Nat) :
    Within ps s (toldSetback gives tag t) ↔ Within ps s t := within_setRequests h _

@[simp] theorem within_closeRequest (h : [.requests, .queue, .attn] ⊆ ps) (r : OwnRequest) :
    Within ps s (closeRequest t r) ↔ Within ps s t :=
  Within.iff_of (by unfold closeRequest; simp) h

@[simp] theorem within_closeServed (h : [.requests, .queue, .attn] ⊆ ps) (gives : Bool) (tag peer : Nat) :
    Within ps s (closeServed gives tag peer t) ↔ Within ps s t :=
  Within.iff_of (within_foldl (fun _ _ => by simp) _ _) h

@[simp] theorem within_removeServed (h : [.list] ⊆ ps) (ok : NeedKind → Bool) (requester purpose : Nat) :
    Within ps s (removeServed ok requester purpose t) ↔ Within ps s t := within_setServiceList h _

@[simp] theorem within_toldRelease (h : [.requests, .list, .queue, .attn] ⊆ ps) (tag peer purpose : Nat) :
    Within ps s (toldRelease tag peer purpose t) ↔ Within ps s t :=
  Within.iff_of (by unfold toldRelease; simp) h

@[simp] theorem within_toldEntry (h : [.requests, .list, .queue, .attn] ⊆ ps) (e : InboundEntry) :
    Within ps s (toldEntry e t) ↔ Within ps s t :=
  Within.iff_of (by unfold toldEntry; simp) h

@[simp] theorem within_lapseRequest (h : [.requests, .queue, .attn] ⊆ ps) (r : OwnRequest) :
    Within ps s (lapseRequest t r) ↔ Within ps s t :=
  Within.iff_of (by unfold lapseRequest; simp) h

@[simp] theorem within_announceListed (h : [.attn] ⊆ ps) (e : ServiceEntry) :
    Within ps s (announceListed e t) ↔ Within ps s t := within_raiseIf h _ _

@[simp] theorem within_updateService (h : [.list] ⊆ ps) (requester id : Nat) (f : ServiceEntry → ServiceEntry) :
    Within ps s (updateService requester id f t) ↔ Within ps s t := within_setServiceList h _

@[simp] theorem within_removeService (h : [.list] ⊆ ps) (requester id : Nat) :
    Within ps s (removeService requester id t) ↔ Within ps s t := within_setServiceList h _

@[simp] theorem within_requesterDeparts (h : [.list, .attn] ⊆ ps) (n : Nat) :
    Within ps s (requesterDeparts n t) ↔ Within ps s t :=
  Within.iff_of (by unfold requesterDeparts; simp) h

@[simp] theorem within_claimantDeparts (h : [.requests, .queue, .attn] ⊆ ps) (n : Nat) :
    Within ps s (claimantDeparts n t) ↔ Within ps s t :=
  Within.iff_of (within_foldl (fun _ _ => by simp) _ _) h

@[simp] theorem within_serverArrives (h : [.queue, .attn] ⊆ ps) (role : Option Role) :
    Within ps s (serverArrives role t) ↔ Within ps s t := by
  refine Within.iff_of ?_ h
  unfold serverArrives
  split
  · exact within_foldl (fun _ _ => by simp) _ _
  · simp

@[simp] theorem within_resendNeeds (h : [.queue, .attn] ⊆ ps) : Within ps s (resendNeeds t) ↔ Within ps s t :=
  Within.iff_of (within_foldl (fun _ _ => by simp) _ _) h

@[simp] theorem within_addPieces (h : [.counts] ⊆ ps) (good : List Nat) :
    Within ps s (addPieces good t) ↔ Within ps s t := within_setCounts h _

@[simp] theorem within_takePieces (h : [.counts] ⊆ ps) (good : List Nat) :
    Within ps s (takePieces good t) ↔ Within ps s t := within_setCounts h _

@[simp] theorem within_takeComp (h : [.counts] ⊆ ps) (c : Composition) :
    Within ps s (takeComp c t) ↔ Within ps s t := within_setCounts h _

@[simp] theorem within_addComp (h : [.counts] ⊆ ps) (c : Composition) :
    Within ps s (addComp c t) ↔ Within ps s t := within_setCounts h _

@[simp] theorem within_limitAlarm (h : [.queue, .attn] ⊆ ps) (c : List (Nat × Nat)) :
    Within ps s (limitAlarm c t) ↔ Within ps s t :=
  Within.iff_of (by unfold limitAlarm; split <;> simp) h

@[simp] theorem within_autoRaise (h : [.requests, .queue, .attn] ⊆ ps) (holds on : Bool) (k : NeedKind) (u : Urgency)
    (c : Composition) (v : Nat) : Within ps s (autoRaise holds on k u c v t) ↔ Within ps s t :=
  Within.iff_of (by unfold autoRaise; split <;> simp) h

@[simp] theorem within_autoRaises (h : [.requests, .queue, .attn] ⊆ ps) :
    Within ps s (autoRaises t) ↔ Within ps s t :=
  Within.iff_of (by unfold autoRaises; dsimp only; split <;> simp) h

@[simp] theorem within_evaluate (h : [.float, .requests, .queue, .attn] ⊆ ps) :
    Within ps s (evaluate t) ↔ Within ps s t :=
  Within.iff_of (by unfold evaluate; simp) h

end Service

/-! ### Handovers -/

section Handovers

variable {ps : List Part} {s t : State}

@[simp] theorem within_recordOffer (h : [.table, .requests, .counter] ⊆ ps) (c : Container) (receiver purpose : Nat) :
    Within ps s (recordOffer c receiver purpose t) ↔ Within ps s t :=
  Within.iff_of (.of_overlay rfl) h

@[simp] theorem within_offerReported (h : [.table, .requests, .queue, .attn] ⊆ ps) (tag number : Nat) (ack : Bool) :
    Within ps s (offerReported tag number ack t) ↔ Within ps s t :=
  Within.iff_of (by unfold offerReported; (repeat' split) <;> simp) h

@[simp] theorem within_makeOffer (h : [.table, .requests, .counter, .queue] ⊆ ps) (c : Container) (receiver purpose : Nat) :
    Within ps s (makeOffer c receiver purpose t) ↔ Within ps s t :=
  Within.iff_of (by unfold makeOffer; simp) h

@[simp] theorem within_makeChipOffer (h : [.table, .requests, .counter, .queue, .attn] ⊆ ps) (c : Container)
    (receiver purpose : Nat) : Within ps s (makeChipOffer c receiver purpose t) ↔ Within ps s t :=
  Within.iff_of (by unfold makeChipOffer; dsimp only; split <;> simp) h

@[simp] theorem within_dropDeferred (h : [.table, .attn] ⊆ ps) (tag : Nat) :
    Within ps s (dropDeferred tag t) ↔ Within ps s t :=
  Within.iff_of (by unfold dropDeferred; simp) h

@[simp] theorem within_settleDeferred (h : [.table, .requests, .counter, .queue, .attn] ⊆ ps) (tag : Nat) (ok : Bool) :
    Within ps s (settleDeferred tag ok t) ↔ Within ps s t :=
  Within.iff_of (by unfold settleDeferred; (repeat' split) <;> simp) h

@[simp] theorem within_queryUnanswered (h : [.inbound, .queue, .attn] ⊆ ps) (e : InboundEntry) :
    Within ps s (queryUnanswered e t) ↔ Within ps s t :=
  Within.iff_of (by unfold queryUnanswered; dsimp only; split <;> simp) h

@[simp] theorem within_queryReported (h : [.inbound, .queue, .attn] ⊆ ps) (tag number : Nat) (ack : Bool) :
    Within ps s (queryReported tag number ack t) ↔ Within ps s t :=
  Within.iff_of (by unfold queryReported; (repeat' split) <;> simp) h

@[simp] theorem within_completeEntry (h : [.table, .inbound, .totals, .requests, .list, .queue, .attn] ⊆ ps)
    (e : InboundEntry) : Within ps s (completeEntry e t) ↔ Within ps s t :=
  Within.iff_of (by unfold completeEntry; simp) h

@[simp] theorem within_takenReported (h : [.table, .inbound, .totals, .requests, .list, .queue, .attn] ⊆ ps) (tag : Nat)
    (ack : Bool) : Within ps s (takenReported tag ack t) ↔ Within ps s t :=
  Within.iff_of (by unfold takenReported; dsimp only; (repeat' split) <;> simp) h

@[simp] theorem within_releaseContainer (h : [.table, .releases, .totals, .requests, .list, .queue, .attn] ⊆ ps)
    (c : Container) (f : HandoverFields) : Within ps s (releaseContainer c f t) ↔ Within ps s t := by
  refine Within.iff_of ?_ h
  have history (u : State) (l : List ReleaseEntry) :
      Within [.releases] u { u with custody := { u.custody with releases := l } } := by
    exact .of_overlay rfl
  unfold releaseContainer
  simp only [List.cons_subset, List.mem_cons, true_or, or_true, List.nil_subset, and_self, within_raiseResult,
    within_toldRelease, within_overdueCleared]
  rw [Within.iff_of (history _ _) (by simp)]
  simp

@[simp] theorem within_returnToHeld (h : [.table, .requests, .queue, .attn] ⊆ ps) (c : Container) (r : LastResult)
    (o : NoteOutcome) : Within ps s (returnToHeld c r o t) ↔ Within ps s t :=
  Within.iff_of (by unfold returnToHeld; simp) h

@[simp] theorem within_claimReported (h : [.list, .attn] ⊆ ps) (requester id : Nat) (ack : Bool) :
    Within ps s (claimReported requester id ack t) ↔ Within ps s t :=
  Within.iff_of (by unfold claimReported; (repeat' split) <;> simp) h

@[simp] theorem within_report (h : [.table, .inbound, .totals, .requests, .list, .queue, .attn] ⊆ ps) (f : QueuedFrame)
    (ack : Bool) : Within ps s (report f ack t) ↔ Within ps s t :=
  Within.iff_of (by unfold report; split <;> simp) h

@[simp] theorem within_emptyQueue (h : [.table, .inbound, .totals, .requests, .list, .queue, .attn] ⊆ ps) :
    Within ps s (emptyQueue t) ↔ Within ps s t := by
  refine Within.iff_of ?_ h
  unfold emptyQueue
  exact Within.trans (by simp) (within_foldl (fun _ _ => by simp) _ _)

end Handovers

/-! ### Changes of the station state -/

/-- What a change of the station state with reports can touch. -/
abbrev leavingParts : List Part := [.table, .inbound, .totals, .requests, .list, .queue, .attn, .line, .station]

section Membership

variable {ps : List Part} {s t : State}

@[simp] theorem within_enterDuplicate (h : leavingParts ⊆ ps) (cause : DuplicateCause) (serial : Option (BitVec 32)) :
    Within ps s (enterDuplicate cause serial t) ↔ Within ps s t := by
  refine Within.iff_of ?_ h
  unfold enterDuplicate
  simp only [List.cons_subset, List.mem_cons, true_or, or_true, List.nil_subset, and_self, within_emptyQueue,
    within_raiseAlarm, within_releaseSlot, within_quietLoop]
  exact .of_overlay rfl

@[simp] theorem within_enterStopped (h : leavingParts ⊆ ps) : Within ps s (enterStopped t) ↔ Within ps s t := by
  refine Within.iff_of ?_ h
  unfold enterStopped
  simp only [List.cons_subset, List.mem_cons, true_or, or_true, List.nil_subset, and_self, within_emptyQueue,
    within_setServiceList, within_releaseSlot, within_quietLoop]
  exact .of_overlay rfl

@[simp] theorem within_enterWithdrawn (h : [.line, .station, .attn] ⊆ ps) :
    Within ps s (enterWithdrawn t) ↔ Within ps s t :=
  Within.iff_of (.of_overlay rfl) h

@[simp] theorem within_enterAnnouncing (h : [.line, .station] ⊆ ps) : Within ps s (enterAnnouncing t) ↔ Within ps s t :=
  Within.iff_of (.of_overlay rfl) h

@[simp] theorem within_rejoinLoop (h : [.line, .station] ⊆ ps) : Within ps s (rejoinLoop t) ↔ Within ps s t :=
  Within.iff_of (.of_overlay rfl) h

@[simp] theorem within_resendAlarms (h : [.queue, .attn] ⊆ ps) : Within ps s (resendAlarms t) ↔ Within ps s t :=
  Within.iff_of (within_foldl (fun _ _ => by simp) _ _) h

@[simp] theorem within_enterOnLoop (h : [.line, .station, .queue, .attn] ⊆ ps) :
    Within ps s (enterOnLoop t) ↔ Within ps s t := by
  refine Within.iff_of ?_ h
  unfold enterOnLoop
  simp only [List.cons_subset, List.mem_cons, true_or, or_true, List.nil_subset, and_self, within_resendAlarms,
    within_resendNeeds]
  exact .of_overlay rfl

@[simp] theorem within_lineTaken (h : [.line, .queue] ⊆ ps) : Within ps s (lineTaken t) ↔ Within ps s t :=
  Within.iff_of (.of_overlay rfl) h

@[simp] theorem within_trackPeer (h : [.peers, .queue, .attn] ⊆ ps) (f : Frame) :
    Within ps s (trackPeer f t) ↔ Within ps s t :=
  Within.iff_of (by unfold trackPeer; dsimp only; split <;> simp) h

@[simp] theorem within_ownNumberHeard (h : leavingParts ⊆ ps) (f : Frame) :
    Within ps s (ownNumberHeard f t) ↔ Within ps s t := by
  refine Within.iff_of ?_ h
  have hready (serial : BitVec 32) :
      Within leavingParts t { t with loop := { t.loop with conflictReady := some serial } } := .of_overlay rfl
  unfold ownNumberHeard
  (repeat' split) <;> simp [hready]

@[simp] theorem within_peerDeparts (h : [.peers, .requests, .list, .queue, .attn] ⊆ ps) (n : Nat) :
    Within ps s (peerDeparts n t) ↔ Within ps s t :=
  Within.iff_of (by unfold peerDeparts; simp) h

@[simp] theorem within_startStation (h : [.station, .peers, .float, .requests, .queue, .attn] ⊆ ps) :
    Within ps s (startStation t) ↔ Within ps s t := by
  refine Within.iff_of ?_ h
  unfold startStation
  simp only [List.cons_subset, List.mem_cons, true_or, or_true, List.nil_subset, and_self, within_evaluate]
  exact .of_overlay rfl

end Membership

/-! ### The frame on the line -/

section Line

variable {ps : List Part} {s t : State}

@[simp] theorem within_sendHead (h : [.line, .queue] ⊆ ps) (f : QueuedFrame) (rest : List QueuedFrame) :
    Within ps s (sendHead f rest t) ↔ Within ps s t :=
  Within.iff_of (by unfold sendHead; simp) h

@[simp] theorem within_frameSendStart (h : [.line, .queue] ⊆ ps) : Within ps s (frameSendStart t) ↔ Within ps s t :=
  Within.iff_of (by unfold frameSendStart sendOnLoop; (repeat' split) <;> simp) h

@[simp] theorem within_leaveLine (h : [.line, .queue] ⊆ ps) (p : Payload) :
    Within ps s (leaveLine p t) ↔ Within ps s t := by
  refine Within.iff_of ?_ h
  unfold leaveLine
  dsimp only
  split <;> exact .of_overlay rfl

@[simp] theorem within_reportLine (h : [.table, .inbound, .totals, .requests, .list, .queue, .attn] ⊆ ps)
    (q : Option QueuedFrame) (ack : Bool) : Within ps s (reportLine q ack t) ↔ Within ps s t :=
  Within.iff_of (by unfold reportLine; split <;> simp) h

@[simp] theorem within_startWait (h : [.station] ⊆ ps) (p : Payload) : Within ps s (startWait p t) ↔ Within ps s t := by
  refine Within.iff_of ?_ h
  unfold startWait
  split
  · exact .of_overlay rfl
  · simp

@[simp] theorem within_finishFrame (h : leavingParts ⊆ ps) (f : Frame) (ack : Bool) :
    Within ps s (finishFrame f ack t) ↔ Within ps s t :=
  Within.iff_of (by unfold finishFrame; simp) h

@[simp] theorem within_sentOf (h : leavingParts ⊆ ps) (kind : Payload → Bool) (ack : Bool) :
    Within ps s (sentOf kind ack t) ↔ Within ps s t :=
  Within.iff_of (by unfold sentOf; (repeat' split) <;> simp) h

@[simp] theorem within_afterFault (h : [.line, .station, .attn] ⊆ ps) (p : Payload) :
    Within ps s (afterFault p t) ↔ Within ps s t := by
  refine Within.iff_of ?_ h
  unfold afterFault
  repeat' split
  · simp
  · exact .of_overlay rfl
  · simp

@[simp] theorem within_readBackFault (h : leavingParts ⊆ ps) : Within ps s (readBackFault t) ↔ Within ps s t :=
  Within.iff_of (by unfold readBackFault faultFrame; split <;> simp) h

@[simp] theorem within_announceLost (h : leavingParts ⊆ ps) (winner : BitVec 32) :
    Within ps s (announceLost winner t) ↔ Within ps s t :=
  Within.iff_of (by unfold announceLost; (repeat' split) <;> simp) h

end Line

/-! ### Counting -/

/-- What the end of a batch or of a session can touch. -/
abbrev countParts : List Part := [.table, .totals, .counter, .count, .counts, .float, .requests, .queue, .attn]

section Counting

variable {ps : List Part} {s t : State}

@[simp] theorem within_strayRecord (h : [.count] ⊆ ps) : Within ps s (strayRecord t) ↔ Within ps s t :=
  within_setCount h _

@[simp] theorem within_beginBatch (h : [.count] ⊆ ps) : Within ps s (beginBatch t) ↔ Within ps s t :=
  Within.iff_of (by unfold beginBatch; split <;> simp) h

@[simp] theorem within_damageBatch (h : [.count] ⊆ ps) (r : DamageReason) :
    Within ps s (damageBatch r t) ↔ Within ps s t := within_setCount h _

@[simp] theorem within_recordDropped (h : [.count] ⊆ ps) (r : DropReason) :
    Within ps s (recordDropped r t) ↔ Within ps s t :=
  Within.iff_of (by unfold recordDropped; split <;> simp) h

@[simp] theorem within_recordCounted (h : [.count, .attn] ⊆ ps) (r : CountEntry) :
    Within ps s (recordCounted r t) ↔ Within ps s t :=
  Within.iff_of (by unfold recordCounted; dsimp only; split <;> simp) h

@[simp] theorem within_endAssembly (h : [.count] ⊆ ps) : Within ps s (endAssembly t) ↔ Within ps s t :=
  within_setCount h _

@[simp] theorem within_setDiscarding (h : [.count] ⊆ ps) (on : Bool) :
    Within ps s (setDiscarding on t) ↔ Within ps s t := within_setCount h _

@[simp] theorem within_dropAndDiscard (h : [.count] ⊆ ps) (r : DropReason) :
    Within ps s (dropAndDiscard r t) ↔ Within ps s t :=
  Within.iff_of (by unfold dropAndDiscard; simp) h

@[simp] theorem within_recordAbandoned (h : [.count] ⊆ ps) : Within ps s (recordAbandoned t) ↔ Within ps s t :=
  Within.iff_of (by unfold recordAbandoned; simp) h

@[simp] theorem within_abandonAssembly (h : [.count] ⊆ ps) : Within ps s (abandonAssembly t) ↔ Within ps s t :=
  Within.iff_of (by unfold abandonAssembly; split <;> simp) h

@[simp] theorem within_applyIntake (h : [.totals, .counts, .float, .requests, .queue, .attn] ⊆ ps) (p : TallyPart) :
    Within ps s (applyIntake p t) ↔ Within ps s t :=
  Within.iff_of (by unfold applyIntake; generalize excessSlots p.good t = c; dsimp only; split <;> simp) h

@[simp] theorem within_applyPayout (h : [.totals, .counts, .float, .requests, .queue, .attn] ⊆ ps) (p : TallyPart) :
    Within ps s (applyPayout p t) ↔ Within ps s t :=
  Within.iff_of (by unfold applyPayout; generalize shortSlots p.good t = c; dsimp only; split <;> simp) h

@[simp] theorem within_applyRecount (h : [.table, .attn] ⊆ ps) (tag : Nat) (p : TallyPart) (r : ReconciliationPart) :
    Within ps s (applyRecount tag p r t) ↔ Within ps s t :=
  Within.iff_of (by unfold applyRecount; simp) h

@[simp] theorem within_applyUnpack (h : [.table, .totals, .counts, .float, .requests, .queue, .attn] ⊆ ps) (tag : Nat)
    (p : TallyPart) (r : ReconciliationPart) : Within ps s (applyUnpack tag p r t) ↔ Within ps s t :=
  Within.iff_of (by unfold applyUnpack; generalize excessSlots p.good t = c; simp) h

@[simp] theorem within_releaseLock (h : [.table] ⊆ ps) (tag : Nat) : Within ps s (releaseLock tag t) ↔ Within ps s t :=
  within_setTable h _

@[simp] theorem within_dropUnpacked (h : [.attn] ⊆ ps) (c : Option Container) :
    Within ps s (dropUnpacked c t) ↔ Within ps s t :=
  Within.iff_of (by unfold dropUnpacked; (repeat' split) <;> simp) h

@[simp] theorem within_applyBatch (h : [.table, .totals, .counter, .counts, .float, .requests, .queue, .attn] ⊆ ps)
    (j : CountJob) (damaged : Bool) (p : TallyPart) (r : Option ReconciliationPart) :
    Within ps s (applyBatch j damaged p r t) ↔ Within ps s t :=
  Within.iff_of (by unfold applyBatch; split <;> simp) h

@[simp] theorem within_endBatch (h : countParts ⊆ ps) (cause : EndCause) (figure : Option Nat) :
    Within ps s (endBatch cause figure t) ↔ Within ps s t :=
  Within.iff_of (by unfold endBatch; split; exacts [.refl _ _, by simp only [within_raiseIf, within_raise, within_applyBatch, within_setCount, List.cons_subset, List.mem_cons, true_or, or_true, List.nil_subset, and_self, Within.refl]]) h

@[simp] theorem within_closeSession (h : [.count] ⊆ ps) (j : CountJob) (o : CountOutcome) :
    Within ps s (closeSession j o t) ↔ Within ps s t := within_setCount h _

@[simp] theorem within_abandonCount (h : [.table, .requests, .counter, .count, .queue, .attn] ⊆ ps) (j : CountJob)
    (r : AbortReason) : Within ps s (abandonCount j r t) ↔ Within ps s t :=
  Within.iff_of (by unfold abandonCount; simp) h

end Counting

end Sys2Proof.Machine

/-! PROOFS. The frame of every command: what it can touch, and that no command touches the waiting commands or stops the part
(O3). -/

namespace Sys2Proof.Machine

/-! ### Requests -/

section Requests

variable {ps : List Part} {s t : State}

@[simp] theorem within_accepted (h : [.station, .port] ⊆ ps) : Within ps s (accepted t) ↔ Within ps s t :=
  Within.iff_of (by unfold accepted; split <;> simp) h

/-- A SET_ request touches what its writing touches. -/
theorem within_setting {α : Type} (h : [.port] ⊆ ps) (run : α → State → State) (a : α)
    (hrun : Within ps t (run a t)) : Within ps t (setting run a t) := by
  unfold setting
  split
  · exact hrun
  · exact (within_refuse h _).mpr (.refl _ _)

theorem within_onLoop {α : Type} (h : [.port] ⊆ ps) (run : α → State → State) (a : α)
    (hrun : Within ps t (run a t)) : Within ps t (onLoop run a t) := by
  unfold onLoop
  split
  · exact hrun
  · exact (within_refuse h _).mpr (.refl _ _)

theorem within_atSafe (h : [.port] ⊆ ps) {run : State → State} (hrun : Within ps t (run t)) :
    Within ps t (atSafe run t) := by
  unfold atSafe
  repeat' split
  · exact (within_refuse h _).mpr (.refl _ _)
  · exact (within_refuse h _).mpr (.refl _ _)
  · exact hrun

theorem within_onSack (h : [.port] ⊆ ps) {run : Container → SackFields → State → State}
    (hrun : ∀ c k, Within ps t (run c k t)) (tag : Nat) : Within ps t (onSack run tag t) := by
  refine within_atSafe h ?_
  repeat' split
  · exact (within_refuse h _).mpr (.refl _ _)
  · exact hrun _ _
  · exact (within_refuse h _).mpr (.refl _ _)

theorem within_writeStation (n : Nat) : Within [.cfg, .peers, .station, .port] t (writeStation n t) := by
  unfold writeStation
  dsimp only
  split <;> simp

/-- What a setting with an evaluation can touch. -/
abbrev levelParts : List Part := [.cfg, .station, .float, .requests, .queue, .attn, .port]

theorem within_writeDenomination (f : DenominationFields) : Within levelParts t (writeDenomination f t) := by
  unfold writeDenomination
  repeat' split
  all_goals simp

theorem within_writeFloat (f : FloatFields) : Within levelParts t (writeFloat f t) := by
  unfold writeFloat
  split <;> simp

theorem within_writeFloatStation (f : FloatStationFields) : Within levelParts t (writeFloatStation f t) := by
  unfold writeFloatStation
  simp

theorem within_writeTransit (f : TransitFields) : Within [.cfg, .station, .port] t (writeTransit f t) := by
  unfold writeTransit
  split <;> simp

theorem within_writeCountLine (mid : Bool) (f : CountLineFields) :
    Within [.cfg, .count, .station, .port] t (writeCountLine mid f t) := by
  unfold writeCountLine
  dsimp only
  repeat' split
  all_goals simp

theorem within_writeMask (m : FlagWord) : Within [.attn, .port] t (writeMask m t) := by
  exact .of_overlay rfl

theorem within_readAttention : Within [.attn, .port] t (readAttention t) := by
  exact .of_overlay rfl

theorem within_readContainer (tag : Nat) : Within [.port] t (readContainer tag t) := by
  unfold readContainer
  split <;> simp

theorem within_readSack (tag : Nat) : Within [.port] t (readSack tag t) := by
  unfold readSack
  repeat' split
  all_goals simp

theorem within_startRequest :
    Within [.station, .peers, .float, .requests, .queue, .attn, .port] t (startRequest t) := by
  unfold startRequest
  repeat' split
  all_goals simp

theorem within_stopRequest : Within (.port :: leavingParts) t (stopRequest t) := by
  unfold stopRequest
  repeat' split
  all_goals simp

theorem within_rejoinRequest : Within [.line, .station, .port] t (rejoinRequest t) := by
  unfold rejoinRequest
  split <;> simp

theorem within_makeUp (f : MakeUpFields) :
    Within [.table, .counts, .float, .requests, .queue, .attn, .port] t (makeUp f t) := by
  unfold makeUp makeUpChecked makeUpAccepted
  repeat' split
  all_goals simp

theorem within_dismantle (tag : Nat) :
    Within [.table, .counts, .float, .requests, .queue, .attn, .port] t (dismantle tag t) := by
  unfold dismantle dismantleFound dismantleAccepted
  repeat' split
  all_goals simp

theorem within_acceptVariance (tag : Nat) :
    Within [.table, .totals, .queue, .attn, .port] t (acceptVariance tag t) := by
  unfold acceptVariance acceptVarianceFound acceptVarianceAccepted
  repeat' split
  all_goals simp

theorem within_dayClose : Within [.totals, .day, .queue, .attn, .port] t (dayClose t) := by
  unfold dayClose
  split
  · simp
  · rw [within_answer (by simp), closeDay_eq]
    exact .of_overlay rfl

theorem within_offer (f : OfferFields) :
    Within [.table, .requests, .counter, .queue, .port] t (offer f t) := by
  unfold offer offerFound offerDeferred offerHeld
  repeat' split
  all_goals simp

theorem within_take (f : TakeFields) : Within [.inbound, .queue, .port] t (take f t) := by
  unfold take takeListed takeUnlisted takeRoom takeExpected takeNew
  dsimp only
  repeat' split
  all_goals simp

theorem within_takeResolve (tag : Nat) :
    Within [.table, .inbound, .totals, .requests, .list, .queue, .attn, .port] t (takeResolve tag t) := by
  unfold takeResolve resolveEntry
  repeat' split
  all_goals simp

theorem within_recallRequest (tag : Nat) : Within [.table, .queue, .port] t (recallRequest tag t) := by
  unfold recallRequest recallFound recallAccepted
  repeat' split
  all_goals simp

theorem within_queryRequest (tag : Nat) : Within [.inbound, .queue, .port] t (queryRequest tag t) := by
  unfold queryRequest queryAccepted
  repeat' split
  all_goals simp

theorem within_decline (tag : Nat) : Within [.inbound, .requests, .queue, .port] t (decline tag t) := by
  unfold decline declineAccepted
  repeat' split
  all_goals simp

theorem within_countOpen (f : CountOpenFields) : Within [.table, .count, .port] t (countOpen f t) := by
  unfold countOpen countOpenStanding countOpenTarget
  repeat' split
  all_goals simp

theorem within_countClose : Within [.count, .port] t (countClose t) := by
  unfold countClose closeStanding
  repeat' split
  all_goals simp

theorem within_countAbort : Within (.port :: countParts) t (countAbort t) := by
  unfold countAbort abortSession
  repeat' split
  all_goals simp

theorem within_raiseNeed (f : NeedFields) : Within [.requests, .queue, .attn, .port] t (raiseNeed f t) := by
  unfold raiseNeed raiseNeedChecked raiseNeedAccepted
  repeat' split
  all_goals simp

@[simp] theorem within_dropRequest (h : [.requests, .queue] ⊆ ps) (id : Nat) :
    Within ps s (dropRequest id t) ↔ Within ps s t :=
  Within.iff_of (by unfold dropRequest; simp) h

theorem within_cancelNeed (id : Nat) : Within [.requests, .queue, .port] t (cancelNeed id t) := by
  unfold cancelNeed cancelNeedFound
  repeat' split
  all_goals simp

@[simp] theorem within_claimAccepted (h : [.list, .queue, .port] ⊆ ps) (e : ServiceEntry) :
    Within ps s (claimAccepted e t) ↔ Within ps s t :=
  Within.iff_of (by unfold claimAccepted; simp) h

theorem within_claimNext : Within [.list, .queue, .port] t (claimNext t) := by
  unfold claimNext
  repeat' split
  all_goals simp

theorem within_claim (f : ClaimFields) : Within [.list, .queue, .port] t (claim f t) := by
  unfold claim claimFound
  repeat' split
  all_goals simp

theorem within_openWindow (n : Nat) : Within [.safe] t (openWindow n t) := by
  unfold openWindow
  split
  · exact .of_overlay rfl
  · simp

theorem within_windowOpen (n : Nat) : Within [.safe, .port] t (windowOpen n t) := by
  unfold windowOpen
  repeat' split
  · simp
  · simp
  · simpa using (within_openWindow _).mono (by simp)

@[simp] theorem within_closeWindow (h : [.safe, .attn] ⊆ ps) : Within ps s (closeWindow t) ↔ Within ps s t :=
  Within.iff_of (by unfold closeWindow; simp) h

theorem within_windowClose : Within [.safe, .attn, .port] t (windowClose t) := by
  unfold windowClose
  split <;> simp

theorem within_admitStock (f : AdmitFields) : Within [.table, .totals, .queue, .attn, .port] t (admitStock f t) := by
  have checked (c : ContainerClass) :
      Within [.table, .totals, .queue, .attn, .port] t (atSafe (admitChecked f c) t) := by
    refine within_atSafe (by simp) ?_
    unfold admitChecked admitAccepted
    repeat' split
    all_goals simp
  unfold admitStock
  repeat' split
  · simp
  · exact checked _
  · simp

theorem within_sackOpen (tag : Nat) : Within [.table, .port] t (sackOpen tag t) := by
  unfold sackOpen sackOpenChecked
  split
  · simp
  · refine within_atSafe (by simp) ?_
    repeat' split
    all_goals simp

theorem within_nest (f : NestFields) : Within [.table, .port] t (nest f t) := by
  unfold nest nestFound nestChecked nestAccepted linkLast
  repeat' split
  all_goals simp

theorem within_unnest (tag : Nat) : Within [.table, .port] t (unnest tag t) := by
  unfold unnest unnestFound unnestAccepted
  repeat' split
  all_goals simp

theorem within_sackClose (c : Container) (k : SackFields) : Within [.table, .port] t (sackClose c k t) := by
  unfold sackClose closeSack
  repeat' split
  all_goals simp

theorem within_sackReopen (c : Container) (k : SackFields) : Within [.table, .port] t (sackReopen c k t) := by
  unfold sackReopen
  split <;> simp

theorem within_sackAbandon (c : Container) (k : SackFields) : Within [.table, .port] t (sackAbandon c k t) := by
  unfold sackAbandon freeMembers
  simp

theorem within_dispatch (c : Container) (k : SackFields) :
    Within [.table, .totals, .safe, .queue, .attn, .port] t (dispatch c k t) := by
  unfold dispatch
  repeat' split
  · simp
  · simp
  · have history (u : State) (l : List DispatchRecord) :
        Within [.safe] u { u with safe := { u.safe with dispatches := l } } := by
      exact .of_overlay rfl
    unfold dispatchAccepted
    rw [within_answer (by simp), within_raise (by simp), Within.iff_of (history _ _) (by simp)]
    unfold removeSack
    simp

@[simp] theorem within_clearAlarm (h : [.queue, .attn, .port] ⊆ ps) (k : AlarmKind) :
    Within ps s (clearAlarm k t) ↔ Within ps s t := by
  refine Within.iff_of ?_ h
  have cleared : Within [.attn] t { t with attn := t.attn.withAlarm k false } := by
    exact .of_overlay rfl
  unfold clearAlarm
  dsimp only
  split <;> simp [cleared.mono]

theorem within_alarmClear (code : Nat) : Within [.queue, .attn, .port] t (alarmClear code t) := by
  unfold alarmClear alarmClearKind
  repeat' split
  all_goals simp

theorem within_allowDoor (n : Nat) : Within [.door, .port] t (allowDoor n t) := by
  unfold allowDoor
  split
  · simp
  · exact .of_overlay rfl

end Requests

/-! ### Frames heard -/

/-- What hearing a frame can touch. -/
abbrev heardParts : List Part :=
  [.table, .inbound, .releases, .totals, .queue, .line, .station, .peers, .requests, .list, .attn]

section Heard

variable {ps : List Part} {s t : State}

theorem within_hearAlarm (sender : Nat) (p : AlarmPayload) : Within [.peers, .attn] t (hearAlarm sender p t).1 := by
  unfold hearAlarm recordAlarm acted
  rw [within_raiseIf (by simp)]
  split <;> simp

theorem within_hearTaken (sender : Nat) (p : TakenPayload) : Within heardParts t (hearTaken sender p t).1 := by
  unfold hearTaken acted notActed
  split <;> simp

theorem within_hearRecallOk (sender : Nat) (p : TagNumber) :
    Within [.table, .requests, .queue, .attn] t (hearRecallOk sender p t).1 := by
  unfold hearRecallOk acted notActed
  split <;> simp

@[simp] theorem within_applyWindow (h : [.table, .requests, .attn] ⊆ ps) (tag : Nat) (r : LastResult) (o : NoteOutcome) :
    Within ps s (applyWindow tag r o t) ↔ Within ps s t :=
  Within.iff_of (by unfold applyWindow; simp) h

theorem within_hearRefuse (sender : Nat) (p : RefusePayload) :
    Within [.table, .requests, .queue, .attn] t (hearRefuse sender p t).1 := by
  unfold hearRefuse hearRefused hearDeclined hearTooLate hearNotOffered acted notActed
  repeat' split
  all_goals simp

theorem within_hearQuery (sender : Nat) (p : TagNumber) : Within [.queue, .attn] t (hearQuery sender p t).1 := by
  unfold hearQuery
  simp

@[simp] theorem within_lapseEntry (h : [.inbound, .requests, .queue, .attn] ⊆ ps) (e : InboundEntry) :
    Within ps s (lapseEntry e t) ↔ Within ps s t :=
  Within.iff_of (by unfold lapseEntry; simp) h

@[simp] theorem within_offerTold (h : [.requests, .attn] ⊆ ps) (sender : Nat) (p : OfferPayload) :
    Within ps s (offerTold sender p t) ↔ Within ps s t :=
  Within.iff_of (by unfold offerTold; simp) h

theorem within_refuseOffer (sender : Nat) (p : OfferPayload) (r : RefuseReason) :
    Within [.queue, .attn] t (refuseOffer sender p r t).1 := by
  unfold refuseOffer notActed
  simp

theorem within_placeOffer (sender : Nat) (p : OfferPayload) :
    Within [.inbound, .requests, .queue, .attn] t (placeOffer sender p t).1 := by
  unfold placeOffer registerOffer updateOffered acted
  repeat' split
  · simp
  · exact (within_refuseOffer _ _ _).mono (by simp)
  · simp

theorem within_hearOffer (sender : Nat) (p : OfferPayload) :
    Within [.inbound, .requests, .queue, .attn] t (hearOffer sender p t).1 := by
  unfold hearOffer offerNumbered
  dsimp only
  repeat' split
  iterate 4 exact (within_refuseOffer _ _ _).mono (by simp)
  exact (within_foldl (fun _ _ => by simp) _ _).trans (within_placeOffer _ _)

@[simp] theorem within_answerNotKnown (h : [.inbound, .queue, .attn] ⊆ ps) (e : InboundEntry) :
    Within ps s (answerNotKnown e t) ↔ Within ps s t :=
  Within.iff_of (by unfold answerNotKnown; simp) h

theorem within_hearAnswer (sender : Nat) (p : AnswerPayload) :
    Within [.table, .inbound, .totals, .requests, .list, .queue, .attn] t (hearAnswer sender p t).1 := by
  unfold hearAnswer answerHeld answerReleased resolveEntry acted notActed
  repeat' split
  all_goals simp

theorem within_hearRecall (sender : Nat) (p : TagNumber) :
    Within [.inbound, .requests, .queue, .attn] t (hearRecall sender p t).1 := by
  unfold hearRecall recallTooLate giveBack acted notActed
  repeat' split
  all_goals simp

@[simp] theorem within_awardRequest (h : [.requests, .queue, .attn] ⊆ ps) (claimant : Nat) (r : OwnRequest) :
    Within ps s (awardRequest claimant r t) ↔ Within ps s t :=
  Within.iff_of (by unfold awardRequest; simp) h

theorem within_hearClaim (sender : Nat) (p : ClaimPayload) :
    Within [.requests, .queue, .attn] t (hearClaim sender p t).1 := by
  unfold hearClaim acted notActed
  split <;> simp

theorem within_hearAward (sender : Nat) (p : AwardPayload) : Within [.list, .attn] t (hearAward sender p t).1 := by
  unfold hearAward awardedHere awardedElsewhere awardedAnew acted notActed
  repeat' split
  all_goals simp

@[simp] theorem within_listEntry (h : [.list, .attn] ⊆ ps) (e : ServiceEntry) :
    Within ps s (listEntry e t) ↔ Within ps s t :=
  Within.iff_of (by unfold listEntry; simp) h

theorem within_hearNeed (sender : Nat) (p : NeedPayload) : Within [.list, .attn] t (hearNeed sender p t).1 := by
  unfold hearNeed needKnown relistEntry needFull acted notActed
  dsimp only
  repeat' split
  all_goals simp

theorem within_hearWithdraw (sender : Nat) (p : WithdrawPayload) : Within [.list, .attn] t (hearWithdraw sender p t).1 := by
  unfold hearWithdraw acted notActed
  split <;> simp

/-- The block that owns the kind touches no more than any block does. -/
theorem within_handle (f : Frame) : Within heardParts t (handle f t).1 := by
  unfold handle
  split
  · exact (within_hearAlarm _ _).mono (by simp)
  · exact within_hearTaken _ _
  · exact (within_hearRecallOk _ _).mono (by simp)
  · exact (within_hearRefuse _ _).mono (by simp)
  · exact (within_hearAnswer _ _).mono (by simp)
  · exact (within_hearOffer _ _).mono (by simp)
  · exact (within_hearRecall _ _).mono (by simp)
  · exact (within_hearQuery _ _).mono (by simp)
  · exact (within_hearClaim _ _).mono (by simp)
  · exact (within_hearAward _ _).mono (by simp)
  · exact (within_hearNeed _ _).mono (by simp)
  · exact (within_hearWithdraw _ _).mono (by simp)
  all_goals exact .refl _ _

theorem within_deliverTargeted (f : Frame) : Within heardParts t (deliverTargeted f t) := by
  unfold deliverTargeted deliver
  dsimp only
  repeat' split
  · simpa using within_handle f
  · exact within_handle f
  · exact .refl _ _

theorem within_receive (f : Frame) : Within heardParts t (receive f t) := by
  unfold receive hearOwnNumber hearPeer
  repeat' split
  · simp
  · simp
  · simp
  · exact .trans (by simp) (within_deliverTargeted f)
  · exact .trans (by simp) (within_deliverTargeted f)

end Heard

/-! ### Timers, records, lamps and door, supply -/

section Events

variable {ps : List Part} {s t : State}

theorem within_transitDeadline (tag : Nat) : Within [.table, .queue, .attn] t (transitDeadline tag t) := by
  unfold transitDeadline
  split <;> simp

theorem within_inboundLapse (tag : Nat) : Within [.inbound, .requests, .queue, .attn] t (inboundLapse tag t) := by
  unfold inboundLapse
  split <;> simp

theorem within_recallTimeout (tag : Nat) : Within [.table, .queue, .attn] t (recallTimeout tag t) := by
  unfold recallTimeout endRecall
  repeat' split
  all_goals simp

theorem within_queryWaitEnd (tag : Nat) : Within [.inbound, .queue, .attn] t (queryWaitEnd tag t) := by
  unfold queryWaitEnd
  split <;> simp

theorem within_refusalWindowEnd (tag : Nat) : Within [.table] t (refusalWindowEnd tag t) := by
  unfold refusalWindowEnd
  split <;> simp

theorem within_listeningPeriodEnd : Within [.line, .station] t (listeningPeriodEnd t) := by
  unfold listeningPeriodEnd
  split <;> simp

theorem within_announceWaitEnd : Within [.line, .station, .queue, .attn] t (announceWaitEnd t) := by
  unfold announceWaitEnd
  split <;> simp

theorem within_beaconTimer : Within [.line, .station] t (beaconTimer t) := by
  unfold beaconTimer
  split
  · exact .of_overlay rfl
  · exact .refl _ _

theorem within_autoRejoin : Within [.line, .station] t (autoRejoin t) := by
  unfold autoRejoin
  split <;> simp

theorem within_peerQuiet (n : Nat) : Within [.peers] t (peerQuiet n t) := by
  unfold peerQuiet
  split <;> simp

theorem within_peerGone (n : Nat) : Within [.peers, .requests, .list, .queue, .attn] t (peerGone n t) := by
  unfold peerGone
  split <;> simp

theorem within_requestExpiry (id : Nat) : Within [.requests, .queue, .attn] t (requestExpiry id t) := by
  unfold requestExpiry expireRequest
  repeat' split
  all_goals simp

theorem within_escalate (id : Nat) : Within [.requests, .queue, .attn] t (escalate id t) := by
  unfold escalate
  repeat' split
  all_goals simp

theorem within_claimLapse (id : Nat) : Within [.requests, .queue, .attn] t (claimLapse id t) := by
  unfold claimLapse
  repeat' split
  all_goals simp

theorem within_backupEligible (requester id : Nat) : Within [.list, .attn] t (backupEligible requester id t) := by
  unfold backupEligible
  repeat' split
  all_goals simp

theorem within_onCountLine {run : State → State} (hrun : Within ps t (run t)) : Within ps t (onCountLine run t) := by
  unfold onCountLine
  split
  · exact .refl _ _
  · exact hrun

theorem within_countRecord (r : CountEntry) : Within [.count, .attn] t (countRecord r t) := by
  unfold countRecord
  repeat' split
  all_goals simp

theorem within_endRecord (n : Nat) : Within countParts t (endRecord n t) := by
  unfold endRecord
  split <;> simp

theorem within_haltRecord : Within countParts t (haltRecord t) := by
  unfold haltRecord
  split <;> simp

theorem within_droppedRecord (r : DropReason) : Within [.count] t (droppedRecord r t) := by
  unfold droppedRecord
  split <;> simp

theorem within_batchIdleEnd : Within countParts t (batchIdleEnd t) := by
  unfold batchIdleEnd
  dsimp only
  split <;> simp

theorem within_noRecords : Within countParts t (noRecords t) := by
  unfold noRecords
  repeat' split
  all_goals simp

theorem within_openDoor : Within [.door, .queue, .attn] t (openDoor t) := by
  have opened (d : DoorMonitor) : Within [.door] t { t with door := d } := by
    exact .of_overlay rfl
  unfold openDoor
  dsimp only
  repeat' split
  · exact .refl _ _
  · exact (opened _).mono (by simp)
  · simpa using (opened _).mono (by simp)

theorem within_holdDoor : Within [.door, .queue, .attn] t (holdDoor t) := by
  have held (d : DoorMonitor) : Within [.door] t { t with door := d } := by
    exact .of_overlay rfl
  unfold holdDoor
  split
  · simpa using (held _).mono (by simp)
  · exact .refl _ _

theorem within_endAllowance : Within [.door] t (endAllowance t) := by
  unfold endAllowance
  split
  · exact .of_overlay rfl
  · exact .refl _ _

theorem within_lampAdvance : Within [.lamps] t (lampAdvance t) := by
  unfold lampAdvance
  split
  · exact .refl _ _
  · exact .of_overlay rfl

theorem within_windowExpiry : Within [.safe, .attn] t (windowExpiry t) := by
  unfold windowExpiry
  split <;> simp

theorem within_resetPinLow (n : Nat) : Within [.unit, .line, .lamps, .port] t (resetPinLow n t) := by
  unfold resetPinLow
  split
  · exact .refl _ _
  · exact .of_overlay rfl

theorem within_supplyLoss (held : Bool) : Within [.unit, .line, .lamps, .port] t (supplyLoss held t) := by
  exact .of_overlay rfl

/-- What a start can touch: everything but the waiting commands. -/
abbrev startParts : List Part :=
  [.unit, .clock, .cfg, .table, .inbound, .releases, .totals, .day, .queue, .line, .station, .peers, .counter, .count,
   .counts, .float, .requests, .list, .safe, .attn, .door, .lamps, .port]

theorem within_warmStart (pins : Pins) : Within startParts t (warmStart pins t) := by
  exact .of_overlay rfl

theorem within_coldStart (pins : Pins) : Within startParts t (coldStart pins t) := by
  exact .of_overlay rfl

theorem within_powerUp (pins : Pins) : Within startParts t (powerUp pins t) := by
  unfold powerUp
  repeat' split
  · exact .refl _ _
  · exact within_warmStart pins
  · exact within_coldStart pins

theorem within_selectRelease (pins : Pins) : Within startParts t (selectRelease pins t) := by
  unfold selectRelease
  split
  · simp
  · exact within_warmStart pins
  · exact within_coldStart pins

end Events

/-! ### Every command -/

/-- What each command can touch. -/
def touched : Instr → List Part
  | .powerUp _ | .coldStart _ | .warmStart _ | .selectRelease _ => startParts
  | .resetPinLow _ | .mainSupplyLoss _ => [.unit, .line, .lamps, .port]
  | .start _ => [.station, .peers, .float, .requests, .queue, .attn, .port]
  | .stop _ => .port :: leavingParts
  | .rejoin _ => [.line, .station, .attn, .port]
  | .setStation _ => [.cfg, .peers, .station, .attn, .port]
  | .setDenomination _ | .setFloat _ | .setFloatStation _ => levelParts
  | .setLoop _ | .setTransit _ | .setCount _ | .setTolerance _ | .setService _ | .setCover _ | .setSack _ | .setDoor _ =>
    [.cfg, .station, .attn, .port]
  | .setCountLine _ _ => [.cfg, .count, .station, .attn, .port]
  | .makeUp _ | .dismantle _ => [.table, .counts, .float, .requests, .queue, .attn, .port]
  | .acceptVariance _ | .admitStock _ => [.table, .totals, .queue, .attn, .port]
  | .dayClose _ => [.totals, .day, .queue, .attn, .port]
  | .offer _ => [.table, .requests, .counter, .queue, .attn, .port]
  | .take _ | .query _ => [.inbound, .queue, .attn, .port]
  | .takeResolve _ => [.table, .inbound, .totals, .requests, .list, .queue, .attn, .port]
  | .recall _ => [.table, .queue, .attn, .port]
  | .decline _ => [.inbound, .requests, .queue, .attn, .port]
  | .countOpen _ => [.table, .count, .attn, .port]
  | .countClose _ => [.count, .attn, .port]
  | .countAbort _ => .port :: countParts
  | .raiseNeed _ | .cancelNeed _ => [.requests, .queue, .attn, .port]
  | .claimNext _ | .claim _ => [.list, .queue, .attn, .port]
  | .windowOpen _ | .windowClose _ => [.safe, .attn, .port]
  | .sackOpen _ | .nest _ | .unnest _ | .sackClose _ | .sackReopen _ | .sackAbandon _ => [.table, .attn, .port]
  | .dispatch _ => [.table, .totals, .safe, .queue, .attn, .port]
  | .alarmClear _ => [.queue, .attn, .port]
  | .doorAllow _ => [.door, .attn, .port]
  | .attentionReadCleared => [.attn]
  | .frameSendStart | .frameDiscarded _ => [.line, .queue]
  | .announceLostSerial _ | .readBackFault | .frameSent _ | .offerReport _ | .takenReport _ | .queryReport _
  | .claimReport _ | .announceCompleted => leavingParts
  | .intactFrameHeard _ | .alarmReceived _ _ _ | .takenReceived _ _ _ | .recallOkReceived _ _ _ | .refuseReceived _ _ _
  | .answerReceived _ _ _ | .offerReceived _ _ _ | .recallReceived _ _ _ | .queryReceived _ _ _ | .claimReceived _ _ _
  | .awardReceived _ _ _ | .needReceived _ _ _ | .withdrawReceived _ _ _ | .announceReceived _ _ _
  | .conflictReceived _ _ _ | .beaconReceived _ _ _ => heardParts
  | .listeningPeriodEnd | .beaconTimer | .autoRejoin => [.line, .station]
  | .announceWaitEnd => [.line, .station, .queue, .attn]
  | .peerQuiet _ => [.peers]
  | .peerGone _ => [.peers, .requests, .list, .queue, .attn]
  | .transitDeadline _ | .recallTimeout _ => [.table, .queue, .attn]
  | .inboundLapse _ => [.inbound, .requests, .queue, .attn]
  | .queryWaitEnd _ => [.inbound, .queue, .attn]
  | .refusalWindowEnd _ => [.table]
  | .countRecord _ _ _ => [.count, .attn]
  | .droppedRecord _ | .recordAbandoned | .countLineResynchronisation => [.count]
  | .endRecord _ | .haltRecord | .batchIdleEnd | .noRecordTimeout => countParts
  | .requestExpiry _ | .escalation _ | .claimLapse _ => [.requests, .queue, .attn]
  | .backupEligible _ _ => [.list, .attn]
  | .windowExpiry => [.safe, .attn]
  | .doorOpeningEdge | .doorHeld => [.door, .queue, .attn]
  | .doorClosing | .doorAllowanceEnd => [.door]
  | .lampStep => [.lamps]
  | .unknownKindRequest _ | .reset _ | .erase _ | .setAttentionMask _ | .readAttention _ | .readStation _ | .readLoop _
  | .readPeers _ | .readCustody _ | .readContainer _ | .readInbound _ | .readReleases _ | .readTotals _ | .readDayTotals _
  | .readCount _ | .readPosition _ | .readRequests _ | .readService _ | .readWindow _ | .readSack _ | .readDispatches _ =>
    [.attn, .port]

theorem within_refused (st : Status) (s : State) : Within [.port, .attn] s (refused st s) := by
  exact .of_overlay rfl

/-- A request touches what it does in a new select period, the answer and what the last READ_ATTENTION returned. -/
theorem within_request {α : Type} {ps qs : List Part} {b : Body α} {s t : State} {run : α → State → State}
    (h : request b s run = .next t) (hrun : ∀ a u, Within qs u (run a u)) (hps : [.port, .attn] ⊆ ps := by simp [touched])
    (hqs : qs ⊆ ps := by simp [touched]) : Within ps s t := by
  obtain rfl := Host.Outcome.next.inj h
  split
  · split
    · exact (within_refused .badLength s).mono hps
    · exact .trans ((within_newSelect hps).mpr (.refl _ _)) ((hrun _ _).mono hqs)
  · exact .refl _ _

theorem within_event {ps qs : List Part} {s t : State} {run : State → State} (h : event s run = .next t)
    (hrun : Within qs s (run s)) (hqs : qs ⊆ ps := by simp [touched]) : Within ps s t := by
  obtain rfl := Host.Outcome.next.inj h
  split
  · exact hrun.mono hqs
  · exact .refl _ _

/-- A read answers and touches nothing else. -/
theorem within_readAnswer (body : State → List Byte) (u : State) : Within [.port] u (readAnswer body u) := by
  unfold readAnswer
  simp

/-- A SET_ request that writes the settings and no other record. -/
theorem within_settingOnly {α : Type} {run : α → State → State} {cfg : α → State → Settings}
    (hrun : ∀ a u, run a u = accepted (setCfg (cfg a u) u)) (a : α) (u : State) :
    Within [.cfg, .station, .port] u (setting run a u) :=
  within_setting (by simp) _ _ (by rw [hrun]; simp)

/-- Every command touches no more than its row of the table says. -/
theorem exec_within {c : Instr} {s t : State} (h : exec c s = .next t) : Within (touched c) s t := by
  cases c with
  | powerUp pins => cases h; exact within_powerUp pins
  | coldStart pins => cases h; split; exacts [.refl _ _, within_coldStart pins]
  | warmStart pins => cases h; split; exacts [.refl _ _, within_warmStart pins]
  | resetPinLow n => cases h; exact within_resetPinLow n
  | mainSupplyLoss held => cases h; exact within_supplyLoss held
  | selectRelease pins => exact within_event h (within_selectRelease pins)
  | start b => exact within_request h (fun _ _ => within_startRequest)
  | stop b => exact within_request h (fun _ _ => within_stopRequest)
  | rejoin b => exact within_request h (fun _ _ => within_rejoinRequest)
  | setStation b => exact within_request h (fun a _ => within_setting (by simp) _ a (within_writeStation a))
  | setDenomination b => exact within_request h (fun a _ => within_setting (by simp) _ a (within_writeDenomination a))
  | setFloat b => exact within_request h (fun a _ => within_setting (by simp) _ a (within_writeFloat a))
  | setFloatStation b => exact within_request h (fun a _ => within_setting (by simp) _ a (within_writeFloatStation a))
  | setCountLine b mid =>
    exact within_request h (fun a _ => within_setting (by simp) _ a (within_writeCountLine mid a))
  | setTransit b => exact within_request h (fun a _ => within_setting (by simp) _ a (within_writeTransit a))
  | setLoop b => exact within_request h (within_settingOnly (fun _ _ => rfl))
  | setCount b => exact within_request h (within_settingOnly (fun _ _ => rfl))
  | setTolerance b => exact within_request h (within_settingOnly (fun _ _ => rfl))
  | setService b => exact within_request h (within_settingOnly (fun _ _ => rfl))
  | setCover b => exact within_request h (within_settingOnly (fun _ _ => rfl))
  | setSack b => exact within_request h (within_settingOnly (fun _ _ => rfl))
  | setDoor b => exact within_request h (within_settingOnly (fun _ _ => rfl))
  | makeUp b => exact within_request h (fun a _ => within_makeUp a)
  | dismantle b => exact within_request h (fun a _ => within_dismantle a)
  | acceptVariance b => exact within_request h (fun a _ => within_acceptVariance a)
  | admitStock b => exact within_request h (fun a _ => within_admitStock a)
  | dayClose b => exact within_request h (fun _ _ => within_dayClose)
  | offer b => exact within_request h (fun a _ => within_onLoop (by simp) _ a (within_offer a))
  | take b => exact within_request h (fun a _ => within_onLoop (by simp) _ a (within_take a))
  | query b => exact within_request h (fun a _ => within_onLoop (by simp) _ a (within_queryRequest a))
  | takeResolve b => exact within_request h (fun a _ => within_takeResolve a)
  | decline b => exact within_request h (fun a _ => within_onLoop (by simp) _ a (within_decline a))
  | countOpen b => exact within_request h (fun a _ => within_countOpen a)
  | countClose b => exact within_request h (fun _ _ => within_countClose)
  | countAbort b => exact within_request h (fun _ _ => within_countAbort)
  | raiseNeed b => exact within_request h (fun a _ => within_onLoop (by simp) _ a (within_raiseNeed a))
  | cancelNeed b => exact within_request h (fun a _ => within_cancelNeed a)
  | claimNext b => exact within_request h (fun a _ => within_onLoop (by simp) _ a within_claimNext)
  | claim b => exact within_request h (fun a _ => within_onLoop (by simp) _ a (within_claim a))
  | windowOpen b => exact within_request h (fun a _ => within_windowOpen a)
  | windowClose b => exact within_request h (fun _ _ => within_atSafe (by simp) within_windowClose)
  | sackOpen b => exact within_request h (fun a _ => within_sackOpen a)
  | nest b => exact within_request h (fun a _ => within_atSafe (by simp) (within_nest a))
  | unnest b => exact within_request h (fun a _ => within_atSafe (by simp) (within_unnest a))
  | sackClose b => exact within_request h (fun a _ => within_onSack (by simp) within_sackClose a)
  | sackReopen b => exact within_request h (fun a _ => within_onSack (by simp) within_sackReopen a)
  | sackAbandon b => exact within_request h (fun a _ => within_onSack (by simp) within_sackAbandon a)
  | dispatch b => exact within_request h (fun a _ => within_onSack (by simp) within_dispatch a)
  | alarmClear b => exact within_request h (fun a _ => within_alarmClear a)
  | doorAllow b => exact within_request h (fun a _ => within_allowDoor a)
  | attentionReadCleared =>
    refine within_event (qs := [.attn]) h ?_
    exact .of_overlay rfl
  | frameSendStart => exact within_event (qs := [.line, .queue]) h (by simp)
  | frameDiscarded r =>
    refine within_event (qs := [.line, .queue]) h ?_
    unfold frameDiscarded
    split <;> simp
  | announceLostSerial w => exact within_event (qs := leavingParts) h (by simp)
  | readBackFault => exact within_event (qs := leavingParts) h (by simp)
  | frameSent a | offerReport a | takenReport a | queryReport a | claimReport a =>
    exact within_event (qs := leavingParts) h (by simp)
  | announceCompleted => exact within_event (qs := leavingParts) h (by simp)
  | intactFrameHeard f => exact within_event h (within_receive f)
  | alarmReceived _ _ _ | takenReceived _ _ _ | recallOkReceived _ _ _ | refuseReceived _ _ _ | answerReceived _ _ _
  | offerReceived _ _ _ | recallReceived _ _ _ | queryReceived _ _ _ | claimReceived _ _ _ | awardReceived _ _ _
  | needReceived _ _ _ | withdrawReceived _ _ _ | announceReceived _ _ _ | conflictReceived _ _ _ | beaconReceived _ _ _ =>
    exact within_event h (within_receive _)
  | listeningPeriodEnd => exact within_event h within_listeningPeriodEnd
  | beaconTimer => exact within_event h within_beaconTimer
  | autoRejoin => exact within_event h within_autoRejoin
  | announceWaitEnd => exact within_event h within_announceWaitEnd
  | peerQuiet n => exact within_event h (within_peerQuiet n)
  | peerGone n => exact within_event h (within_peerGone n)
  | transitDeadline tag => exact within_event h (within_transitDeadline tag)
  | recallTimeout tag => exact within_event h (within_recallTimeout tag)
  | inboundLapse tag => exact within_event h (within_inboundLapse tag)
  | queryWaitEnd tag => exact within_event h (within_queryWaitEnd tag)
  | refusalWindowEnd tag => exact within_event h (within_refusalWindowEnd tag)
  | countRecord d su n => exact within_event h (within_onCountLine (within_countRecord _))
  | droppedRecord r => exact within_event h (within_onCountLine (within_droppedRecord r))
  | recordAbandoned => exact within_event (qs := [.count]) h (within_onCountLine (by simp))
  | countLineResynchronisation => exact within_event (qs := [.count]) h (by simp [resynchronise])
  | endRecord n => exact within_event h (within_onCountLine (within_endRecord n))
  | haltRecord => exact within_event h (within_onCountLine within_haltRecord)
  | batchIdleEnd => exact within_event h within_batchIdleEnd
  | noRecordTimeout => exact within_event h within_noRecords
  | requestExpiry id => exact within_event h (within_requestExpiry id)
  | escalation id => exact within_event h (within_escalate id)
  | claimLapse id => exact within_event h (within_claimLapse id)
  | backupEligible n id => exact within_event h (within_backupEligible n id)
  | windowExpiry => exact within_event h within_windowExpiry
  | doorOpeningEdge => exact within_event h within_openDoor
  | doorHeld => exact within_event h within_holdDoor
  | doorClosing =>
    refine within_event (qs := [.door]) h ?_
    exact .of_overlay rfl
  | doorAllowanceEnd => exact within_event h within_endAllowance
  | lampStep => exact within_event h within_lampAdvance
  | unknownKindRequest k =>
    exact within_request (run := fun _ u => refuse .badKind u) (b := .fields ()) (qs := [.port]) h (fun _ _ => by simp)
  | reset b =>
    exact within_request (run := fun _ u => answer .ok [] (oweStart .warm u)) (b := b) (qs := [.port]) h
      (fun _ _ => by simp)
  | erase b =>
    refine within_request (run := fun _ u => if u.erasable then answer .ok [] (oweStart .cold u) else refuse .badState u)
      (b := b) (qs := [.port]) h (fun _ u => ?_)
    split <;> simp
  | setAttentionMask b => exact within_request h (fun m _ => within_writeMask m)
  | readAttention b => exact within_request h (fun _ _ => within_readAttention)
  | readContainer b => exact within_request h (fun tag _ => within_readContainer tag)
  | readSack b => exact within_request h (fun tag _ => within_readSack tag)
  | readStation b | readLoop b | readTotals b | readDayTotals b | readCount b | readPosition b | readWindow b =>
    exact within_request h (fun _ => within_readAnswer _)
  | readPeers b | readCustody b | readInbound b | readReleases b | readRequests b | readService b | readDispatches b =>
    exact within_request h (fun _ => within_readAnswer _)
  -- RECALL, whose constructor's name is a keyword of Mathlib and cannot stand in a pattern.
  | _ b => exact within_request h (fun a _ => within_onLoop (by simp) _ a (within_recallRequest a))

/-! ### No command stops the part -/

theorem exec_next (c : Instr) (s : State) : ∃ t, exec c s = .next t := by
  cases c <;> exact ⟨_, rfl⟩

/-- Commands wait until a step takes them. -/
theorem exec_pending {c : Instr} {s t : State} (h : exec c s = .next t) : t.pending = s.pending := by
  refine exec_within h .pending ?_
  cases c <;> simp [touched]

theorem portTakes_still {s : State} (h : s.unit.power ≠ .running) : portTakes s = false := by
  simp [portTakes, h]

/-- Without supply, or held in reset, the part does what the supply, the pin and the starts make of it, and nothing else
(R177). -/
theorem exec_still {s : State} (h : s.unit.power ≠ .running) {c : Instr} (hpower : ∀ p, c ≠ .powerUp p)
    (hcold : ∀ p, c ≠ .coldStart p) (hwarm : ∀ p, c ≠ .warmStart p) (hpin : ∀ n, c ≠ .resetPinLow n)
    (hloss : ∀ b, c ≠ .mainSupplyLoss b) : exec c s = .next s := by
  cases c with
  | powerUp p => exact absurd rfl (hpower p)
  | coldStart p => exact absurd rfl (hcold p)
  | warmStart p => exact absurd rfl (hwarm p)
  | resetPinLow n => exact absurd rfl (hpin n)
  | mainSupplyLoss b => exact absurd rfl (hloss b)
  | unknownKindRequest k => exact request_ignored (portTakes_still h) (.fields ()) (fun _ u => refuse .badKind u)
  | reset b => exact request_ignored (portTakes_still h) b (fun _ u => answer .ok [] (oweStart .warm u))
  | erase b =>
    exact request_ignored (portTakes_still h) b
      (fun _ u => if u.erasable then answer .ok [] (oweStart .cold u) else refuse .badState u)
  | _ => first | exact event_still h _ | exact request_ignored (portTakes_still h) _ _

/-- Settles O3, by the table of what a command can touch and by `exec_still`. -/
theorem commandsGoOnAndAHeldPartStandsStill : Obligations.CommandsGoOnAndAHeldPartStandsStill := by
  refine ⟨fun c s => ?_, fun c s h hpower hcold hwarm hpin hloss => ⟨exec_still h hpower hcold hwarm hpin hloss, ?_⟩⟩
  · obtain ⟨t, ht⟩ := exec_next c s
    exact ⟨t, ht, exec_pending ht⟩
  · simp [State.attentionLine, h]

end Sys2Proof.Machine

/-! PROOFS. What the shared operations leave as it was, as equations of the parts, drawn from their frames. -/

namespace Sys2Proof.Machine

/-! ### From a frame to equations -/

section Same

variable {ps : List Part} {s t : State}

theorem Within.requests (h : Within ps s t) (hp : .requests ∉ ps := by simp) :
    t.service.requests = s.service.requests ∧ t.service.nextId = s.service.nextId :=
  Prod.mk.inj (h .requests hp)

theorem Within.list (h : Within ps s t) (hp : .list ∉ ps := by simp) : t.service.list = s.service.list := h .list hp

theorem Within.count (h : Within ps s t) (hp : .count ∉ ps := by simp) : t.count = s.count := h .count hp

theorem Within.custody (h : Within ps s t) (hp : ∀ p ∈ ps, p ∉ [.table, .inbound, .releases, .totals, .day] := by simp) :
    t.custody = s.custody := by
  have same (p : Part) (hq : p ∈ [.table, .inbound, .releases, .totals, .day]) : p.Same s t :=
    h p (fun hps => hp p hps hq)
  have htable : t.custody.table = s.custody.table := same .table (by simp)
  have hinbound : t.custody.inbound = s.custody.inbound := same .inbound (by simp)
  have hreleases : t.custody.releases = s.custody.releases := same .releases (by simp)
  obtain ⟨htotals, hsaturated⟩ := Prod.mk.inj (same .totals (by simp))
  have hday : t.custody.day = s.custody.day := same .day (by simp)
  cases hs : s.custody
  cases ht : t.custody
  simp_all

theorem Within.member (h : Within ps s t) (hp : ∀ p ∈ ps, p ∉ [.station, .peers] := by simp) : t.member = s.member := by
  have hstation : { t.member with peers := unknownPeers } = { s.member with peers := unknownPeers } :=
    h .station (fun k => hp _ k (by simp))
  have hpeers : t.member.peers = s.member.peers := h .peers (fun k => hp _ k (by simp))
  cases hs : s.member
  cases ht : t.member
  simp_all

theorem Within.position (h : Within ps s t) (hp : ∀ p ∈ ps, p ∉ [.counts, .float] := by simp) :
    t.position = s.position := by
  have hcounts : t.position.counts = s.position.counts := h .counts (fun k => hp _ k (by simp))
  have hfloat : t.position.float = s.position.float := h .float (fun k => hp _ k (by simp))
  cases hs : s.position
  cases ht : t.position
  simp_all

theorem Within.service (h : Within ps s t) (hp : ∀ p ∈ ps, p ∉ [.requests, .list] := by simp) :
    t.service = s.service := by
  obtain ⟨hrequests, hnext⟩ := Prod.mk.inj (h .requests (fun k => hp _ k (by simp)))
  have hlist : t.service.list = s.service.list := h .list (fun k => hp _ k (by simp))
  cases hs : s.service
  cases ht : t.service
  simp_all

end Same

/-- The parts that no shared operation of the handover engine and the service unit writes. -/
abbrev CoreKept (s t : State) : Prop :=
  t.unit = s.unit ∧ t.clock = s.clock ∧ t.cfg = s.cfg ∧ t.safe = s.safe ∧ t.door = s.door ∧ t.lamps = s.lamps ∧
    t.port = s.port ∧ t.pending = s.pending

/-- The loop interface without the queue. -/
abbrev LineKept (s t : State) : Prop :=
  t.loop.beaconReady = s.loop.beaconReady ∧ t.loop.announceReady = s.loop.announceReady ∧
    t.loop.conflictReady = s.loop.conflictReady ∧ t.loop.sending = s.loop.sending ∧
    t.loop.faultScore = s.loop.faultScore ∧ t.loop.slotDriven = s.loop.slotDriven

theorem Within.core {ps : List Part} {s t : State} (h : Within ps s t)
    (hp : ∀ p ∈ ps, p ∉ [.unit, .clock, .cfg, .safe, .door, .lamps, .port, .pending] := by simp) : CoreKept s t := by
  have same (p : Part) (hq : p ∈ [.unit, .clock, .cfg, .safe, .door, .lamps, .port, .pending]) : p.Same s t :=
    h p (fun hps => hp p hps hq)
  exact ⟨same .unit (by simp), same .clock (by simp), same .cfg (by simp), same .safe (by simp), same .door (by simp),
    same .lamps (by simp), same .port (by simp), same .pending (by simp)⟩

theorem Within.line {ps : List Part} {s t : State} (h : Within ps s t) (hp : .line ∉ ps := by simp) : LineKept s t := by
  have hl : { t.loop with queue := [] } = { s.loop with queue := [] } := h .line hp
  simpa using hl

/-! ### Operations that only signal -/

/-- Only the queue and the attention record may have changed. -/
abbrev SignalsOnly (s t : State) : Prop :=
  CoreKept s t ∧ LineKept s t ∧ t.custody = s.custody ∧ t.member = s.member ∧ t.handoverCounter = s.handoverCounter ∧
    t.count = s.count ∧ t.position = s.position ∧ t.service = s.service

theorem Within.signalsOnly {s t : State} (h : Within [.queue, .attn] s t) : SignalsOnly s t :=
  ⟨h.core, h.line, h.custody, h.member, h .counter (by simp), h .count (by simp), h.position, h.service⟩

section Signals

variable (s : State)

@[simp] theorem chipFrame_signals (target : Nat) (p : Payload) : SignalsOnly s (chipFrame target p s) :=
  Within.signalsOnly (by simp)

@[simp] theorem alarmFrame_signals (k : AlarmKind) (a : AlarmAction) (tag : Nat) : SignalsOnly s (alarmFrame k a tag s) :=
  Within.signalsOnly (by simp)

@[simp] theorem raiseAlarm_signals (k : AlarmKind) : SignalsOnly s (raiseAlarm k s) := Within.signalsOnly (by simp)

@[simp] theorem raiseIf_signals (c : Bool) (r : Reason) : SignalsOnly s (raiseIf c r s) := Within.signalsOnly (by simp)

@[simp] theorem overdueCleared_signals (c : Container) : SignalsOnly s (overdueCleared c s) := Within.signalsOnly (by simp)

@[simp] theorem unresolvedCleared_signals (e : InboundEntry) : SignalsOnly s (unresolvedCleared e s) :=
  Within.signalsOnly (by simp)

@[simp] theorem sendNeed_signals (r : OwnRequest) : SignalsOnly s (sendNeed r s) := Within.signalsOnly (by simp)

@[simp] theorem sendWithdraw_signals (r : OwnRequest) (w : WithdrawReason) : SignalsOnly s (sendWithdraw r w s) :=
  Within.signalsOnly (by simp)

@[simp] theorem limitAlarm_signals (c : List (Nat × Nat)) : SignalsOnly s (limitAlarm c s) := Within.signalsOnly (by simp)

@[simp] theorem announceListed_signals (e : ServiceEntry) : SignalsOnly s (announceListed e s) :=
  Within.signalsOnly (by simp)

@[simp] theorem serverArrives_signals (role : Option Role) : SignalsOnly s (serverArrives role s) :=
  Within.signalsOnly (by simp)

@[simp] theorem resendNeeds_signals : SignalsOnly s (resendNeeds s) := Within.signalsOnly (by simp)

@[simp] theorem resendAlarms_signals : SignalsOnly s (resendAlarms s) := Within.signalsOnly (by simp)

end Signals

/-! ### Operations of the service unit -/

/-- Only the service unit, the queue and the attention record may have changed. -/
abbrev ServesOnly (s t : State) : Prop :=
  CoreKept s t ∧ LineKept s t ∧ t.custody = s.custody ∧ t.member = s.member ∧ t.handoverCounter = s.handoverCounter ∧
    t.count = s.count ∧ t.position = s.position

theorem Within.servesOnly {s t : State} (h : Within [.requests, .list, .queue, .attn] s t) : ServesOnly s t :=
  ⟨h.core, h.line, h.custody, h.member, h .counter (by simp), h .count (by simp), h.position⟩

/-- Besides, the Service List is as it was. -/
abbrev RequestsOnly (s t : State) : Prop := ServesOnly s t ∧ t.service.list = s.service.list

theorem Within.requestsOnly {s t : State} (h : Within [.requests, .queue, .attn] s t) : RequestsOnly s t :=
  ⟨(h.mono (by simp)).servesOnly, h .list (by simp)⟩

section Serves

variable (s : State)

@[simp] theorem handRaise_requests (k : NeedKind) (u : Urgency) (c : Composition) (v : Nat) :
    RequestsOnly s (handRaise k u c v s) := Within.requestsOnly (by simp)

@[simp] theorem autoRaise_requests (holds on : Bool) (k : NeedKind) (u : Urgency) (c : Composition) (v : Nat) :
    RequestsOnly s (autoRaise holds on k u c v s) := Within.requestsOnly (by simp)

@[simp] theorem autoRaises_requests : RequestsOnly s (autoRaises s) := Within.requestsOnly (by simp)

@[simp] theorem toldOffer_requests (gives : Bool) (peer purpose tag : Nat) :
    RequestsOnly s (toldOffer gives peer purpose tag s) := Within.requestsOnly (by simp)

@[simp] theorem toldSetback_requests (gives : Bool) (tag : Nat) : RequestsOnly s (toldSetback gives tag s) :=
  Within.requestsOnly (by simp)

@[simp] theorem closeRequest_requests (r : OwnRequest) : RequestsOnly s (closeRequest s r) :=
  Within.requestsOnly (by simp)

@[simp] theorem closeServed_requests (gives : Bool) (tag peer : Nat) : RequestsOnly s (closeServed gives tag peer s) :=
  Within.requestsOnly (by simp)

@[simp] theorem lapseRequest_requests (r : OwnRequest) : RequestsOnly s (lapseRequest s r) :=
  Within.requestsOnly (by simp)

@[simp] theorem claimantDeparts_requests (n : Nat) : RequestsOnly s (claimantDeparts n s) :=
  Within.requestsOnly (by simp)

@[simp] theorem removeServed_serves (ok : NeedKind → Bool) (requester purpose : Nat) :
    ServesOnly s (removeServed ok requester purpose s) := Within.servesOnly (by simp)

@[simp] theorem removeServed_requests (ok : NeedKind → Bool) (requester purpose : Nat) :
    (removeServed ok requester purpose s).service.requests = s.service.requests ∧
      (removeServed ok requester purpose s).service.nextId = s.service.nextId := ⟨rfl, rfl⟩

@[simp] theorem toldRelease_serves (tag peer purpose : Nat) : ServesOnly s (toldRelease tag peer purpose s) :=
  Within.servesOnly (by simp)

@[simp] theorem toldEntry_serves (e : InboundEntry) : ServesOnly s (toldEntry e s) := Within.servesOnly (by simp)

@[simp] theorem requesterDeparts_serves (n : Nat) : ServesOnly s (requesterDeparts n s) := Within.servesOnly (by simp)

@[simp] theorem requesterDeparts_requests (n : Nat) :
    (requesterDeparts n s).service.requests = s.service.requests ∧
      (requesterDeparts n s).service.nextId = s.service.nextId := by
  simp [requesterDeparts, setServiceList]

end Serves

/-! ### Totals, evaluations, containers and entries -/

section Records

variable (s : State)

/-- A Peer Table entry is written, and nothing else. -/
@[simp] theorem setPeer_keeps (n : Nat) (e : PeerEntry) :
    CoreKept s (setPeer n e s) ∧ (setPeer n e s).loop = s.loop ∧ (setPeer n e s).custody = s.custody ∧
      (setPeer n e s).member.state = s.member.state ∧ (setPeer n e s).handoverCounter = s.handoverCounter ∧
      (setPeer n e s).count = s.count ∧ (setPeer n e s).position = s.position ∧ (setPeer n e s).service = s.service ∧
      (setPeer n e s).attn = s.attn := by
  unfold setPeer
  split <;> simp [CoreKept]

/-- A total changes the totals, the mark and what signals it. -/
@[simp] theorem changeTotal_keeps (k : TotalName) (d : Int) :
    CoreKept s (changeTotal k d s) ∧ LineKept s (changeTotal k d s) ∧
      (changeTotal k d s).custody.table = s.custody.table ∧ (changeTotal k d s).custody.inbound = s.custody.inbound ∧
      (changeTotal k d s).custody.releases = s.custody.releases ∧ (changeTotal k d s).custody.day = s.custody.day ∧
      (changeTotal k d s).member = s.member ∧ (changeTotal k d s).handoverCounter = s.handoverCounter ∧
      (changeTotal k d s).count = s.count ∧ (changeTotal k d s).position = s.position ∧
      (changeTotal k d s).service = s.service := by
  have h : Within [.totals, .queue, .attn] s (changeTotal k d s) := by simp
  exact ⟨h.core, h.line, h .table (by simp), h .inbound (by simp), h .releases (by simp), h .day (by simp), h.member,
    h .counter (by simp), h .count (by simp), h.position, h.service⟩

/-- What a change of a total leaves in the books (R14). -/
theorem changeTotal_totals (k : TotalName) (d : Int) :
    (changeTotal k d s).custody.totals = s.custody.totals.put k (boundTotal (s.custody.totals.get k + d)) ∧
      (changeTotal k d s).custody.saturated = (s.custody.saturated || saturates (s.custody.totals.get k + d)) := by
  rw [changeTotal_frame]
  exact ⟨rfl, rfl⟩

/-- Only the position counts may have changed. -/
abbrev CountsOnly (s t : State) : Prop :=
  CoreKept s t ∧ LineKept s t ∧ t.loop.queue = s.loop.queue ∧ t.attn = s.attn ∧ t.custody = s.custody ∧
    t.member = s.member ∧ t.handoverCounter = s.handoverCounter ∧ t.count = s.count ∧
    t.position.float = s.position.float ∧ t.service = s.service

theorem Within.countsOnly {s t : State} (h : Within [.counts] s t) : CountsOnly s t :=
  ⟨h.core, h.line, h .queue (by simp), h .attn (by simp), h.custody, h.member, h .counter (by simp), h .count (by simp),
    h .float (by simp), h.service⟩

@[simp] theorem addPieces_keeps (good : List Nat) : CountsOnly s (addPieces good s) := Within.countsOnly (by simp)

@[simp] theorem takePieces_keeps (good : List Nat) : CountsOnly s (takePieces good s) := Within.countsOnly (by simp)

@[simp] theorem takeComp_keeps (c : Composition) : CountsOnly s (takeComp c s) := Within.countsOnly (by simp)

@[simp] theorem addComp_keeps (c : Composition) : CountsOnly s (addComp c s) := Within.countsOnly (by simp)

/-- An evaluation leaves the books, the position counts and the Service List (R122, R129). -/
@[simp] theorem evaluate_keeps :
    CoreKept s (evaluate s) ∧ LineKept s (evaluate s) ∧ (evaluate s).custody = s.custody ∧
      (evaluate s).member = s.member ∧ (evaluate s).handoverCounter = s.handoverCounter ∧
      (evaluate s).count = s.count ∧ (evaluate s).position.counts = s.position.counts ∧
      (evaluate s).service.list = s.service.list := by
  have h : Within [.float, .requests, .queue, .attn] s (evaluate s) := by simp
  exact ⟨h.core, h.line, h.custody, h.member, h .counter (by simp), h .count (by simp), h .counts (by simp),
    h .list (by simp)⟩

/-- Only the Custody Table, the queue and the attention record may have changed. -/
abbrev TableOnly (s t : State) : Prop :=
  CoreKept s t ∧ LineKept s t ∧ t.custody.inbound = s.custody.inbound ∧ t.custody.releases = s.custody.releases ∧
    t.custody.totals = s.custody.totals ∧ t.custody.saturated = s.custody.saturated ∧ t.custody.day = s.custody.day ∧
    t.member = s.member ∧ t.handoverCounter = s.handoverCounter ∧ t.count = s.count ∧ t.position = s.position ∧
    t.service = s.service

/-- Only the Inbound List, the queue and the attention record may have changed. -/
abbrev InboundOnly (s t : State) : Prop :=
  CoreKept s t ∧ LineKept s t ∧ t.custody.table = s.custody.table ∧ t.custody.releases = s.custody.releases ∧
    t.custody.totals = s.custody.totals ∧ t.custody.saturated = s.custody.saturated ∧ t.custody.day = s.custody.day ∧
    t.member = s.member ∧ t.handoverCounter = s.handoverCounter ∧ t.count = s.count ∧ t.position = s.position ∧
    t.service = s.service

theorem Within.inboundOnly {s t : State} (h : Within [.inbound, .queue, .attn] s t) : InboundOnly s t := by
  obtain ⟨htotals, hsaturated⟩ := Prod.mk.inj (h .totals (by simp))
  exact ⟨h.core, h.line, h .table (by simp), h .releases (by simp), htotals, hsaturated, h .day (by simp), h.member,
    h .counter (by simp), h .count (by simp), h.position, h.service⟩

theorem Within.tableOnly {s t : State} (h : Within [.table, .queue, .attn] s t) : TableOnly s t := by
  obtain ⟨htotals, hsaturated⟩ := Prod.mk.inj (h .totals (by simp))
  exact ⟨h.core, h.line, h .inbound (by simp), h .releases (by simp), htotals, hsaturated, h .day (by simp), h.member,
    h .counter (by simp), h .count (by simp), h.position, h.service⟩

@[simp] theorem becomeOverdue_keeps (c : Container) : TableOnly s (becomeOverdue c s) := Within.tableOnly (by simp)

@[simp] theorem dropDeferred_keeps (tag : Nat) : TableOnly s (dropDeferred tag s) := Within.tableOnly (by simp)

@[simp] theorem releaseLock_keeps (tag : Nat) : TableOnly s (releaseLock tag s) := Within.tableOnly (by simp)

@[simp] theorem applyRecount_keeps (tag : Nat) (p : TallyPart) (r : ReconciliationPart) :
    TableOnly s (applyRecount tag p r s) := Within.tableOnly (by simp)

@[simp] theorem becomeUnresolved_keeps (e : InboundEntry) : InboundOnly s (becomeUnresolved e s) :=
  Within.inboundOnly (by simp)

@[simp] theorem queryUnanswered_keeps (e : InboundEntry) : InboundOnly s (queryUnanswered e s) :=
  Within.inboundOnly (by simp)

@[simp] theorem queryReported_keeps (tag number : Nat) (ack : Bool) : InboundOnly s (queryReported tag number ack s) :=
  Within.inboundOnly (by simp)

@[simp] theorem answerNotKnown_keeps (e : InboundEntry) : InboundOnly s (answerNotKnown e s) :=
  Within.inboundOnly (by simp)

end Records

/-! ### The end of a batch -/

/-- The tally of the batch in progress (R102 to R106). -/
def endedTally (job : CountJob) (s : State) : TallyPart := tallyPart s.cfg s.count.fifo job.expected

/-- The batch in progress ends damaged (R93). -/
def endedDamaged (job : CountJob) (figure : Option Nat) (s : State) : Bool :=
  (batchDamage s.cfg s.count (endedTally job s) figure).damaged

/-- The reconciliation of an undamaged RECOUNT or UNPACK with the container it has locked (R95, R110). -/
def endedRecon (job : CountJob) (figure : Option Nat) (s : State) : Option ReconciliationPart :=
  if isStanding job.mode || endedDamaged job figure s then none
  else (s.lockedTarget job.tag).map (fun c => reconciliation s.cfg c (endedTally job s))

/-- The Count Result of the batch (R100). -/
def endedResult (job : CountJob) (cause : EndCause) (figure : Option Nat) (s : State) : CountResult :=
  { mode := job.mode, tag := job.tag, batchNumber := s.count.batchNumber,
    outcome := outcomeAfter job.mode cause (endedDamaged job figure s),
    batch := some (batchPart cause figure (batchDamage s.cfg s.count (endedTally job s) figure) s.count.batch),
    tally := some (endedTally job s), recon := endedRecon job figure s,
    position := batchPosition job.mode (endedDamaged job figure s) (endedTally job s) s }

/-- The count engine once the batch has ended (R88, R94, R95, R100). -/
def endedEngine (job : CountJob) (cause : EndCause) (figure : Option Nat) (s : State) : CountEngine :=
  { s.count with state := stateAfter job.mode cause, batch := noBatch, fifo := [], noRecordEnds := none,
                 result := some (endedResult job cause figure s) }

/-- The end of a batch writes the count engine, applies the batch and raises what tells of it (R93, R95). -/
theorem endBatch_cases (cause : EndCause) (figure : Option Nat) (s : State) :
    (s.count.job = none ∧ endBatch cause figure s = s) ∨
    ∃ job, s.count.job = some job ∧ endBatch cause figure s =
      raiseIf (endedDamaged job figure s) .countDamaged (raise .countDone
        (applyBatch job (endedDamaged job figure s) (endedTally job s) (endedRecon job figure s)
          (setCount (endedEngine job cause figure s) s))) := by
  cases h : s.count.job with
  | none => exact .inl ⟨rfl, by simp [endBatch, h]⟩
  | some job =>
    refine .inr ⟨job, rfl, ?_⟩
    unfold endBatch
    rw [h]
    rfl

end Sys2Proof.Machine

/-! PROOFS. The service unit and the count engine through every step (R88, R89, R92, R96, R132, R142; O59). -/

namespace Sys2Proof.Machine

/-! ### The two halves of the service unit -/

/-- Own Requests and next request id are sound (R132). -/
structure SoundRequests (v : ServiceUnit) : Prop where
  room : v.requests.length ≤ Config.requestCap
  ids : (v.requests.map (·.id)).Nodup
  idRange : ∀ r ∈ v.requests, 1 ≤ r.id ∧ r.id ≤ 255
  nextRange : 1 ≤ v.nextId ∧ v.nextId ≤ 255

/-- The Service List is sound (R142). -/
structure SoundList (l : List ServiceEntry) : Prop where
  room : l.length ≤ Config.serviceCap
  keys : (l.map (fun e => (e.requester, e.id))).Nodup

theorem serviceInv_iff (s : State) : ServiceInv s ↔ SoundRequests s.service ∧ SoundList s.service.list :=
  ⟨fun ⟨hroom, hids, hrange, hnext, hlist, hkeys⟩ => ⟨⟨hroom, hids, hrange, hnext⟩, ⟨hlist, hkeys⟩⟩,
    fun ⟨⟨hroom, hids, hrange, hnext⟩, ⟨hlist, hkeys⟩⟩ => ⟨hroom, hids, hrange, hnext, hlist, hkeys⟩⟩

/-- Only the requests and the next id matter. -/
theorem soundRequests_congr {v w : ServiceUnit} (hr : w.requests = v.requests) (hn : w.nextId = v.nextId) :
    SoundRequests w ↔ SoundRequests v := by
  constructor <;> rintro ⟨hroom, hids, hrange, hnext⟩ <;> constructor <;> simp_all

theorem SoundRequests.of_requests {v w : ServiceUnit} (h : SoundRequests v) (hr : w.requests = v.requests)
    (hn : w.nextId = v.nextId) : SoundRequests w := (soundRequests_congr hr hn).mpr h

/-! ### Own Requests -/

section OwnRequests

variable {s : State}

/-- Requests leave, the others stay. -/
theorem SoundRequests.sublist {v : ServiceUnit} (h : SoundRequests v) {l : List OwnRequest} (hl : l.Sublist v.requests) :
    SoundRequests { v with requests := l } :=
  ⟨hl.length_le.trans h.room, h.ids.sublist (hl.map _), fun r hr => h.idRange r (hl.subset hr), h.nextRange⟩

/-- Requests change and keep their ids. -/
theorem SoundRequests.map {v : ServiceUnit} (h : SoundRequests v) {f : OwnRequest → OwnRequest} (hf : ∀ r, (f r).id = r.id) :
    SoundRequests { v with requests := v.requests.map f } := by
  refine ⟨by simpa using h.room, by simpa [Function.comp_def, hf] using h.ids, fun r hr => ?_, h.nextRange⟩
  obtain ⟨q, hq, rfl⟩ := List.mem_map.mp hr
  rw [hf]
  exact h.idRange q hq

theorem updateRequest_sound (h : SoundRequests s.service) (id : Nat) {f : OwnRequest → OwnRequest} (hf : ∀ r, (f r).id = r.id) :
    SoundRequests (updateRequest id f s).service := h.map (fun r => by split <;> simp [hf])

theorem removeRequest_sound (h : SoundRequests s.service) (id : Nat) : SoundRequests (removeRequest id s).service :=
  h.sublist List.filter_sublist

theorem toldOffer_sound (h : SoundRequests s.service) (gives : Bool) (peer purpose tag : Nat) :
    SoundRequests (toldOffer gives peer purpose tag s).service := h.map (fun r => by split <;> rfl)

theorem toldSetback_sound (h : SoundRequests s.service) (gives : Bool) (tag : Nat) :
    SoundRequests (toldSetback gives tag s).service := h.map (fun r => by split <;> rfl)

/-- What each operation of a run keeps, the run keeps. -/
theorem foldl_keeps {α : Type} {P : State → Prop} {f : State → α → State} (hf : ∀ u a, P u → P (f u a)) (l : List α)
    (h : P s) : P (l.foldl f s) := by
  induction l generalizing s with
  | nil => exact h
  | cons a l ih => exact ih (hf s a h)

/-! #### The id of a new request (R132) -/

theorem nextRequestId_range {id : Nat} (h : 1 ≤ id ∧ id ≤ 255) :
    1 ≤ nextRequestId id ∧ nextRequestId id ≤ 255 := by
  unfold nextRequestId
  split <;> omega

theorem freeId_range (l : List OwnRequest) (n : Nat) {id : Nat} (h : 1 ≤ id ∧ id ≤ 255) :
    1 ≤ freeId l n id ∧ freeId l n id ≤ 255 := by
  induction n generalizing id with
  | zero => exact h
  | succ n ih =>
    unfold freeId
    split
    · exact ih (nextRequestId_range h)
    · exact h

/-- A search that ends on an id in use has passed only ids in use. -/
theorem freeId_used {l : List OwnRequest} {n : Nat} {id : Nat} (h : freeId l n id ∈ l.map (·.id)) :
    ∀ k ≤ n, nextRequestId^[k] id ∈ l.map (·.id) := by
  induction n generalizing id with
  | zero =>
    intro k hk
    obtain rfl : k = 0 := by omega
    exact h
  | succ n ih =>
    unfold freeId at h
    split at h
    · next hused =>
      have hid : id ∈ l.map (·.id) := by simpa [List.any_eq_true] using hused
      intro k hk
      cases k with
      | zero => exact hid
      | succ k => exact ih h k (by omega)
    · next hfree => exact absurd (by simpa using h) (by simpa [List.any_eq_true] using hfree)

/-- Four ids in a row are distinct. -/
theorem nextRequestIds_nodup {id : Nat} (h : 1 ≤ id ∧ id ≤ 255) :
    ((List.range 4).map (fun k => nextRequestId^[k] id)).Nodup := by
  simp only [List.range, List.range.loop, List.map, Function.iterate_succ, Function.iterate_zero, Function.comp, id_eq]
  unfold nextRequestId
  simp only [List.nodup_cons, List.mem_cons, List.not_mem_nil, or_false, not_or, List.nodup_nil, not_false_eq_true,
    and_true]
  split_ifs <;> omega

/-- Among three requests the search finds a free id. -/
theorem newId_free (h : SoundRequests s.service) (hroom : s.service.requests.length < Config.requestCap) :
    s.newId ∉ s.service.requests.map (·.id) := by
  intro hused
  have hsub : (List.range 4).map (fun k => nextRequestId^[k] s.service.nextId) ⊆ s.service.requests.map (·.id) := by
    intro x hx
    obtain ⟨k, hk, rfl⟩ := List.mem_map.mp hx
    exact freeId_used hused k (by simp at hk; simp [Config.requestCap]; omega)
  have hlen := (List.subperm_of_subset (nextRequestIds_nodup h.nextRange) hsub).length_le
  simp only [List.length_map, List.length_range, Config.requestCap] at hlen hroom
  omega

/-- A request joins while fewer than four exist (R132). -/
theorem addRequest_sound (h : SoundRequests s.service) (hroom : s.service.requests.length < Config.requestCap)
    {r : OwnRequest} (hr : r.id = s.newId) : SoundRequests (addRequest r s).service := by
  have hrange : 1 ≤ r.id ∧ r.id ≤ 255 := hr ▸ freeId_range _ _ h.nextRange
  refine ⟨by simpa using hroom, ?_, ?_, nextRequestId_range hrange⟩
  · have hfree := newId_free h hroom
    rw [addRequest_requests, List.map_append, List.nodup_append]
    refine ⟨h.ids, by simp, ?_⟩
    rintro _ ha _ hb rfl
    rw [List.map_singleton, List.mem_singleton] at hb
    exact hfree (hr ▸ hb ▸ ha)
  · intro q hq
    rcases List.mem_append.mp hq with hq | hq
    · exact h.idRange q hq
    · obtain rfl := List.mem_singleton.mp hq
      exact hrange

theorem handRaise_sound (h : SoundRequests s.service) (k : NeedKind) (u : Urgency) (c : Composition) (v : Nat) :
    SoundRequests (handRaise k u c v s).service := by
  unfold handRaise
  split
  · exact h
  · next hroom =>
    simp only [raise_service, sendNeed_signals]
    exact addRequest_sound h (not_le.mp hroom) rfl

theorem autoRaise_sound (h : SoundRequests s.service) (holds on : Bool) (k : NeedKind) (u : Urgency) (c : Composition)
    (v : Nat) : SoundRequests (autoRaise holds on k u c v s).service := by
  unfold autoRaise
  split
  · exact handRaise_sound h k u c v
  · exact h

theorem evaluate_sound (h : SoundRequests s.service) : SoundRequests (evaluate s).service := by
  unfold evaluate autoRaises
  dsimp only
  split
  · exact autoRaise_sound (autoRaise_sound (autoRaise_sound (by simpa using h) ..) ..) ..
  · simpa using h

/-! #### Handovers -/

theorem closeRequest_sound (h : SoundRequests s.service) (r : OwnRequest) : SoundRequests (closeRequest s r).service := by
  unfold closeRequest
  simpa using removeRequest_sound h r.id

theorem closeServed_sound (h : SoundRequests s.service) (gives : Bool) (tag peer : Nat) :
    SoundRequests (closeServed gives tag peer s).service :=
  foldl_keeps (P := fun u => SoundRequests u.service) (fun _ r hu => closeRequest_sound hu r) _ h

theorem toldRelease_sound (h : SoundRequests s.service) (tag peer purpose : Nat) :
    SoundRequests (toldRelease tag peer purpose s).service := by
  unfold toldRelease
  rw [soundRequests_congr (removeServed_requests ..).1 (removeServed_requests ..).2]
  exact toldSetback_sound (closeServed_sound h ..) ..

theorem toldEntry_sound (h : SoundRequests s.service) (e : InboundEntry) : SoundRequests (toldEntry e s).service := by
  unfold toldEntry
  rw [soundRequests_congr (removeServed_requests ..).1 (removeServed_requests ..).2]
  exact closeServed_sound h ..

theorem lapseRequest_sound (h : SoundRequests s.service) (r : OwnRequest) : SoundRequests (lapseRequest s r).service := by
  unfold lapseRequest
  simpa using updateRequest_sound h r.id (f := reopenRequest) (fun _ => rfl)

theorem peerDeparts_sound (h : SoundRequests s.service) (n : Nat) : SoundRequests (peerDeparts n s).service := by
  unfold peerDeparts
  rw [soundRequests_congr (requesterDeparts_requests ..).1 (requesterDeparts_requests ..).2]
  refine foldl_keeps (P := fun u => SoundRequests u.service) (fun _ r hu => lapseRequest_sound hu r) _ ?_
  simpa using h

theorem recordOffer_sound (h : SoundRequests s.service) (c : Container) (receiver purpose : Nat) :
    SoundRequests (recordOffer c receiver purpose s).service := by
  unfold recordOffer
  exact toldOffer_sound (by simpa using h) ..

theorem offerReported_sound (h : SoundRequests s.service) (tag number : Nat) (ack : Bool) :
    SoundRequests (offerReported tag number ack s).service := by
  unfold offerReported
  dsimp only
  repeat' split
  all_goals first | simpa using h | exact toldSetback_sound (by simpa using h) ..

theorem makeChipOffer_sound (h : SoundRequests s.service) (c : Container) (receiver purpose : Nat) :
    SoundRequests (makeChipOffer c receiver purpose s).service := by
  unfold makeChipOffer
  dsimp only
  split
  · simpa using recordOffer_sound h c receiver purpose
  · exact offerReported_sound (by simpa using recordOffer_sound h c receiver purpose) ..

theorem settleDeferred_sound (h : SoundRequests s.service) (tag : Nat) (undamaged : Bool) :
    SoundRequests (settleDeferred tag undamaged s).service := by
  unfold settleDeferred
  dsimp only
  repeat' split
  all_goals first | simpa using h | exact makeChipOffer_sound (by simpa using h) ..

theorem completeEntry_sound (h : SoundRequests s.service) (e : InboundEntry) : SoundRequests (completeEntry e s).service := by
  unfold completeEntry
  simpa using toldEntry_sound (by simpa using h) e

theorem takenReported_sound (h : SoundRequests s.service) (tag : Nat) (ack : Bool) :
    SoundRequests (takenReported tag ack s).service := by
  unfold takenReported
  dsimp only
  repeat' split
  all_goals first | simpa using h | exact completeEntry_sound h _

@[simp] theorem claimReported_requests (requester id : Nat) (ack : Bool) (s : State) :
    (claimReported requester id ack s).service.requests = s.service.requests ∧
      (claimReported requester id ack s).service.nextId = s.service.nextId := by
  unfold claimReported
  repeat' split
  all_goals exact ⟨rfl, rfl⟩

theorem report_sound (h : SoundRequests s.service) (f : QueuedFrame) (ack : Bool) :
    SoundRequests (report f ack s).service := by
  unfold report
  split
  · exact offerReported_sound h ..
  · exact takenReported_sound h ..
  · simpa using h
  · rwa [soundRequests_congr (claimReported_requests ..).1 (claimReported_requests ..).2]
  all_goals exact h

theorem emptyQueue_sound (h : SoundRequests s.service) : SoundRequests (emptyQueue s).service :=
  foldl_keeps (P := fun u => SoundRequests u.service) (fun _ f hu => report_sound hu f false) _ h

theorem enterDuplicate_sound (h : SoundRequests s.service) (cause : DuplicateCause) (serial : Option (BitVec 32)) :
    SoundRequests (enterDuplicate cause serial s).service := by
  unfold enterDuplicate
  exact emptyQueue_sound (by simpa [quietLoop] using h)

theorem ownNumberHeard_sound (h : SoundRequests s.service) (f : Frame) : SoundRequests (ownNumberHeard f s).service := by
  unfold ownNumberHeard
  repeat' split
  all_goals first
    | exact h
    | exact enterDuplicate_sound h ..
    | simpa using h

theorem lapseEntry_sound (h : SoundRequests s.service) (e : InboundEntry) : SoundRequests (lapseEntry e s).service := by
  unfold lapseEntry
  simpa using toldSetback_sound (s := removeInbound e.tag s) h false e.tag

theorem returnToHeld_sound (h : SoundRequests s.service) (c : Container) (r : LastResult) (o : NoteOutcome) :
    SoundRequests (returnToHeld c r o s).service := by
  unfold returnToHeld
  simpa using toldSetback_sound (by simpa using h) true c.tag

theorem releaseContainer_sound (h : SoundRequests s.service) (c : Container) (f : HandoverFields) :
    SoundRequests (releaseContainer c f s).service := by
  unfold releaseContainer
  simpa using toldRelease_sound (by simpa using h) c.tag f.peer f.purpose

/-! #### Frames heard -/

theorem hearRefuse_sound (h : SoundRequests s.service) (sender : Nat) (p : RefusePayload) :
    SoundRequests (hearRefuse sender p s).1.service := by
  have window (tag : Nat) (r : LastResult) (o : NoteOutcome) : SoundRequests (applyWindow tag r o s).service := by
    unfold applyWindow
    exact toldSetback_sound (by simpa using h) ..
  unfold hearRefuse hearRefused hearDeclined hearTooLate hearNotOffered acted notActed
  repeat' split
  all_goals first | exact h | exact window .. | exact returnToHeld_sound h ..

theorem placeOffer_sound (h : SoundRequests s.service) (sender : Nat) (p : OfferPayload) :
    SoundRequests (placeOffer sender p s).1.service := by
  unfold placeOffer registerOffer updateOffered offerTold refuseOffer acted notActed
  repeat' split
  · exact toldOffer_sound (by simpa using h) ..
  · simpa using h
  · exact toldOffer_sound (by simpa using h) ..

theorem hearOffer_sound (h : SoundRequests s.service) (sender : Nat) (p : OfferPayload) :
    SoundRequests (hearOffer sender p s).1.service := by
  unfold hearOffer offerNumbered
  dsimp only
  repeat' split
  iterate 4 simpa [refuseOffer, notActed] using h
  exact placeOffer_sound (foldl_keeps (P := fun u => SoundRequests u.service) (fun _ e hu => lapseEntry_sound hu e) _ h) ..

theorem hearAnswer_sound (h : SoundRequests s.service) (sender : Nat) (p : AnswerPayload) :
    SoundRequests (hearAnswer sender p s).1.service := by
  unfold hearAnswer answerHeld answerReleased resolveEntry acted notActed
  repeat' split
  all_goals first | simpa using h | simpa using completeEntry_sound h _

theorem hearRecall_sound (h : SoundRequests s.service) (sender : Nat) (p : TagNumber) :
    SoundRequests (hearRecall sender p s).1.service := by
  unfold hearRecall recallTooLate giveBack acted notActed
  repeat' split
  all_goals first | simpa using h | simpa using toldSetback_sound (s := removeInbound p.tag s) h false p.tag

theorem hearClaim_sound (h : SoundRequests s.service) (sender : Nat) (p : ClaimPayload) :
    SoundRequests (hearClaim sender p s).1.service := by
  unfold hearClaim awardRequest acted notActed
  split
  · exact h
  · next r _ =>
    simpa [dropNeed] using
      updateRequest_sound h r.id (f := fun r => { r with phase := .claimed sender 0 }) (fun _ => rfl)

/-- AWARD, NEED and WITHDRAW act on the Service List alone (R144, R146). -/
theorem requests_of_listHandlers (f : Frame) (hf : (∃ p, f.payload = .award p) ∨ (∃ p, f.payload = .need p) ∨
    (∃ p, f.payload = .withdraw p)) (hs : SoundRequests s.service) : SoundRequests (handle f s).1.service := by
  have h : Within [.list, .attn] s (handle f s).1 := by
    unfold handle
    rcases hf with ⟨p, hp⟩ | ⟨p, hp⟩ | ⟨p, hp⟩ <;> rw [hp]
    exacts [within_hearAward _ p, within_hearNeed _ p, within_hearWithdraw _ p]
  obtain ⟨hr, hn⟩ := h.requests
  rwa [soundRequests_congr hr hn]

theorem handle_sound (h : SoundRequests s.service) (f : Frame) : SoundRequests (handle f s).1.service := by
  rcases hp : f.payload with p | p | p | p | p | p | p | p | p | p | p | p | p | p | p
  case award => exact requests_of_listHandlers f (.inl ⟨p, hp⟩) h
  case need => exact requests_of_listHandlers f (.inr (.inl ⟨p, hp⟩)) h
  case withdraw => exact requests_of_listHandlers f (.inr (.inr ⟨p, hp⟩)) h
  all_goals unfold handle; rw [hp]
  case alarm => rw [(within_hearAlarm _ _).service]; exact h
  case taken =>
    change SoundRequests (hearTaken _ _ _).1.service
    unfold hearTaken acted notActed
    split
    · exact releaseContainer_sound h ..
    · simpa using h
  case recallOk =>
    change SoundRequests (hearRecallOk _ _ _).1.service
    unfold hearRecallOk acted notActed
    split
    · exact returnToHeld_sound h ..
    · exact h
  case refuse => exact hearRefuse_sound h ..
  case answer => exact hearAnswer_sound h ..
  case offer => exact hearOffer_sound h ..
  · -- RECALL, whose constructor's name is a keyword of Mathlib.
    exact hearRecall_sound h ..
  case query => rw [(within_hearQuery _ _).service]; exact h
  case claim => exact hearClaim_sound h ..
  all_goals exact h

theorem deliverTargeted_sound (h : SoundRequests s.service) (f : Frame) : SoundRequests (deliverTargeted f s).service := by
  unfold deliverTargeted deliver
  dsimp only
  repeat' split
  · exact handle_sound h f
  · exact handle_sound h f
  · exact h

theorem receive_sound (h : SoundRequests s.service) (f : Frame) : SoundRequests (receive f s).service := by
  unfold receive hearOwnNumber hearPeer
  repeat' split
  · exact h
  · exact h
  · exact ownNumberHeard_sound (s := lineTaken s) h f
  · exact deliverTargeted_sound (ownNumberHeard_sound (s := lineTaken s) h f) f
  · refine deliverTargeted_sound ?_ f
    have htrack : Within [.peers, .queue, .attn] (lineTaken s) (trackPeer f (lineTaken s)) := by simp
    rw [htrack.service]
    exact h

end OwnRequests

/-! ### The Service List -/

section ServiceList

variable {s : State}

theorem SoundList.sublist {l l' : List ServiceEntry} (h : SoundList l) (hl : l'.Sublist l) : SoundList l' :=
  ⟨hl.length_le.trans h.room, h.keys.sublist (hl.map _)⟩

/-- Entries change and keep their keys. -/
theorem SoundList.map {l : List ServiceEntry} (h : SoundList l) {f : ServiceEntry → ServiceEntry}
    (hf : ∀ e, (f e).requester = e.requester ∧ (f e).id = e.id) : SoundList (l.map f) :=
  ⟨by simpa using h.room, by simpa [Function.comp_def, hf] using h.keys⟩

/-- An entry with a key of its own joins a list with room. -/
theorem SoundList.append {l : List ServiceEntry} (h : SoundList l) {e : ServiceEntry} (hroom : l.length < Config.serviceCap)
    (hnew : ∀ d ∈ l, ¬ (d.requester = e.requester ∧ d.id = e.id)) : SoundList (l ++ [e]) := by
  refine ⟨by simpa using hroom, ?_⟩
  rw [List.map_append, List.nodup_append]
  refine ⟨h.keys, by simp, ?_⟩
  rintro _ ha _ hb rfl
  obtain ⟨d, hd, hkey⟩ := List.mem_map.mp ha
  rw [List.map_singleton, List.mem_singleton] at hb
  exact hnew d hd (Prod.mk.inj (hkey.trans hb))

theorem updateService_sound (h : SoundList s.service.list) (requester id : Nat) {f : ServiceEntry → ServiceEntry}
    (hf : ∀ e, (f e).requester = e.requester ∧ (f e).id = e.id) :
    SoundList (updateService requester id f s).service.list := h.map (fun e => by split <;> simp [hf])

theorem removeService_sound (h : SoundList s.service.list) (requester id : Nat) :
    SoundList (removeService requester id s).service.list := h.sublist List.filter_sublist

theorem toldEntry_list_sound (h : SoundList s.service.list) (e : InboundEntry) : SoundList (toldEntry e s).service.list :=
  SoundList.sublist (by simpa using h) List.filter_sublist

theorem toldRelease_list_sound (h : SoundList s.service.list) (tag peer purpose : Nat) :
    SoundList (toldRelease tag peer purpose s).service.list :=
  SoundList.sublist (by simpa using h) List.filter_sublist

theorem completeEntry_list_sound (h : SoundList s.service.list) (e : InboundEntry) :
    SoundList (completeEntry e s).service.list := by
  unfold completeEntry
  simpa using toldEntry_list_sound (by simpa using h) e

theorem claimReported_list_sound (h : SoundList s.service.list) (requester id : Nat) (ack : Bool) :
    SoundList (claimReported requester id ack s).service.list := by
  unfold claimReported
  repeat' split
  · exact h
  · exact h
  · exact updateService_sound h requester id (fun _ => ⟨rfl, rfl⟩)
  · exact removeService_sound h requester id

theorem report_list_sound (h : SoundList s.service.list) (f : QueuedFrame) (ack : Bool) :
    SoundList (report f ack s).service.list := by
  unfold report
  split
  · next p _ =>
    have hw : Within [.table, .requests, .queue, .attn] s (offerReported p.tag p.number ack s) := by simp
    rwa [show _ = s.service.list from hw .list (by simp)]
  · unfold takenReported
    dsimp only
    repeat' split
    all_goals first | simpa using h | exact completeEntry_list_sound h _
  · simpa using h
  · exact claimReported_list_sound h ..
  all_goals exact h

theorem emptyQueue_list_sound (h : SoundList s.service.list) : SoundList (emptyQueue s).service.list :=
  foldl_keeps (P := fun u => SoundList u.service.list) (fun _ f hu => report_list_sound hu f false) _ h

theorem enterDuplicate_list_sound (h : SoundList s.service.list) (cause : DuplicateCause) (serial : Option (BitVec 32)) :
    SoundList (enterDuplicate cause serial s).service.list := by
  unfold enterDuplicate
  exact emptyQueue_list_sound (by simpa [quietLoop] using h)

theorem ownNumberHeard_list_sound (h : SoundList s.service.list) (f : Frame) :
    SoundList (ownNumberHeard f s).service.list := by
  unfold ownNumberHeard
  repeat' split
  all_goals first
    | exact h
    | exact enterDuplicate_list_sound h ..
    | simpa using h

/-! #### Frames heard -/

/-- A lookup finds an entry of the list with the key. -/
theorem service?_some {requester id : Nat} {e : ServiceEntry} (h : s.service? requester id = some e) :
    e ∈ s.service.list ∧ e.requester = requester ∧ e.id = id := by
  have hkey := List.find?_some h
  simp only [Bool.and_eq_true, beq_iff_eq] at hkey
  exact ⟨List.mem_of_find?_eq_some h, hkey⟩

theorem service?_none {requester id : Nat} (h : s.service? requester id = none) :
    ∀ d ∈ s.service.list, ¬ (d.requester = requester ∧ d.id = id) := by
  intro d hd
  simpa using List.find?_eq_none.mp h d hd

theorem hearAward_sound (h : SoundList s.service.list) (sender : Nat) (p : AwardPayload) :
    SoundList (hearAward sender p s).1.service.list := by
  unfold hearAward awardedHere awardedElsewhere awardedAnew acted notActed
  split
  · repeat' split
    all_goals first
      | exact h
      | exact removeService_sound h ..
      | exact updateService_sound h _ _ (fun _ => ⟨rfl, rfl⟩)
  · next hnone =>
    repeat' split
    · next hroom => exact h.append hroom.1 (service?_none hnone)
    all_goals exact h

/-- An entry is listed in a list with room and without its key. -/
theorem listEntry_sound (h : SoundList s.service.list) {e : ServiceEntry} (hroom : s.service.list.length < Config.serviceCap)
    (hnew : ∀ d ∈ s.service.list, ¬ (d.requester = e.requester ∧ d.id = e.id)) :
    SoundList (listEntry e s).service.list := by
  unfold listEntry
  simpa using h.append (e := markListed s e) hroom hnew

theorem lastListed_mem {e : ServiceEntry} (h : s.lastListed = some e) : e ∈ s.service.list := by
  have hmem := List.mem_filter.mp (List.mem_of_getLast? h)
  simp only [serviceOrder, List.mem_append, List.mem_filter] at hmem
  exact hmem.1.elim And.left And.left

/-- The entry that a NEED displaces leaves a place (R144). -/
theorem removeService_length {e : ServiceEntry} (he : e ∈ s.service.list) :
    (removeService e.requester e.id s).service.list.length < s.service.list.length :=
  List.length_filter_lt_length_iff_exists.mpr ⟨e, he, by simp⟩

theorem needKnown_sound (h : SoundList s.service.list) (e : ServiceEntry) (p : NeedPayload) :
    SoundList (needKnown p e s).service.list := by
  unfold needKnown relistEntry
  split
  · simp only [announceListed_signals, raise_service]
    refine h.map (fun d => ?_)
    split
    · next hkey =>
      simp only [Bool.and_eq_true, beq_iff_eq] at hkey
      exact ⟨hkey.1.symm, hkey.2.symm⟩
    · exact ⟨rfl, rfl⟩
  · exact updateService_sound h _ _ (fun _ => ⟨rfl, rfl⟩)

theorem hearNeed_sound (h : SoundList s.service.list) (sender : Nat) (p : NeedPayload) :
    SoundList (hearNeed sender p s).1.service.list := by
  unfold hearNeed needFull acted notActed
  dsimp only
  split
  · exact h
  split
  · exact needKnown_sound h _ p
  next hnone =>
  split
  · next hroom => exact listEntry_sound h hroom (service?_none hnone)
  split
  · exact h
  next e he =>
  have hmem : e ∈ s.service.list := by
    obtain ⟨hlast, -⟩ := Option.filter_eq_some_iff.mp he
    exact lastListed_mem hlast
  refine listEntry_sound (s := removeService e.requester e.id (raise .serviceListFull s)) (removeService_sound h ..)
    ((removeService_length hmem).trans_le h.room) ?_
  intro d hd
  exact service?_none hnone d (List.mem_filter.mp hd).1

theorem hearWithdraw_sound (h : SoundList s.service.list) (sender : Nat) (p : WithdrawPayload) :
    SoundList (hearWithdraw sender p s).1.service.list := by
  unfold hearWithdraw acted notActed
  split
  · exact h
  · simpa using removeService_sound h ..

theorem handle_list_sound (h : SoundList s.service.list) (f : Frame) : SoundList (handle f s).1.service.list := by
  unfold handle
  split
  · rwa [(within_hearAlarm _ _).list]
  · unfold hearTaken releaseContainer acted notActed
    split
    · simpa using toldRelease_list_sound (by simpa using h) ..
    · simpa using h
  · rwa [(within_hearRecallOk _ _).list]
  · rwa [(within_hearRefuse _ _).list]
  · unfold hearAnswer answerHeld answerReleased resolveEntry acted notActed
    repeat' split
    all_goals first | simpa using h | simpa using completeEntry_list_sound h _
  · rwa [(within_hearOffer _ _).list]
  · rwa [(within_hearRecall _ _).list]
  · rwa [(within_hearQuery _ _).list]
  · rwa [(within_hearClaim _ _).list]
  · exact hearAward_sound h ..
  · exact hearNeed_sound h ..
  · exact hearWithdraw_sound h ..
  all_goals exact h

theorem deliverTargeted_list_sound (h : SoundList s.service.list) (f : Frame) :
    SoundList (deliverTargeted f s).service.list := by
  unfold deliverTargeted deliver
  dsimp only
  repeat' split
  · exact handle_list_sound h f
  · exact handle_list_sound h f
  · exact h

theorem receive_list_sound (h : SoundList s.service.list) (f : Frame) : SoundList (receive f s).service.list := by
  unfold receive hearOwnNumber hearPeer
  repeat' split
  · exact h
  · exact h
  · exact ownNumberHeard_list_sound (s := lineTaken s) h f
  · exact deliverTargeted_list_sound (ownNumberHeard_list_sound (s := lineTaken s) h f) f
  · refine deliverTargeted_list_sound ?_ f
    have htrack : Within [.peers, .queue, .attn] (lineTaken s) (trackPeer f (lineTaken s)) := by simp
    rw [htrack.list]
    exact h

end ServiceList

/-! ### Every command keeps the service unit -/

section Commands

variable {s t : State}

/-- A request keeps what its run keeps in a new select period. -/
theorem request_keeps {α : Type} {P : State → Prop} {b : Body α} {run : α → State → State}
    (h : request b s run = .next t) (hs : P s) (hrefused : P (refused .badLength s)) (hrun : ∀ a, P (run a (newSelect s))) :
    P t := by
  obtain rfl := Host.Outcome.next.inj h
  split
  · split
    · exact hrefused
    · exact hrun _
  · exact hs

theorem event_keeps {P : State → Prop} {run : State → State} (h : event s run = .next t) (hs : P s)
    (hrun : P (run s)) : P t := by
  obtain rfl := Host.Outcome.next.inj h
  split
  · exact hrun
  · exact hs

/-! #### Own Requests -/

theorem setting_sound {α : Type} {run : α → State → State} {a : α} (h : SoundRequests s.service)
    (hrun : SoundRequests (run a s).service) : SoundRequests (setting run a s).service := by
  unfold setting
  split
  · exact hrun
  · exact h

theorem accepted_service (s : State) : (accepted s).service = s.service := by
  unfold accepted
  split <;> simp

theorem writeDenomination_sound (h : SoundRequests s.service) (f : DenominationFields) :
    SoundRequests (writeDenomination f s).service := by
  unfold writeDenomination
  repeat' split
  all_goals first | exact h | (rw [accepted_service]; exact evaluate_sound h)

theorem writeFloat_sound (h : SoundRequests s.service) (f : FloatFields) : SoundRequests (writeFloat f s).service := by
  unfold writeFloat
  split
  · exact h
  · rw [accepted_service]; exact evaluate_sound h

theorem writeFloatStation_sound (h : SoundRequests s.service) (f : FloatStationFields) :
    SoundRequests (writeFloatStation f s).service := by
  unfold writeFloatStation
  rw [accepted_service]
  exact evaluate_sound h

theorem startRequest_sound (h : SoundRequests s.service) : SoundRequests (startRequest s).service := by
  unfold startRequest startStation
  repeat' split
  all_goals first | exact h | exact evaluate_sound h

theorem makeUp_sound (h : SoundRequests s.service) (f : MakeUpFields) : SoundRequests (makeUp f s).service := by
  unfold makeUp makeUpChecked makeUpAccepted
  repeat' split
  all_goals first | exact h | exact evaluate_sound h

theorem dismantle_sound (h : SoundRequests s.service) (tag : Nat) : SoundRequests (dismantle tag s).service := by
  unfold dismantle dismantleFound dismantleAccepted
  repeat' split
  all_goals first | exact h | exact evaluate_sound h

theorem onLoop_sound {α : Type} {run : α → State → State} {a : α} (h : SoundRequests s.service)
    (hrun : SoundRequests (run a s).service) : SoundRequests (onLoop run a s).service := by
  unfold onLoop
  split
  · exact hrun
  · exact h

theorem offer_sound (h : SoundRequests s.service) (f : OfferFields) : SoundRequests (offer f s).service := by
  unfold offer offerFound offerDeferred offerHeld makeOffer
  repeat' split
  all_goals first | exact h | exact recordOffer_sound h ..

theorem takeResolve_sound (h : SoundRequests s.service) (tag : Nat) : SoundRequests (takeResolve tag s).service := by
  unfold takeResolve resolveEntry
  repeat' split
  all_goals first | exact h | simpa using completeEntry_sound h _

theorem decline_sound (h : SoundRequests s.service) (tag : Nat) : SoundRequests (decline tag s).service := by
  unfold decline declineAccepted
  repeat' split
  all_goals first | exact h | exact toldSetback_sound (s := removeInbound _ s) h ..

theorem applyIntake_sound (h : SoundRequests s.service) (p : TallyPart) : SoundRequests (applyIntake p s).service := by
  unfold applyIntake
  generalize excessSlots p.good s = c
  refine evaluate_sound ?_
  split <;> simpa using h

theorem applyPayout_sound (h : SoundRequests s.service) (p : TallyPart) : SoundRequests (applyPayout p s).service := by
  unfold applyPayout
  generalize shortSlots p.good s = c
  refine evaluate_sound ?_
  split <;> simpa using h

theorem applyUnpack_sound (h : SoundRequests s.service) (tag : Nat) (p : TallyPart) (r : ReconciliationPart) :
    SoundRequests (applyUnpack tag p r s).service := by
  refine evaluate_sound ?_
  rw [(raiseIf_signals _ _ _).2.2.2.2.2.2.2]
  refine toldSetback_sound ?_ true tag
  rw [removeContainer_service, (changeTotal_keeps _ _ _).2.2.2.2.2.2.2.2.2.2, (limitAlarm_signals _ _).2.2.2.2.2.2.2]
  exact h

@[simp] theorem dropUnpacked_service (c : Option Container) (s : State) : (dropUnpacked c s).service = s.service := by
  unfold dropUnpacked
  repeat' split
  all_goals rfl

theorem applyBatch_sound (h : SoundRequests s.service) (j : CountJob) (damaged : Bool) (p : TallyPart)
    (r : Option ReconciliationPart) : SoundRequests (applyBatch j damaged p r s).service := by
  unfold applyBatch
  split
  · exact applyIntake_sound h p
  · exact applyPayout_sound h p
  · exact settleDeferred_sound (by simpa using h) ..
  · exact settleDeferred_sound (by simpa using h) ..
  · simpa using applyUnpack_sound h ..
  · exact settleDeferred_sound (by simpa using h) ..

theorem endBatch_sound (h : SoundRequests s.service) (cause : EndCause) (figure : Option Nat) :
    SoundRequests (endBatch cause figure s).service := by
  obtain ⟨_, he⟩ | ⟨job, _, he⟩ := endBatch_cases cause figure s <;> rw [he]
  · exact h
  · simp only [raiseIf_signals, raise_service]
    exact applyBatch_sound (by simpa using h) ..

@[simp] theorem closeSession_service (j : CountJob) (o : CountOutcome) (s : State) :
    (closeSession j o s).service = s.service := rfl

theorem abandonCount_sound (h : SoundRequests s.service) (j : CountJob) (r : AbortReason) :
    SoundRequests (abandonCount j r s).service := by
  unfold abandonCount
  exact settleDeferred_sound (by simpa using h) ..

theorem countAbort_sound (h : SoundRequests s.service) : SoundRequests (countAbort s).service := by
  unfold countAbort abortSession
  repeat' split
  all_goals first | exact h | exact endBatch_sound h .. | exact abandonCount_sound h ..

@[simp] theorem beginBatch_service (s : State) : (beginBatch s).service = s.service := by
  unfold beginBatch
  split <;> rfl

theorem endRecord_sound (h : SoundRequests s.service) (n : Nat) : SoundRequests (endRecord n s).service := by
  unfold endRecord
  split
  · exact endBatch_sound (by simpa using h) ..
  · exact h

theorem haltRecord_sound (h : SoundRequests s.service) : SoundRequests (haltRecord s).service := by
  unfold haltRecord
  split
  all_goals first | exact h | exact endBatch_sound (by simpa [damageBatch] using h) ..

theorem batchIdleEnd_sound (h : SoundRequests s.service) : SoundRequests (batchIdleEnd s).service := by
  have hgap : SoundRequests (abandonAssembly (setDiscarding false s)).service := by
    rw [abandonAssembly_frame]
    exact h
  unfold batchIdleEnd
  dsimp only
  split
  · exact endBatch_sound hgap ..
  · exact hgap

theorem noRecords_sound (h : SoundRequests s.service) : SoundRequests (noRecords s).service := by
  unfold noRecords
  repeat' split
  all_goals first | exact h | exact abandonCount_sound h ..

theorem raiseNeed_sound (h : SoundRequests s.service) (f : NeedFields) : SoundRequests (raiseNeed f s).service := by
  unfold raiseNeed
  split
  · unfold raiseNeedChecked raiseNeedAccepted
    repeat' split
    · exact h
    · exact h
    · exact h
    · next hroom _ => exact addRequest_sound h (not_le.mp hroom) rfl
    · exact h
  · exact h

theorem cancelNeed_sound (h : SoundRequests s.service) (id : Nat) : SoundRequests (cancelNeed id s).service := by
  unfold cancelNeed cancelNeedFound
  repeat' split
  all_goals first | exact h | exact removeRequest_sound h _

theorem inboundLapse_sound (h : SoundRequests s.service) (tag : Nat) : SoundRequests (inboundLapse tag s).service := by
  unfold inboundLapse
  split
  · exact h
  · exact lapseEntry_sound h _

theorem requestExpiry_sound (h : SoundRequests s.service) (id : Nat) : SoundRequests (requestExpiry id s).service := by
  unfold requestExpiry expireRequest
  repeat' split
  · exact h
  · next r _ _ => simpa [dropRequest, dropNeed] using removeRequest_sound h r.id
  · exact h

theorem escalate_sound (h : SoundRequests s.service) (id : Nat) : SoundRequests (escalate id s).service := by
  unfold escalate
  repeat' split
  · exact h
  · simpa using updateRequest_sound h id (f := urgentRequest) (fun _ => rfl)
  · exact h

theorem claimLapse_sound (h : SoundRequests s.service) (id : Nat) : SoundRequests (claimLapse id s).service := by
  unfold claimLapse
  repeat' split
  all_goals first | exact h | exact lapseRequest_sound h _

/-! #### Both halves -/

theorem ServiceInv.of_requests (h : ServiceInv s) (hl : t.service.list = s.service.list)
    (hr : SoundRequests s.service → SoundRequests t.service) : ServiceInv t := by
  rw [serviceInv_iff] at h ⊢
  rw [hl]
  exact ⟨hr h.1, h.2⟩

theorem ServiceInv.of_list (h : ServiceInv s)
    (hr : t.service.requests = s.service.requests ∧ t.service.nextId = s.service.nextId)
    (hl : SoundList s.service.list → SoundList t.service.list) : ServiceInv t := by
  rw [serviceInv_iff] at h ⊢
  rw [soundRequests_congr hr.1 hr.2]
  exact ⟨h.1, hl h.2⟩

theorem ServiceInv.of_service (h : ServiceInv s) (hv : t.service = s.service) : ServiceInv t := by
  rw [serviceInv_iff] at h ⊢
  rwa [hv]

theorem sentOf_serviceInv (h : ServiceInv s) (kind : Payload → Bool) (ack : Bool) : ServiceInv (sentOf kind ack s) := by
  have ended (p : Payload) (n : Nat) : (startWait p (setScore n (leaveLine p s))).service = s.service := by
    unfold startWait leaveLine
    split <;> cases p <;> rfl
  unfold sentOf
  split
  · exact h
  split
  · unfold finishFrame reportLine
    rw [serviceInv_iff] at h ⊢
    split
    · rwa [ended]
    · exact ⟨report_sound (by rw [ended]; exact h.1) .., report_list_sound (by rw [ended]; exact h.2) ..⟩
  · exact h

theorem readBackFault_serviceInv (h : ServiceInv s) : ServiceInv (readBackFault s) := by
  have left (p : Payload) : (leaveLine p s).service = s.service := by
    unfold leaveLine
    cases p <;> rfl
  have after (p : Payload) (n : Nat) (u : State) : (afterFault p (setScore n u)).service = u.service := by
    unfold afterFault
    repeat' split
    all_goals rfl
  unfold readBackFault
  split
  · exact h
  · unfold faultFrame reportLine
    rw [serviceInv_iff] at h ⊢
    rw [after]
    split
    · rwa [left]
    · exact ⟨report_sound (by rw [left]; exact h.1) .., report_list_sound (by rw [left]; exact h.2) ..⟩

theorem announceLost_serviceInv (h : ServiceInv s) (winner : BitVec 32) : ServiceInv (announceLost winner s) := by
  unfold announceLost
  repeat' split
  · exact h
  · rw [serviceInv_iff] at h ⊢
    exact ⟨enterDuplicate_sound h.1 .., enterDuplicate_list_sound h.2 ..⟩
  · exact h

theorem receive_serviceInv (h : ServiceInv s) (f : Frame) : ServiceInv (receive f s) := by
  rw [serviceInv_iff] at h ⊢
  exact ⟨receive_sound h.1 f, receive_list_sound h.2 f⟩

theorem stopRequest_serviceInv (h : ServiceInv s) : ServiceInv (stopRequest s) := by
  unfold stopRequest enterStopped
  repeat' split
  · exact h.of_service rfl
  · exact h.of_service rfl
  · rw [serviceInv_iff] at h ⊢
    have hr : SoundRequests (emptyQueue (releaseSlot (quietLoop { s with member := stationAt .stopped s.member }))).service :=
      emptyQueue_sound h.1
    exact ⟨hr.of_requests rfl rfl, ⟨by simp, by simp⟩⟩

theorem takeResolve_serviceInv (h : ServiceInv s) (tag : Nat) : ServiceInv (takeResolve tag s) := by
  rw [serviceInv_iff] at h ⊢
  refine ⟨takeResolve_sound h.1 tag, ?_⟩
  obtain ⟨-, hl⟩ := h
  unfold takeResolve resolveEntry
  repeat' split
  all_goals first | exact hl | simpa using completeEntry_list_sound hl _

theorem peerGone_serviceInv (h : ServiceInv s) (n : Nat) : ServiceInv (peerGone n s) := by
  unfold peerGone
  split
  · rw [serviceInv_iff] at h ⊢
    refine ⟨peerDeparts_sound h.1 n, ?_⟩
    unfold peerDeparts requesterDeparts
    simp only [raiseIf_signals, setServiceList_list]
    exact SoundList.sublist (by simpa using h.2) List.filter_sublist
  · exact h

theorem warmStart_serviceInv (h : ServiceInv s) (pins : Pins) : ServiceInv (warmStart pins s) := by
  rw [serviceInv_iff] at h ⊢
  exact ⟨(h.1.map (f := warmRequest s.clock) (fun _ => rfl)).of_requests rfl rfl, ⟨by simp [warmStart, showLamps], by simp [warmStart, showLamps]⟩⟩

theorem coldStart_serviceInv (pins : Pins) : ServiceInv (coldStart pins s) := by
  constructor <;> simp [coldStart, State.cold]

theorem claimAccepted_sound (h : SoundList s.service.list) (e : ServiceEntry) :
    SoundList (claimAccepted e s).service.list :=
  updateService_sound h e.requester e.id (fun _ => ⟨rfl, rfl⟩)

theorem claimNext_sound (h : SoundList s.service.list) : SoundList (claimNext s).service.list := by
  unfold claimNext
  repeat' split
  all_goals first | exact h | exact claimAccepted_sound h _

theorem claim_sound (h : SoundList s.service.list) (f : ClaimFields) : SoundList (claim f s).service.list := by
  unfold claim claimFound
  repeat' split
  all_goals first | exact h | exact claimAccepted_sound h _

theorem backupEligible_sound (h : SoundList s.service.list) (requester id : Nat) :
    SoundList (backupEligible requester id s).service.list := by
  unfold backupEligible
  repeat' split
  all_goals first | exact h | exact updateService_sound h _ _ (fun _ => ⟨rfl, rfl⟩)

/-! #### Every command -/

/-- A request writes the Own Requests alone. -/
theorem request_sound {α : Type} {b : Body α} {run : α → State → State} (h : request b s run = .next t)
    (hrun : ∀ a u, SoundRequests u.service → SoundRequests (run a u).service) (hs : SoundRequests s.service) :
    SoundRequests t.service :=
  request_keeps (P := fun u => SoundRequests u.service) h hs hs (fun a => hrun a (newSelect s) hs)

theorem request_list_sound {α : Type} {b : Body α} {run : α → State → State} (h : request b s run = .next t)
    (hrun : ∀ a u, SoundList u.service.list → SoundList (run a u).service.list) (hs : SoundList s.service.list) :
    SoundList t.service.list :=
  request_keeps (P := fun u => SoundList u.service.list) h hs hs (fun a => hrun a (newSelect s) hs)

theorem event_sound {run : State → State} (h : event s run = .next t)
    (hrun : SoundRequests s.service → SoundRequests (run s).service) (hs : SoundRequests s.service) :
    SoundRequests t.service :=
  event_keeps (P := fun u => SoundRequests u.service) h hs (hrun hs)

theorem exec_serviceInv {c : Instr} (h : exec c s = .next t) (hs : ServiceInv s) : ServiceInv t := by
  have hw := exec_within h
  have newSelected : ServiceInv (newSelect s) := hs.of_service rfl
  cases c with
  | powerUp pins =>
    cases h
    unfold powerUp
    repeat' split
    exacts [hs, warmStart_serviceInv hs pins, coldStart_serviceInv pins]
  | coldStart pins => cases h; split; exacts [hs, coldStart_serviceInv pins]
  | warmStart pins => cases h; split; exacts [hs, warmStart_serviceInv hs pins]
  | selectRelease pins =>
    refine event_keeps h hs ?_
    unfold selectRelease
    split
    exacts [newSelected, warmStart_serviceInv hs pins, coldStart_serviceInv pins]
  | setDenomination b =>
    exact hs.of_requests (hw.list (by simp [touched]))
      (request_sound h (fun f _ hu => setting_sound hu (writeDenomination_sound hu f)))
  | setFloat b =>
    exact hs.of_requests (hw.list (by simp [touched])) (request_sound h (fun f _ hu => setting_sound hu (writeFloat_sound hu f)))
  | setFloatStation b =>
    exact hs.of_requests (hw.list (by simp [touched]))
      (request_sound h (fun f _ hu => setting_sound hu (writeFloatStation_sound hu f)))
  | start b => exact hs.of_requests (hw.list (by simp [touched])) (request_sound h (fun _ _ => startRequest_sound))
  | makeUp b => exact hs.of_requests (hw.list (by simp [touched])) (request_sound h (fun f _ hu => makeUp_sound hu f))
  | dismantle b => exact hs.of_requests (hw.list (by simp [touched])) (request_sound h (fun f _ hu => dismantle_sound hu f))
  | offer b =>
    exact hs.of_requests (hw.list (by simp [touched])) (request_sound h (fun f _ hu => onLoop_sound hu (offer_sound hu f)))
  | decline b =>
    exact hs.of_requests (hw.list (by simp [touched])) (request_sound h (fun f _ hu => onLoop_sound hu (decline_sound hu f)))
  | countAbort b => exact hs.of_requests (hw.list (by simp [touched])) (request_sound h (fun _ _ => countAbort_sound))
  | raiseNeed b =>
    exact hs.of_requests (hw.list (by simp [touched])) (request_sound h (fun f _ hu => onLoop_sound hu (raiseNeed_sound hu f)))
  | cancelNeed b => exact hs.of_requests (hw.list (by simp [touched])) (request_sound h (fun f _ hu => cancelNeed_sound hu f))
  | endRecord n =>
    exact hs.of_requests (hw.list (by simp [touched])) (event_sound h (fun hu => by unfold onCountLine; split; exacts [hu, endRecord_sound hu n]))
  | haltRecord =>
    exact hs.of_requests (hw.list (by simp [touched])) (event_sound h (fun hu => by unfold onCountLine; split; exacts [hu, haltRecord_sound hu]))
  | batchIdleEnd => exact hs.of_requests (hw.list (by simp [touched])) (event_sound h batchIdleEnd_sound)
  | noRecordTimeout => exact hs.of_requests (hw.list (by simp [touched])) (event_sound h noRecords_sound)
  | inboundLapse tag => exact hs.of_requests (hw.list (by simp [touched])) (event_sound h (inboundLapse_sound · tag))
  | requestExpiry id => exact hs.of_requests (hw.list (by simp [touched])) (event_sound h (requestExpiry_sound · id))
  | escalation id => exact hs.of_requests (hw.list (by simp [touched])) (event_sound h (escalate_sound · id))
  | claimLapse id => exact hs.of_requests (hw.list (by simp [touched])) (event_sound h (claimLapse_sound · id))
  | claimNext b =>
    refine hs.of_list (hw.requests (by simp [touched])) (request_list_sound h (fun _ u hu => ?_))
    unfold onLoop
    split
    exacts [claimNext_sound hu, hu]
  | claim b =>
    refine hs.of_list (hw.requests (by simp [touched])) (request_list_sound h (fun f u hu => ?_))
    unfold onLoop
    split
    exacts [claim_sound hu f, hu]
  | backupEligible n id =>
    refine hs.of_list (hw.requests (by simp [touched])) (fun hl => ?_)
    exact event_keeps (P := fun u => SoundList u.service.list) h hl (backupEligible_sound hl n id)
  | stop b => exact request_keeps h hs (hs.of_service rfl) (fun _ => stopRequest_serviceInv newSelected)
  | takeResolve b => exact request_keeps h hs (hs.of_service rfl) (fun tag => takeResolve_serviceInv newSelected tag)
  | announceLostSerial w => exact event_keeps h hs (announceLost_serviceInv hs w)
  | readBackFault => exact event_keeps h hs (readBackFault_serviceInv hs)
  | frameSent a | offerReport a | takenReport a | queryReport a | claimReport a =>
    exact event_keeps h hs (sentOf_serviceInv hs _ a)
  | announceCompleted => exact event_keeps h hs (sentOf_serviceInv hs _ false)
  | peerGone n => exact event_keeps h hs (peerGone_serviceInv hs n)
  | intactFrameHeard f => exact event_keeps h hs (receive_serviceInv hs f)
  | alarmReceived _ _ _ | takenReceived _ _ _ | recallOkReceived _ _ _ | refuseReceived _ _ _ | answerReceived _ _ _
  | offerReceived _ _ _ | recallReceived _ _ _ | queryReceived _ _ _ | claimReceived _ _ _ | awardReceived _ _ _
  | needReceived _ _ _ | withdrawReceived _ _ _ | announceReceived _ _ _ | conflictReceived _ _ _ | beaconReceived _ _ _ =>
    exact event_keeps h hs (receive_serviceInv hs _)
  | _ => exact hs.of_service (hw.service (by simp [touched]))

end Commands

end Sys2Proof.Machine

/-! PROOFS. The count engine through every step (R86, R88, R89, R92, R96; O59). -/

namespace Sys2Proof.Machine

section CountSteps

variable {s t : State}

/-- Only the count engine matters. -/
theorem CountInv.of_count (h : CountInv s) (hc : t.count = s.count) : CountInv t := by
  obtain ⟨hfifo, htaken, hdropped, hlost, hstray, hnumber, hquiet, hjob, htimer, hassembled, hdiscarding⟩ := h
  rw [← hc] at hfifo htaken hdropped hlost hstray hnumber hquiet hjob htimer hassembled hdiscarding
  exact ⟨hfifo, htaken, hdropped, hlost, hstray, hnumber, hquiet, hjob, htimer, hassembled, hdiscarding⟩

theorem CountInv.of_within {ps : List Part} (h : CountInv s) (hw : Within ps s t) (hp : .count ∉ ps := by simp) :
    CountInv t := h.of_count (hw.count hp)

/-! ### Records -/

theorem strayRecord_countInv (h : CountInv s) : CountInv (strayRecord s) :=
  { h with stray := Nat.min_le_left .. }

theorem beginBatch_countInv (h : CountInv s) : CountInv (beginBatch s) := by
  unfold beginBatch
  cases hstate : s.count.state with
  | idle | running | closed => exact h
  | opened | paused =>
    exact { h with
      number := Nat.min_le_left ..
      quiet := fun hne => absurd rfl hne
      job := fun _ => h.job (by simp [hstate, CountState.sessionOpen])
      timer := fun hs => by simp [setCount] at hs }

/-- A session that is open has a batch in progress from its first record on. -/
theorem beginBatch_running (h : s.count.state.sessionOpen = true) : (beginBatch s).count.state = .running := by
  unfold beginBatch
  cases hstate : s.count.state <;> simp_all [setCount, CountState.sessionOpen]

theorem damageBatch_countInv (h : CountInv s) (hrun : s.count.state = .running) (r : DamageReason) :
    CountInv (damageBatch r s) :=
  { h with quiet := fun hne => absurd hrun hne }

theorem recordDropped_countInv (h : CountInv s) (r : DropReason) : CountInv (recordDropped r s) := by
  obtain ⟨_, he⟩ | ⟨hopen, he⟩ := recordDropped_cases r s <;> rw [he]
  · exact strayRecord_countInv h
  · have hbegun := beginBatch_countInv h
    exact { hbegun with
      dropped := Nat.min_le_left ..
      quiet := fun hne => absurd (beginBatch_running hopen) hne }

theorem recordCounted_countInv (h : CountInv s) (hopen : s.count.state.sessionOpen = true) (r : CountEntry) :
    CountInv (recordCounted r s) := by
  have hbegun := beginBatch_countInv h
  have hrun := beginBatch_running hopen
  unfold recordCounted
  generalize beginBatch s = u at hbegun hrun
  dsimp only
  split
  next =>
    refine damageBatch_countInv ?_ (by exact hrun) .overflow
    exact { hbegun with lost := Nat.min_le_left .., quiet := fun hne => absurd hrun hne }
  next hroom =>
    refine CountInv.of_within (ps := [.attn]) (s := setCount _ u) ?_
      ((within_raiseIf (by simp) ..).mpr (.refl _ _))
    exact { hbegun with
      fifoRoom := by simp [setCount]; omega
      taken := by simp [setCount, hbegun.taken]
      quiet := fun hne => absurd hrun hne }

theorem endAssembly_countInv (h : CountInv s) : CountInv (endAssembly s) :=
  { h with assembled := Nat.zero_le _, discarding := fun _ => rfl }

/-- What a dropped record leaves in assembly, and whether the receiver discards. -/
theorem recordDropped_receiver (r : DropReason) (s : State) :
    (recordDropped r s).count.assembled = s.count.assembled ∧
      (recordDropped r s).count.discarding = s.count.discarding := by
  have hbegun : (beginBatch s).count.assembled = s.count.assembled ∧
      (beginBatch s).count.discarding = s.count.discarding := by
    unfold beginBatch
    cases s.count.state <;> exact ⟨rfl, rfl⟩
  obtain ⟨_, he⟩ | ⟨_, he⟩ := recordDropped_cases r s <;> rw [he]
  · exact ⟨rfl, rfl⟩
  · exact hbegun

theorem setDiscarding_countInv (h : CountInv s) (on : Bool) (hempty : on = true → s.count.assembled = []) :
    CountInv (setDiscarding on s) :=
  { h with discarding := hempty }

theorem dropAndDiscard_countInv (h : CountInv s) (r : DropReason) : CountInv (dropAndDiscard r s) :=
  setDiscarding_countInv (recordDropped_countInv (endAssembly_countInv h) r) true
    (fun _ => (recordDropped_receiver r (endAssembly s)).1)

theorem recordAbandoned_countInv (h : CountInv s) : CountInv (recordAbandoned s) :=
  recordDropped_countInv (endAssembly_countInv h) _

theorem abandonAssembly_countInv (h : CountInv s) : CountInv (abandonAssembly s) := by
  unfold abandonAssembly
  split
  exacts [h, recordAbandoned_countInv h]

/-! ### Ends -/

/-- A session at rest with the batch cleared. -/
theorem CountInv.cleared (h : CountInv s) (hjob : s.count.job.isSome) (st : CountState)
    (result : Option CountResult) :
    CountInv (setCount { s.count with state := st, batch := noBatch, fifo := [], noRecordEnds := none,
                                      result := result } s) :=
  { h with
    fifoRoom := Nat.zero_le _
    taken := rfl
    dropped := Nat.zero_le _
    lost := Nat.zero_le _
    quiet := fun _ => ⟨rfl, rfl⟩
    job := fun _ => hjob
    timer := fun hs => by simp [setCount] at hs }

theorem endBatch_countInv (h : CountInv s) (cause : EndCause) (figure : Option Nat) :
    CountInv (endBatch cause figure s) := by
  obtain ⟨_, he⟩ | ⟨job, hjob, he⟩ := endBatch_cases cause figure s <;> rw [he]
  · exact h
  · have hended : CountInv (setCount (endedEngine job cause figure s) s) :=
      h.cleared (by simp [hjob]) _ _
    generalize setCount (endedEngine job cause figure s) s = u at hended ⊢
    generalize endedTally job s = p
    generalize endedRecon job figure s = r
    exact hended.of_within
      (ps := [.table, .totals, .counter, .counts, .float, .requests, .queue, .attn]) (by simp)

theorem closeSession_countInv (h : CountInv s) {job : CountJob} (hjob : s.count.job = some job) (o : CountOutcome) :
    CountInv (closeSession job o s) :=
  h.cleared (by simp [hjob]) _ _

theorem abandonCount_countInv (h : CountInv s) {job : CountJob} (hjob : s.count.job = some job) (r : AbortReason) :
    CountInv (abandonCount job r s) :=
  (closeSession_countInv h hjob _).of_within (ps := [.table, .requests, .counter, .queue, .attn]) (by
    unfold abandonCount
    generalize closeSession job (.aborted r) s = u
    simp)

/-! ### Commands -/

theorem onCountLine_countInv {run : State → State} (h : CountInv s) (hrun : CountInv (run s)) :
    CountInv (onCountLine run s) := by
  unfold onCountLine
  split
  exacts [h, hrun]

theorem countRecord_countInv (h : CountInv s) (r : CountEntry) : CountInv (countRecord r s) := by
  unfold countRecord
  split
  · exact dropAndDiscard_countInv h _
  · split
    · exact dropAndDiscard_countInv h _
    · split
      next hopen => exact recordCounted_countInv h hopen r
      next => exact strayRecord_countInv h

theorem endRecord_countInv (h : CountInv s) (n : Nat) : CountInv (endRecord n s) := by
  unfold endRecord
  split
  · exact endBatch_countInv (beginBatch_countInv h) ..
  · exact strayRecord_countInv h

theorem haltRecord_countInv (h : CountInv s) : CountInv (haltRecord s) := by
  unfold haltRecord
  cases hstate : s.count.state with
  | opened =>
    have hrun := beginBatch_running (s := s) (by simp [hstate, CountState.sessionOpen])
    exact endBatch_countInv (damageBatch_countInv (beginBatch_countInv h) hrun _) ..
  | running => exact endBatch_countInv (damageBatch_countInv h hstate _) ..
  | paused => exact h
  | idle | closed => exact strayRecord_countInv h

theorem droppedRecord_countInv (h : CountInv s) (r : DropReason) : CountInv (droppedRecord r s) := by
  unfold droppedRecord
  split
  exacts [dropAndDiscard_countInv h r, h]

theorem batchIdleEnd_countInv (h : CountInv s) : CountInv (batchIdleEnd s) := by
  have habandoned := abandonAssembly_countInv (setDiscarding_countInv h false (by simp))
  unfold batchIdleEnd
  dsimp only
  split
  exacts [endBatch_countInv habandoned .., habandoned]

theorem noRecords_countInv (h : CountInv s) : CountInv (noRecords s) := by
  unfold noRecords
  split
  · split
    next => exact h
    next job hjob => exact (abandonCount_countInv h hjob .noRecords).of_count (by simp)
  · exact h

theorem openedEngine_countInv (h : CountInv s) (m : CountMode) (f : CountOpenFields) :
    CountInv (setCount (openedEngine s m f) s) :=
  { h with
    fifoRoom := Nat.zero_le _
    taken := rfl
    dropped := Nat.zero_le _
    lost := Nat.zero_le _
    stray := Nat.zero_le _
    number := Nat.zero_le _
    quiet := fun _ => ⟨rfl, rfl⟩
    job := fun _ => rfl
    timer := fun _ => rfl }

theorem countOpen_countInv (h : CountInv s) (f : CountOpenFields) : CountInv (countOpen f s) := by
  have opened (m : CountMode) := openedEngine_countInv h m f
  unfold countOpen countOpenStanding countOpenTarget
  repeat' split
  all_goals first | exact h.of_count rfl | exact (opened _).of_count rfl

theorem countClose_countInv (h : CountInv s) : CountInv (countClose s) := by
  unfold countClose
  split
  next => exact h.of_count rfl
  next j hj =>
    have hclosed := closeSession_countInv h hj .completed
    unfold closeStanding
    repeat' split
    all_goals first | exact h.of_count rfl | exact hclosed.of_count rfl

theorem abortSession_countInv (h : CountInv s) {job : CountJob} (hjob : s.count.job = some job) :
    CountInv (abortSession job s) := by
  unfold abortSession
  split
  · split
    · exact endBatch_countInv h ..
    · exact closeSession_countInv h hjob _
  · exact abandonCount_countInv h hjob .request

theorem countAbort_countInv (h : CountInv s) : CountInv (countAbort s) := by
  unfold countAbort
  split
  · split
    next => exact h.of_count rfl
    next j hj => exact (abortSession_countInv h hj).of_count rfl
  · exact h.of_count rfl

theorem writeCountLine_countInv (h : CountInv s) (mid : Bool) (f : CountLineFields) :
    CountInv (writeCountLine mid f s) := by
  have hset (cfg : Settings) : CountInv (setCfg cfg s) := h.of_count rfl
  have hdone (u : State) (hu : CountInv u) : CountInv (accepted u) :=
    hu.of_within (ps := [.cfg, .station, .port]) (by simp)
  unfold writeCountLine
  dsimp only
  split
  · exact h.of_count rfl
  · refine hdone _ ?_
    split
    exacts [recordAbandoned_countInv (hset _), abandonAssembly_countInv (hset _)]

theorem idleCount_countInv (h : s.count = idleCount) : CountInv s := by
  constructor <;> simp [h, idleCount, noBatch, CountState.sessionOpen]

theorem exec_countInv {c : Instr} (h : exec c s = .next t) (hs : CountInv s) : CountInv t := by
  have hw := exec_within h
  have newSelected : CountInv (newSelect s) := hs.of_count rfl
  have started (pins : Pins) : CountInv (warmStart pins s) ∧ CountInv (coldStart pins s) :=
    ⟨idleCount_countInv rfl, idleCount_countInv rfl⟩
  cases c with
  | powerUp pins =>
    cases h
    unfold powerUp
    repeat' split
    exacts [hs, (started pins).1, (started pins).2]
  | coldStart pins => cases h; split; exacts [hs, (started pins).2]
  | warmStart pins => cases h; split; exacts [hs, (started pins).1]
  | selectRelease pins =>
    refine event_keeps h hs ?_
    unfold selectRelease
    split
    exacts [hs.of_count rfl, (started pins).1, (started pins).2]
  | setCountLine b mid =>
    refine request_keeps h hs (hs.of_count rfl) (fun f => ?_)
    unfold setting
    split
    exacts [writeCountLine_countInv newSelected mid f, hs.of_count rfl]
  | countOpen b => exact request_keeps h hs (hs.of_count rfl) (fun f => countOpen_countInv newSelected f)
  | countClose b => exact request_keeps h hs (hs.of_count rfl) (fun _ => countClose_countInv newSelected)
  | countAbort b => exact request_keeps h hs (hs.of_count rfl) (fun _ => countAbort_countInv newSelected)
  | countRecord slot suspect n => exact event_keeps h hs (onCountLine_countInv hs (countRecord_countInv hs _))
  | endRecord n => exact event_keeps h hs (onCountLine_countInv hs (endRecord_countInv hs n))
  | haltRecord => exact event_keeps h hs (onCountLine_countInv hs (haltRecord_countInv hs))
  | droppedRecord r => exact event_keeps h hs (onCountLine_countInv hs (droppedRecord_countInv hs r))
  | recordAbandoned => exact event_keeps h hs (onCountLine_countInv hs (recordAbandoned_countInv hs))
  | countLineResynchronisation => exact event_keeps h hs (setDiscarding_countInv hs false (by simp))
  | batchIdleEnd => exact event_keeps h hs (batchIdleEnd_countInv hs)
  | noRecordTimeout => exact event_keeps h hs (noRecords_countInv hs)
  | _ => exact hs.of_within hw (by simp [touched])

end CountSteps

/-! ### The timer step and every step -/

/-- A request grows older under its id (R132). -/
theorem ageRequest_id (r : OwnRequest) : (ageRequest r).id = r.id := by
  unfold ageRequest
  split <;> rfl

/-- What 10 ms do: nothing outside the clock, the lamps, the silence times, the ages of the requests and the queue. -/
theorem tick_keeps (s : State) :
    (tick s).count = s.count ∧ (tick s).service.list = s.service.list ∧ (tick s).service.nextId = s.service.nextId ∧
      ((tick s).service.requests = s.service.requests ∨
        (tick s).service.requests = s.service.requests.map ageRequest) := by
  unfold tick
  split
  · unfold advance
    split
    exacts [⟨rfl, rfl, rfl, .inr rfl⟩, ⟨rfl, rfl, rfl, .inl rfl⟩]
  · exact ⟨rfl, rfl, rfl, .inl rfl⟩

theorem tick_serviceInv {s : State} (h : ServiceInv s) : ServiceInv (tick s) := by
  obtain ⟨-, hlist, hnext, hrequests⟩ := tick_keeps s
  rw [serviceInv_iff] at h ⊢
  refine ⟨?_, hlist ▸ h.2⟩
  obtain hr | hr := hrequests
  · exact h.1.of_requests hr hnext
  · exact (h.1.map ageRequest_id).of_requests hr hnext

/-- Settles O59: each half of the service unit and the count engine keep their laws under each of their operations, the rest
of the commands leaves them as they were, and the timer step changes no key. -/
theorem stepKeepsServiceAndCount : Obligations.StepKeepsServiceAndCount := by
  unfold Obligations.StepKeepsServiceAndCount
  intro s t h
  unfold step at h
  split at h
  next =>
    obtain rfl := Host.Outcome.next.inj h
    exact ⟨tick_serviceInv, fun hs => hs.of_count (tick_keeps s).1⟩
  next c rest _ =>
    exact ⟨fun hs => exec_serviceInv h (hs.of_service (t := { s with pending := rest }) rfl),
      fun hs => exec_countInv h (hs.of_count (t := { s with pending := rest }) rfl)⟩

end Sys2Proof.Machine

/-! PROOFS. What leaves the value of the books where it is (R14, R15): the records as far as the identity of R15 and the
money ranges read them, and every operation that changes nothing of them. -/

namespace Sys2Proof.Machine

/-! ### Records as the money laws read them -/

/-- What the money laws read of a container (R14, R15). -/
def Container.stamp (c : Container) : Nat × Nat × Option CountedGroup × Bool :=
  (c.tag, c.value, c.counted, c.state == .nested)

theorem stamp_eq_iff (c d : Container) :
    c.stamp = d.stamp ↔ c.tag = d.tag ∧ c.value = d.value ∧ c.counted = d.counted ∧
      (c.state == .nested) = (d.state == .nested) := by
  simp [Container.stamp]

/-- Position, face values, containers, totals and mark are those of `s` as far as the money laws read them. -/
structure ValueKept (s t : State) : Prop where
  counts : t.position.counts = s.position.counts
  denoms : t.cfg.denoms = s.cfg.denoms
  stamps : t.custody.table.map Container.stamp = s.custody.table.map Container.stamp
  totals : t.custody.totals = s.custody.totals
  saturated : t.custody.saturated = s.custody.saturated

/-- The table holds no tag twice (R7). -/
def Distinct (s : State) : Prop := (s.custody.table.map (·.tag)).Nodup

/-- No container of the tag is NESTED. -/
def Unnested (s : State) (tag : Nat) : Prop := ∀ c ∈ s.custody.table, c.tag = tag → c.state ≠ .nested

section Kept

variable {s t u : State}

theorem ValueKept.refl (s : State) : ValueKept s s := ⟨rfl, rfl, rfl, rfl, rfl⟩

theorem ValueKept.trans (h : ValueKept s t) (k : ValueKept t u) : ValueKept s u :=
  ⟨k.counts.trans h.counts, k.denoms.trans h.denoms, k.stamps.trans h.stamps, k.totals.trans h.totals,
    k.saturated.trans h.saturated⟩

theorem ValueKept.symm (h : ValueKept s t) : ValueKept t s :=
  ⟨h.counts.symm, h.denoms.symm, h.stamps.symm, h.totals.symm, h.saturated.symm⟩

/-- The parts that no money law reads. -/
abbrev valueFree : List Part :=
  [.unit, .clock, .inbound, .releases, .day, .queue, .line, .station, .peers, .counter, .count, .float, .requests, .list,
   .safe, .attn, .door, .lamps, .port, .pending]

theorem Within.valueKept (h : Within valueFree s t) : ValueKept s t := by
  have htable : t.custody.table = s.custody.table := h .table (by simp)
  have hcfg : t.cfg = s.cfg := h .cfg (by simp)
  obtain ⟨htotals, hsaturated⟩ := Prod.mk.inj (h .totals (by simp))
  exact ⟨h .counts (by simp), congrArg _ hcfg, congrArg _ htable, htotals, hsaturated⟩

/-- More is done that no money law reads. -/
theorem ValueKept.then (h : ValueKept s t) (k : Within valueFree t u) : ValueKept s u := h.trans k.valueKept

theorem ValueKept.tags (h : ValueKept s t) : t.custody.table.map (·.tag) = s.custody.table.map (·.tag) := by
  simpa [Container.stamp, Function.comp_def] using congrArg (List.map Prod.fst) h.stamps

theorem ValueKept.distinct (h : ValueKept s t) (hd : Distinct s) : Distinct t := by
  unfold Distinct
  rwa [h.tags]

/-- A container of the table is in the table kept, as far as the money laws read it. -/
theorem ValueKept.exists_stamp (h : ValueKept s t) {c : Container} (hc : c ∈ s.custody.table) :
    ∃ d ∈ t.custody.table, d.stamp = c.stamp := by
  have hmem : c.stamp ∈ t.custody.table.map Container.stamp := h.stamps ▸ List.mem_map_of_mem hc
  simpa using hmem

theorem ValueKept.unnested (h : ValueKept s t) {tag : Nat} (hn : Unnested s tag) : Unnested t tag := by
  intro d hd htag hstate
  obtain ⟨c, hc, hstamp⟩ := h.symm.exists_stamp hd
  obtain ⟨htags, -, -, hnested⟩ := (stamp_eq_iff c d).mp hstamp
  exact hn c hc (htags.trans htag) (by simpa [hstate] using hnested)

/-! ### Lookups -/

theorem mem_of_container? {tag : Nat} {c : Container} (h : s.container? tag = some c) : c ∈ s.custody.table :=
  List.mem_of_find?_eq_some h

/-- A tag has one container (R7). -/
theorem Distinct.eq_of_tag (hd : Distinct s) {c d : Container} (hc : c ∈ s.custody.table) (hmem : d ∈ s.custody.table)
    (htag : c.tag = d.tag) : c = d :=
  List.inj_on_of_nodup_map hd hc hmem htag

theorem Distinct.unnested (hd : Distinct s) {tag : Nat} {c : Container} (hc : s.container? tag = some c)
    (hn : c.state ≠ .nested) : Unnested s tag := by
  intro d hmem htag
  rwa [hd.eq_of_tag hmem (mem_of_container? hc) (htag.trans (tag_of_container? hc).symm)]

/-! ### Updates -/

/-- Every container of the tag keeps what the money laws read. -/
theorem updateContainer_kept {tag : Nat} {f : Container → Container}
    (h : ∀ c ∈ s.custody.table, c.tag = tag → (f c).stamp = c.stamp) : ValueKept s (updateContainer tag f s) := by
  refine ⟨rfl, rfl, ?_, rfl, rfl⟩
  show (List.map _ s.custody.table).map Container.stamp = _
  rw [List.map_map]
  refine List.map_congr_left (fun c hc => ?_)
  by_cases htag : c.tag = tag
  · simp [htag, h c hc htag]
  · simp [htag]

/-- The update changes nothing that the money laws read, whatever container it meets. -/
theorem updateContainer_kept_of_stamp (tag : Nat) {f : Container → Container} (h : ∀ c, (f c).stamp = c.stamp)
    (s : State) : ValueKept s (updateContainer tag f s) :=
  updateContainer_kept (fun c _ _ => h c)

/-- The update moves a container between states other than NESTED. -/
theorem updateContainer_kept_of_unnested {tag : Nat} {f : Container → Container} (hn : Unnested s tag)
    (h : ∀ c, (f c).tag = c.tag ∧ (f c).value = c.value ∧ (f c).counted = c.counted ∧ (f c).state ≠ .nested) :
    ValueKept s (updateContainer tag f s) :=
  updateContainer_kept (fun c hc htag => by simp [stamp_eq_iff, h c, hn c hc htag])

/-! ### Handover exchanges -/

theorem becomeOverdue_kept {c : Container} (hn : Unnested s c.tag) : ValueKept s (becomeOverdue c s) := by
  have hupd := updateContainer_kept_of_unnested hn
    (f := fun c => { c with state := .overdue, recallEnds := none, overdueAlarm := true }) (fun _ => by simp)
  unfold becomeOverdue
  dsimp only
  split
  · exact hupd
  · exact hupd.then (by simp)

theorem recordOffer_kept {c : Container} (hn : Unnested s c.tag) (receiver purpose : Nat) :
    ValueKept s (recordOffer c receiver purpose s) := by
  have hupd := updateContainer_kept_of_unnested hn (f := offered s receiver purpose) (fun _ => by simp [offered])
  have hcount : ValueKept s { updateContainer c.tag (offered s receiver purpose) s with
      handoverCounter := nextCounter s.handoverCounter } :=
    hupd.trans ⟨rfl, rfl, rfl, rfl, rfl⟩
  unfold recordOffer
  exact hcount.then (by simp)

theorem makeOffer_kept {c : Container} (hn : Unnested s c.tag) (receiver purpose : Nat) :
    ValueKept s (makeOffer c receiver purpose s) :=
  (recordOffer_kept hn receiver purpose).then (by simp [makeOffer])

theorem offerReported_kept (hd : Distinct s) (tag number : Nat) (ack : Bool) :
    ValueKept s (offerReported tag number ack s) := by
  unfold offerReported
  split
  · exact .refl s
  next c hc =>
  split
  next h hstate _ =>
    have hn : Unnested s tag := hd.unnested hc (by simp [hstate])
    split
    · exact .refl s
    · have hout : ValueKept s (raiseResult tag .giver .outbound
          (updateContainer tag (fun c => { c with state := .outbound }) s)) :=
        (updateContainer_kept_of_unnested hn (f := fun c => { c with state := .outbound }) (fun _ => by simp)).then (by simp)
      dsimp only
      split
      · split
        · have htag := tag_of_container? hc
          exact hout.trans (becomeOverdue_kept (hout.unnested (htag ▸ hn)))
        · exact hout
      · refine ValueKept.then (updateContainer_kept_of_unnested hn (f := fun c =>
          { c with
            state := .held, handover := none, lastResult := .noAnswer,
            refusal := some { receiver := h.peer, number := h.number, closes := s.clock + Config.refusalWindow } })
          (fun _ => by simp)) (by simp)
  · exact .refl s

theorem makeChipOffer_kept {c : Container} (hd : Distinct s) (hn : Unnested s c.tag) (receiver purpose : Nat) :
    ValueKept s (makeChipOffer c receiver purpose s) := by
  have hrec := recordOffer_kept hn receiver purpose
  unfold makeChipOffer
  dsimp only
  split
  · exact hrec.then (by simp)
  · have hsent := hrec.then (u := chipFrame receiver (offerFrame c receiver purpose s) (recordOffer c receiver purpose s))
      (by simp)
    exact hsent.trans (offerReported_kept (hsent.distinct hd) ..)

theorem dropDeferred_kept (tag : Nat) (s : State) : ValueKept s (dropDeferred tag s) :=
  (updateContainer_kept_of_stamp tag (f := fun c => { c with lastResult := .refused .countBlocked }) (fun _ => rfl) s).then
    (by simp [dropDeferred])

/-- A deferred offer is made of a container that is not NESTED, or dropped (R84). -/
theorem settleDeferred_kept {tag : Nat} {undamaged : Bool} (hd : Distinct s)
    (hn : undamaged = true → Unnested s tag) : ValueKept s (settleDeferred tag undamaged s) := by
  have hcleared := updateContainer_kept_of_stamp tag (f := fun c => { c with deferred := none }) (fun _ => rfl) s
  unfold settleDeferred
  split
  · exact .refl s
  next c hc =>
  split
  · exact .refl s
  next d _ =>
  dsimp only
  split
  next hmade =>
    have hundamaged : undamaged = true := by simp only [Bool.and_eq_true] at hmade; exact hmade.1
    have htag := tag_of_container? hc
    exact hcleared.trans (makeChipOffer_kept (hcleared.distinct hd) (htag ▸ hcleared.unnested (hn hundamaged)) ..)
  next => exact hcleared.trans (dropDeferred_kept tag _)

theorem returnToHeld_kept {c : Container} (hn : Unnested s c.tag) (r : LastResult) (o : NoteOutcome) :
    ValueKept s (returnToHeld c r o s) :=
  (updateContainer_kept_of_unnested hn (f := returned r) (fun _ => by simp [returned])).then (by simp [returnToHeld])

theorem applyWindow_kept (tag : Nat) (r : LastResult) (o : NoteOutcome) (s : State) :
    ValueKept s (applyWindow tag r o s) :=
  (updateContainer_kept_of_stamp tag (f := fun c => { c with lastResult := r, refusal := none }) (fun _ => rfl) s).then
    (by simp [applyWindow])

theorem releaseLock_kept (tag : Nat) (s : State) : ValueKept s (releaseLock tag s) := by
  refine updateContainer_kept_of_stamp tag (fun c => ?_) s
  unfold heldAgain
  split
  next h => simp [stamp_eq_iff, h]
  next => rfl

/-! ### Reports without an acknowledge -/

theorem takenReported_kept (tag : Nat) (s : State) : ValueKept s (takenReported tag false s) := by
  refine Within.valueKept ?_
  unfold takenReported
  dsimp only
  repeat' split
  all_goals first | contradiction | simp

theorem report_kept (hd : Distinct s) (f : QueuedFrame) : ValueKept s (report f false s) := by
  unfold report
  split
  · exact offerReported_kept hd ..
  · exact takenReported_kept ..
  · exact Within.valueKept (by simp)
  · exact Within.valueKept (by simp)
  all_goals exact .refl s

/-- The reports with which a queue is emptied (R40). -/
theorem emptyQueue_kept (hd : Distinct s) : ValueKept s (emptyQueue s) := by
  have hquiet : ValueKept s (setQueue [] s) := Within.valueKept (by simp)
  refine foldl_keeps (P := fun u => ValueKept s u) (fun u f hu => ?_) _ hquiet
  exact hu.trans (report_kept (hu.distinct hd) f)

theorem enterDuplicate_kept (hd : Distinct s) (cause : DuplicateCause) (serial : Option (BitVec 32)) :
    ValueKept s (enterDuplicate cause serial s) := by
  unfold enterDuplicate
  dsimp only
  generalize ({ stationAt .duplicate s.member with duplicate := _ } : Membership) = m
  have hquiet : ValueKept s (raiseAlarm .duplicateStation (releaseSlot (quietLoop { s with member := m }))) :=
    ValueKept.then (t := { s with member := m }) ⟨rfl, rfl, rfl, rfl, rfl⟩ (by simp)
  exact hquiet.trans (emptyQueue_kept (hquiet.distinct hd))

theorem enterStopped_kept (hd : Distinct s) : ValueKept s (enterStopped s) := by
  have hquiet : ValueKept s (releaseSlot (quietLoop { s with member := stationAt .stopped s.member })) :=
    ⟨rfl, rfl, rfl, rfl, rfl⟩
  unfold enterStopped
  exact (hquiet.trans (emptyQueue_kept (hquiet.distinct hd))).then (by simp)

end Kept

end Sys2Proof.Machine

/-! PROOFS. Movements of value: by how much an operation changes the accountable total beyond the totals (R15), while no total
saturates (R14). -/

namespace Sys2Proof.Machine

/-- From `s` to `t` the mark is not cleared, and while it stays clear the balance of R15 grows by `d`. -/
structure Shift (d : Int) (s t : State) : Prop where
  clear : t.custody.saturated = false → s.custody.saturated = false ∧ t.balance = s.balance + d

section Shifts

variable {s t u : State} {d e : Int}

/-! ### Composition -/

theorem Shift.trans (h : Shift d s t) (k : Shift e t u) : Shift (d + e) s u := by
  refine ⟨fun hu => ?_⟩
  obtain ⟨ht, hbal⟩ := k.clear hu
  obtain ⟨hs, hbal'⟩ := h.clear ht
  exact ⟨hs, by rw [hbal, hbal', add_assoc]⟩

theorem Shift.of_eq (h : Shift d s t) (hd : d = e) : Shift e s t := hd ▸ h

/-! ### The accountable total -/

/-- What a container counts for in the accountable total: nothing while NESTED (R15). -/
def Container.worth (c : Container) : Nat := if c.state = .nested then 0 else c.value

theorem containerValue_eq (l : List Container) : containerValue l = (l.map Container.worth).sum := by
  induction l with
  | nil => rfl
  | cons c l ih =>
    unfold containerValue at ih ⊢
    by_cases h : c.state = .nested <;> simp [h, Container.worth, ih]

theorem worth_of_stamp {c e : Container} (h : c.stamp = e.stamp) : c.worth = e.worth := by
  obtain ⟨-, hvalue, -, hnested⟩ := (stamp_eq_iff c e).mp h
  unfold Container.worth
  by_cases hc : c.state = .nested <;> by_cases he : e.state = .nested <;> simp_all

theorem containerValue_congr {l m : List Container} (h : l.map Container.stamp = m.map Container.stamp) :
    containerValue l = containerValue m := by
  rw [containerValue_eq, containerValue_eq]
  have hworth : l.map Container.worth = m.map Container.worth := by
    induction l generalizing m with
    | nil => cases m with
      | nil => rfl
      | cons _ _ => simp at h
    | cons c l ih => cases m with
      | nil => simp at h
      | cons e m =>
        simp only [List.map_cons, List.cons.injEq] at h ⊢
        exact ⟨worth_of_stamp h.1, ih h.2⟩
  rw [hworth]

theorem positionValue_congr (hcounts : t.position.counts = s.position.counts) (hdenoms : t.cfg.denoms = s.cfg.denoms) :
    t.positionValue = s.positionValue := by
  simp [State.positionValue, State.pieces, Settings.face, Settings.denom, hcounts, hdenoms]

/-- What the money laws do not read does not shift the balance. -/
theorem ValueKept.shift (h : ValueKept s t) : Shift 0 s t := by
  refine ⟨fun ht => ?_⟩
  refine ⟨h.saturated ▸ ht, ?_⟩
  rw [State.balance, State.balance, State.accountable, State.accountable, positionValue_congr h.counts h.denoms,
    containerValue_congr h.stamps, h.totals, add_zero]

theorem Shift.refl (s : State) : Shift 0 s s := (ValueKept.refl s).shift

theorem Shift.kept (h : Shift d s t) (k : ValueKept t u) : Shift d s u := (h.trans k.shift).of_eq (add_zero d)

theorem Shift.then (h : Shift d s t) (k : Within valueFree t u) : Shift d s u := h.kept k.valueKept

theorem ValueKept.shift_trans (k : ValueKept s t) (h : Shift d t u) : Shift d s u :=
  (k.shift.trans h).of_eq (zero_add d)

/-! ### Totals -/

/-- The sign with which a total stands in the identity of R15. -/
def TotalName.sign : TotalName → Int
  | .opening | .intake | .received | .admitted | .difference => 1
  | .payout | .released | .dispatched => -1

theorem identity_put (a : Totals) (k : TotalName) (v : Int) :
    (a.put k v).identity = a.identity + k.sign * (v - a.get k) := by
  cases k <;> simp only [Totals.put, Totals.get, Totals.identity, TotalName.sign] <;> ring

theorem boundTotal_eq {v : Int} (h : saturates v = false) : boundTotal v = v := by
  have hno := mt (saturates_iff v).mpr (by simp [h])
  simp only [boundTotal, Config.totalMax]
  omega

/-- A total that takes a value off the balance, or adds one (R14, R15). -/
theorem changeTotal_shift (k : TotalName) (v : Int) (s : State) : Shift (-(k.sign * v)) s (changeTotal k v s) := by
  refine ⟨fun ht => ?_⟩
  obtain ⟨htotals, hsat⟩ := changeTotal_totals s k v
  obtain ⟨⟨-, -, hcfg, -⟩, -, htable, -, -, -, -, -, -, hpos, -⟩ := changeTotal_keeps s k v
  rw [hsat, Bool.or_eq_false_iff] at ht
  refine ⟨ht.1, ?_⟩
  have hposition : (changeTotal k v s).positionValue = s.positionValue :=
    positionValue_congr (congrArg _ hpos) (congrArg _ hcfg)
  rw [State.balance, State.balance, State.accountable, State.accountable, hposition, htable, htotals,
    boundTotal_eq ht.2, identity_put]
  ring

/-! ### Containers -/

/-- Only the table changes. -/
theorem setTable_shift {l : List Container} (s : State)
    (h : (containerValue l : Int) = containerValue s.custody.table + d) : Shift d s (setTable l s) := by
  refine ⟨fun ht => ?_⟩
  refine ⟨ht, ?_⟩
  have hpos : (setTable l s).positionValue = s.positionValue := rfl
  have hrest : (setTable l s).custody.totals = s.custody.totals := rfl
  have htable : (setTable l s).custody.table = l := rfl
  rw [State.balance, State.balance, State.accountable, State.accountable, hpos, hrest, htable]
  push_cast
  rw [h]
  ring

theorem appendContainer_shift (c : Container) (s : State) : Shift c.worth s (appendContainer c s) :=
  setTable_shift s (by simp [containerValue_eq])

theorem containerValue_remove {l : List Container} (hd : (l.map (·.tag)).Nodup) {c : Container} (hc : c ∈ l) :
    containerValue (l.filter (fun e => e.tag != c.tag)) + c.worth = containerValue l := by
  rw [containerValue_eq, containerValue_eq]
  induction l with
  | nil => simp at hc
  | cons e l ih =>
    rw [List.map_cons, List.nodup_cons] at hd
    obtain rfl | hmem := List.mem_cons.mp hc
    · have hrest : l.filter (fun e => e.tag != c.tag) = l :=
        List.filter_eq_self.mpr (fun e he => by
          simp only [bne_iff_ne, ne_eq]
          intro htag
          exact hd.1 (htag ▸ List.mem_map_of_mem he))
      simp [hrest, add_comm]
    · have hne : e.tag ≠ c.tag := fun htag => hd.1 (htag ▸ List.mem_map_of_mem hmem)
      simp [hne, add_assoc, ih hd.2 hmem]

theorem removeContainer_shift (hd : Distinct s) {c : Container} (hc : c ∈ s.custody.table) :
    Shift (-c.worth) s (removeContainer c.tag s) := by
  refine setTable_shift s ?_
  have h := containerValue_remove hd hc
  omega

theorem containerValue_update {l : List Container} (hd : (l.map (·.tag)).Nodup) {c : Container} (hc : c ∈ l)
    (f : Container → Container) :
    containerValue (l.map (fun e => if e.tag == c.tag then f e else e)) + c.worth = containerValue l + (f c).worth := by
  rw [containerValue_eq, containerValue_eq]
  induction l with
  | nil => simp at hc
  | cons e l ih =>
    rw [List.map_cons, List.nodup_cons] at hd
    obtain rfl | hmem := List.mem_cons.mp hc
    · have hrest : l.map (fun e => if e.tag == c.tag then f e else e) = l := by
        conv_rhs => rw [← List.map_id l]
        refine List.map_congr_left (fun e he => if_neg ?_)
        simp only [beq_iff_eq]
        intro htag
        exact hd.1 (htag ▸ List.mem_map_of_mem he)
      simp only [List.map_cons, beq_self_eq_true, if_true, hrest, List.sum_cons]
      omega
    · have hne : e.tag ≠ c.tag := fun htag => hd.1 (htag ▸ List.mem_map_of_mem hmem)
      have hih := ih hd.2 hmem
      simp only [List.map_cons, beq_iff_eq, hne, if_false, List.sum_cons] at hih ⊢
      omega

theorem updateContainer_shift (hd : Distinct s) {c : Container} (hc : c ∈ s.custody.table) (f : Container → Container) :
    Shift ((f c).worth - c.worth) s (updateContainer c.tag f s) := by
  refine setTable_shift s ?_
  have h := containerValue_update hd hc f
  omega

/-- The update changes one container's share, in a table known as far as the money laws read it. -/
theorem updateContainer_shift_stamp (hd : Distinct s) {c : Container}
    (hc : c ∈ s.custody.table) (f : Container → Container) {v : Int}
    (hf : ∀ e, e.stamp = c.stamp → ((f e).worth : Int) - e.worth = v)
    (k : ValueKept s t) : Shift v t (updateContainer c.tag f t) := by
  obtain ⟨e, he, hstamp⟩ := k.exists_stamp hc
  have htag : e.tag = c.tag := ((stamp_eq_iff e c).mp hstamp).1
  rw [← htag]
  exact (updateContainer_shift (k.distinct hd) he f).of_eq (hf e hstamp)

/-! ### The position -/

/-- The value of a count for each slot. -/
def slotValue (cfg : Settings) (f : Nat → Nat) : Nat := (slots.map (fun d => f d * cfg.face d)).sum

theorem slotValue_add (cfg : Settings) (f g : Nat → Nat) :
    slotValue cfg (fun d => f d + g d) = slotValue cfg f + slotValue cfg g := by
  unfold slotValue
  rw [← List.sum_map_add]
  simp only [add_mul]

theorem slotValue_congr (cfg : Settings) {f g : Nat → Nat} (h : ∀ d < 12, f d = g d) : slotValue cfg f = slotValue cfg g := by
  unfold slotValue
  congr 1
  exact List.map_congr_left (fun d hd => by rw [h d (List.mem_range.mp hd)])

theorem clampedValue_eq (cfg : Settings) (f : Nat → Nat) : clampedValue cfg (clampedSlots f) = slotValue cfg f := by
  unfold clampedValue clampedSlots slotValue
  induction slots with
  | nil => rfl
  | cons d l ih =>
    by_cases h : f d = 0
    · simp [h, ih]
    · simp [h, ih]

theorem positionValue_eq (s : State) : s.positionValue = slotValue s.cfg s.pieces := rfl

theorem tallyValue_eq (cfg : Settings) (good : List Nat) : tallyValue cfg good = slotValue cfg (atSlot good) := rfl

theorem pieces_addPieces (good : List Nat) (s : State) {d : Nat} (h : d < 12) :
    (addPieces good s).pieces d = min Config.countMax (s.pieces d + atSlot good d) := by
  simp [State.pieces, addPieces, h]

/-- The clamped count and what does not fit come to the whole. -/
theorem clamp_split (n most : Nat) : min most n + (n - most) = n := by
  omega

theorem pieces_takePieces (good : List Nat) (s : State) {d : Nat} (h : d < 12) :
    (takePieces good s).pieces d = s.pieces d - atSlot good d := by
  simp [State.pieces, takePieces, h]

theorem pieces_takeComp (c : Composition) (s : State) {d : Nat} (h : d < 12) :
    (takeComp c s).pieces d = s.pieces d - compAt c d := by
  simp [State.pieces, takeComp, h]

/-- Only the position counts change. -/
theorem Shift.of_counts (hcfg : t.cfg = s.cfg) (hcustody : t.custody = s.custody)
    (h : (slotValue s.cfg t.pieces : Int) = slotValue s.cfg s.pieces + d) : Shift d s t := by
  refine ⟨fun ht => ?_⟩
  refine ⟨hcustody ▸ ht, ?_⟩
  rw [State.balance, State.balance, State.accountable, State.accountable, positionValue_eq, positionValue_eq, hcustody,
    hcfg]
  push_cast
  rw [h]
  ring

/-- What does not fit is missing from the value of the good pieces (R116, R119). -/
theorem addPieces_shift (good : List Nat) (s : State) :
    Shift (tallyValue s.cfg good - clampedValue s.cfg (excessSlots good s)) s (addPieces good s) := by
  refine Shift.of_counts rfl rfl ?_
  rw [excessSlots, clampedValue_eq, tallyValue_eq]
  have hsplit : slotValue s.cfg (fun d => s.pieces d + atSlot good d) =
      slotValue s.cfg (fun d => (addPieces good s).pieces d + excess (s.pieces d) (atSlot good d)) :=
    slotValue_congr _ (fun d hd => by
      rw [pieces_addPieces good s hd]
      exact (clamp_split _ _).symm)
  rw [slotValue_add, slotValue_add] at hsplit
  omega

/-- What is short goes on being counted as taken (R117, R119). -/
theorem takePieces_shift (good : List Nat) (s : State) :
    Shift (clampedValue s.cfg (shortSlots good s) - tallyValue s.cfg good) s (takePieces good s) := by
  refine Shift.of_counts rfl rfl ?_
  rw [shortSlots, clampedValue_eq, tallyValue_eq]
  have hsplit : slotValue s.cfg (fun d => (takePieces good s).pieces d + atSlot good d) =
      slotValue s.cfg (fun d => s.pieces d + shortfall (s.pieces d) (atSlot good d)) :=
    slotValue_congr _ (fun d hd => by rw [pieces_takePieces good s hd, shortfall]; omega)
  rw [slotValue_add, slotValue_add] at hsplit
  omega

/-! ### Compositions -/

/-- A proper composition, slot by slot (R2). -/
theorem valueOf_eq_slotValue (cfg : Settings) {c : Composition} (h : compProper c = true) :
    cfg.valueOf c = slotValue cfg (compAt c) := by
  simp only [compProper, Bool.and_eq_true, List.all_eq_true, decide_eq_true_eq] at h
  obtain ⟨hpairs, hnodup⟩ := h
  induction c with
  | nil => simp [Settings.valueOf, slotValue, compAt]
  | cons p c ih =>
    rw [List.map_cons, List.nodup_cons] at hnodup
    have hslot : p.1 < 12 := (hpairs p (by simp)).1.1
    have hrest := ih (fun q hq => hpairs q (List.mem_cons_of_mem _ hq)) hnodup.2
    have habsent : compAt c p.1 = 0 := by
      unfold compAt
      rw [List.find?_eq_none.mpr]
      · rfl
      · intro q hq
        simp only [beq_iff_eq]
        intro htag
        exact hnodup.1 (htag ▸ List.mem_map_of_mem hq)
    have hat : slotValue cfg (compAt (p :: c)) = slotValue cfg (fun d => (if d = p.1 then p.2 else 0) + compAt c d) :=
      slotValue_congr _ (fun d _ => by
        by_cases hd : d = p.1
        · rw [hd, habsent]; simp [compAt]
        · simp [compAt, hd, Ne.symm hd])
    have hone : slotValue cfg (fun d => if d = p.1 then p.2 else 0) = p.2 * cfg.face p.1 := by
      have hsum : slotValue cfg (fun d => if d = p.1 then p.2 else 0) =
          ∑ d ∈ Finset.range 12, (if d = p.1 then p.2 else 0) * cfg.face d := rfl
      simp [hsum, hslot]
    rw [hat, slotValue_add, hone, ← hrest]
    simp [Settings.valueOf]

theorem addComp_shift {c : Composition} (h : compProper c = true) (s : State) :
    Shift (s.cfg.valueOf c) s (addComp c s) := by
  refine Shift.of_counts rfl rfl ?_
  rw [valueOf_eq_slotValue s.cfg h]
  have hsplit : slotValue s.cfg (addComp c s).pieces = slotValue s.cfg (fun d => s.pieces d + compAt c d) :=
    slotValue_congr _ (fun d hd => pieces_addComp c s hd)
  rw [slotValue_add] at hsplit
  omega

/-- A covered composition lists no more than the position holds. -/
theorem compAt_le_of_covers {c : Composition} (h : s.covers c = true) (d : Nat) : compAt c d ≤ s.pieces d := by
  unfold compAt
  cases hfind : c.find? (fun p => p.1 == d) with
  | none => simp
  | some p =>
    have hslot : p.1 = d := by simpa using List.find?_some hfind
    simpa [hslot] using List.all_eq_true.mp h p (List.mem_of_find?_eq_some hfind)

/-- A composition that the position covers is taken from it whole (R11). -/
theorem takeComp_shift {c : Composition} (h : compProper c = true) (hcovers : s.covers c = true) :
    Shift (-(s.cfg.valueOf c)) s (takeComp c s) := by
  refine Shift.of_counts rfl rfl ?_
  rw [valueOf_eq_slotValue s.cfg h]
  have hsplit : slotValue s.cfg (fun d => (takeComp c s).pieces d + compAt c d) = slotValue s.cfg s.pieces :=
    slotValue_congr _ (fun d hd => by
      rw [pieces_takeComp c s hd]
      exact Nat.sub_add_cancel (compAt_le_of_covers hcovers d))
  rw [slotValue_add] at hsplit
  omega

end Shifts

end Sys2Proof.Machine

/-! PROOFS. What each exchange, batch and request on the books does to the identity of R15. -/

namespace Sys2Proof.Machine

section Movements

variable {s t : State}

/-! ### Handover -/

/-- The table is written, then what no money law reads. -/
theorem distinct_of_table (hd : Distinct s) (h : t.custody.table = s.custody.table) : Distinct t := by
  unfold Distinct
  rwa [h]

theorem worth_of_unnested {c : Container} (h : c.state ≠ .nested) : c.worth = c.value := if_neg h

/-- A container that enters brings its value to the table and to the received total (R72). -/
theorem completeEntry_shift (e : InboundEntry) (s : State) : Shift 0 s (completeEntry e s) := by
  have happend := appendContainer_shift (enteringContainer s.cfg e) s
  have hworth : (enteringContainer s.cfg e).worth = e.value := worth_of_unnested (by simp [enteringContainer])
  rw [hworth] at happend
  have hmoved := happend.trans (changeTotal_shift .received e.value _)
  exact (hmoved.then (by simp [completeEntry])).of_eq (by simp [TotalName.sign])

theorem takenReported_shift (tag : Nat) (ack : Bool) (s : State) : Shift 0 s (takenReported tag ack s) := by
  cases ack with
  | false => exact (takenReported_kept tag s).shift
  | true =>
    unfold takenReported
    dsimp only
    repeat' split
    · exact .refl s
    · exact .refl s
    · exact completeEntry_shift _ s
    · contradiction
    · contradiction

theorem report_shift (hd : Distinct s) (f : QueuedFrame) (ack : Bool) : Shift 0 s (report f ack s) := by
  unfold report
  split
  · exact (offerReported_kept hd ..).shift
  · exact takenReported_shift ..
  · exact (Within.valueKept (by simp)).shift
  · exact (Within.valueKept (by simp)).shift
  all_goals exact .refl s

theorem reportLine_shift (hd : Distinct s) (q : Option QueuedFrame) (ack : Bool) : Shift 0 s (reportLine q ack s) := by
  unfold reportLine
  split
  · exact .refl s
  · exact report_shift hd ..

theorem sentOf_shift (hd : Distinct s) (kind : Payload → Bool) (ack : Bool) : Shift 0 s (sentOf kind ack s) := by
  unfold sentOf
  split
  · exact .refl s
  split
  · next f _ _ =>
    have hleft : ValueKept s (startWait f.payload (setScore (s.loop.faultScore - 1) (leaveLine f.payload s))) :=
      Within.valueKept (by simp)
    unfold finishFrame
    exact hleft.shift_trans (reportLine_shift (hleft.distinct hd) ..)
  · exact .refl s

theorem readBackFault_shift (hd : Distinct s) : Shift 0 s (readBackFault s) := by
  unfold readBackFault
  split
  · exact .refl s
  · next f _ =>
    have hleft : ValueKept s (leaveLine f.payload s) := Within.valueKept (by simp)
    unfold faultFrame
    exact (hleft.shift_trans (reportLine_shift (hleft.distinct hd) s.lineFrame false)).then (by simp)

theorem announceLost_kept (hd : Distinct s) (winner : BitVec 32) : ValueKept s (announceLost winner s) := by
  unfold announceLost
  repeat' split
  · exact .refl s
  · exact enterDuplicate_kept hd ..
  · exact .refl s

/-- A container released takes its value off the table and off the identity (R71). -/
theorem releaseContainer_shift (hd : Distinct s) {c : Container} (hc : c ∈ s.custody.table) (hn : c.state ≠ .nested)
    (h : HandoverFields) : Shift 0 s (releaseContainer c h s) := by
  have htable : (changeTotal .released c.value s).custody.table = s.custody.table := by simp
  have hmoved := (changeTotal_shift .released c.value s).trans
    (removeContainer_shift (distinct_of_table hd htable) (htable ▸ hc))
  rw [worth_of_unnested hn] at hmoved
  unfold releaseContainer
  dsimp only
  generalize removeContainer c.tag (changeTotal .released c.value s) = u at hmoved ⊢
  generalize keepLast _ _ = l
  have hreleased : ValueKept u { u with custody := { u.custody with releases := l } } := ⟨rfl, rfl, rfl, rfl, rfl⟩
  exact ((hmoved.kept hreleased).then (by simp)).of_eq (by simp [TotalName.sign])

/-- A container that a TAKEN releases is in transit (R71). -/
theorem releasedBy_spec {sender : Nat} {p : TakenPayload} {c : Container} {h : HandoverFields}
    (hr : s.releasedBy sender p = some (c, h)) : s.container? p.tag = some c ∧ c.handover = some h ∧
      releases sender p c h = true := by
  unfold State.releasedBy at hr
  split at hr
  · cases hr
  next d hd =>
  split at hr
  · cases hr
  next k hk =>
  split at hr
  · next hrel =>
    cases hr
    exact ⟨hd, hk, hrel⟩
  · cases hr

theorem ne_nested_of_inTransit {c : Container} (h : inTransit c.state = true) : c.state ≠ .nested := by
  rintro hn
  simp [hn, inTransit] at h

/-! ### Frames heard -/

theorem hearTaken_shift (hd : Distinct s) (sender : Nat) (p : TakenPayload) : Shift 0 s (hearTaken sender p s).1 := by
  unfold hearTaken acted notActed
  split
  · next c h hr =>
    obtain ⟨hc, -, hrel⟩ := releasedBy_spec hr
    have htransit : inTransit c.state = true := by
      simp only [releases, Bool.and_eq_true] at hrel
      exact hrel.1.1.1
    exact releaseContainer_shift hd (mem_of_container? hc) (ne_nested_of_inTransit htransit) h
  · exact (Within.valueKept (by simp)).shift

/-- A container in transit to a station is not NESTED. -/
theorem unnested_of_inTransitTo (hd : Distinct s) {sender tag number : Nat} {c : Container}
    (h : s.inTransitTo sender tag number = some c) : Unnested s c.tag ∧ c.tag = tag := by
  obtain ⟨hc, htransit⟩ := Option.filter_eq_some_iff.mp h
  have htag := tag_of_container? hc
  simp only [Bool.and_eq_true] at htransit
  exact ⟨htag ▸ hd.unnested hc (ne_nested_of_inTransit htransit.1), htag⟩

theorem hearRecallOk_kept (hd : Distinct s) (sender : Nat) (p : TagNumber) :
    ValueKept s (hearRecallOk sender p s).1 := by
  unfold hearRecallOk acted notActed
  split
  · next c hc => exact returnToHeld_kept (unnested_of_inTransitTo hd hc).1 ..
  · exact .refl s

theorem hearRefuse_kept (hd : Distinct s) (sender : Nat) (p : RefusePayload) : ValueKept s (hearRefuse sender p s).1 := by
  have hlate : ValueKept s (updateContainer p.tag (fun c => { c with lastResult := .refused .tooLate }) s) :=
    updateContainer_kept_of_stamp p.tag (f := fun c => { c with lastResult := .refused .tooLate }) (fun _ => rfl) s
  unfold hearRefuse hearRefused hearDeclined hearTooLate hearNotOffered acted notActed
  repeat' split
  all_goals first
    | exact .refl s
    | exact applyWindow_kept ..
    | exact returnToHeld_kept (unnested_of_inTransitTo hd (by assumption)).1 ..
    | (refine Within.valueKept ?_; simp; done)
    | exact hlate.then (by simp)

theorem hearAnswer_shift (sender : Nat) (p : AnswerPayload) (s : State) : Shift 0 s (hearAnswer sender p s).1 := by
  have hresolved (e : InboundEntry) : Shift 0 s (unresolvedCleared e (completeEntry e s)) :=
    (completeEntry_shift e s).then (by simp)
  unfold hearAnswer answerHeld answerReleased resolveEntry acted notActed
  repeat' split
  all_goals first
    | exact .refl s
    | exact hresolved _
    | (refine (Within.valueKept ?_).shift; simp)

theorem handle_shift (hd : Distinct s) (f : Frame) : Shift 0 s (handle f s).1 := by
  unfold handle
  split
  · exact ((within_hearAlarm _ _).mono (by simp)).valueKept.shift
  · exact hearTaken_shift hd ..
  · exact (hearRecallOk_kept hd ..).shift
  · exact (hearRefuse_kept hd ..).shift
  · exact hearAnswer_shift ..
  · exact ((within_hearOffer _ _).mono (by simp)).valueKept.shift
  · exact ((within_hearRecall _ _).mono (by simp)).valueKept.shift
  · exact ((within_hearQuery _ _).mono (by simp)).valueKept.shift
  · exact ((within_hearClaim _ _).mono (by simp)).valueKept.shift
  · exact ((within_hearAward _ _).mono (by simp)).valueKept.shift
  · exact ((within_hearNeed _ _).mono (by simp)).valueKept.shift
  · exact ((within_hearWithdraw _ _).mono (by simp)).valueKept.shift
  all_goals exact .refl s

theorem deliverTargeted_shift (hd : Distinct s) (f : Frame) : Shift 0 s (deliverTargeted f s) := by
  unfold deliverTargeted deliver
  dsimp only
  repeat' split
  · exact (handle_shift hd f).then (by simp)
  · exact handle_shift hd f
  · exact .refl s

theorem ownNumberHeard_kept (hd : Distinct s) (f : Frame) : ValueKept s (ownNumberHeard f s) := by
  have hdriven (cause : DuplicateCause) (serial : Option (BitVec 32)) :
      ValueKept s (driveSlot (enterDuplicate cause serial s)) :=
    (enterDuplicate_kept hd cause serial).then (by simp)
  unfold ownNumberHeard
  repeat' split
  all_goals first
    | exact .refl s
    | exact enterDuplicate_kept hd ..
    | exact ⟨rfl, rfl, rfl, rfl, rfl⟩
    | exact hdriven ..
    | (refine Within.valueKept ?_; simp)

theorem receive_shift (hd : Distinct s) (f : Frame) : Shift 0 s (receive f s) := by
  have htaken : ValueKept s (lineTaken s) := Within.valueKept (by simp)
  have hown := htaken.trans (ownNumberHeard_kept (htaken.distinct hd) f)
  have htrack : ValueKept s (trackPeer f (lineTaken s)) := htaken.then (by simp)
  unfold receive hearOwnNumber hearPeer
  repeat' split
  · exact .refl s
  · exact htaken.shift
  · exact hown.shift
  · exact hown.shift_trans (deliverTargeted_shift (hown.distinct hd) f)
  · exact htrack.shift_trans (deliverTargeted_shift (htrack.distinct hd) f)

/-! ### The ends of batches and sessions -/

theorem applyIntake_shift {p : TallyPart} (hp : p.countedValue = tallyValue s.cfg p.good) :
    Shift 0 s (applyIntake p s) := by
  have hadd := addPieces_shift p.good s
  rw [← hp] at hadd
  unfold applyIntake
  generalize excessSlots p.good s = c at hadd
  have hintake := hadd.trans (changeTotal_shift .intake p.countedValue (addPieces p.good s))
  have hdone (v : State) (hv : Shift 0 s v) : Shift 0 s (evaluate (limitAlarm c v)) := hv.then (by simp)
  refine hdone _ ?_
  split
  · next h => exact hintake.of_eq (by simp [TotalName.sign, h])
  · exact (hintake.trans (changeTotal_shift .difference _ _)).of_eq (by simp only [TotalName.sign]; ring)

theorem applyPayout_shift {p : TallyPart} (hp : p.countedValue = tallyValue s.cfg p.good) :
    Shift 0 s (applyPayout p s) := by
  have htake := takePieces_shift p.good s
  rw [← hp] at htake
  unfold applyPayout
  generalize shortSlots p.good s = c at htake
  have hpayout := htake.trans (changeTotal_shift .payout p.countedValue (takePieces p.good s))
  have hdone (v : State) (hv : Shift 0 s v) : Shift 0 s (evaluate (limitAlarm c v)) := hv.then (by simp)
  refine hdone _ ?_
  split
  · next h => exact hpayout.of_eq (by simp [TotalName.sign, h])
  · exact (hpayout.trans (changeTotal_shift .difference _ _)).of_eq (by simp only [TotalName.sign]; ring)

/-- The pieces come in, the container goes, and the difference total takes what is between them (R114, R118). -/
theorem applyUnpack_shift (hd : Distinct s) {c : Container} (hc : c ∈ s.custody.table) (hn : c.state ≠ .nested)
    {p : TallyPart} (hp : p.countedValue = tallyValue s.cfg p.good) {r : ReconciliationPart} (hr : r.declared = c.value) :
    Shift 0 s (applyUnpack c.tag p r s) := by
  have hadd := addPieces_shift p.good s
  rw [← hp] at hadd
  unfold applyUnpack
  generalize excessSlots p.good s = e at hadd ⊢
  have hlimited : Shift (p.countedValue - clampedValue s.cfg e) s (limitAlarm e (addPieces p.good s)) :=
    hadd.then (by simp)
  have htable : (limitAlarm e (addPieces p.good s)).custody.table = s.custody.table := by simp
  dsimp only
  generalize limitAlarm e (addPieces p.good s) = u at hlimited htable ⊢
  have hdifference (v : Int) : Shift (p.countedValue - clampedValue s.cfg e - v) s (changeTotal .difference v u) :=
    (hlimited.trans (changeTotal_shift .difference v u)).of_eq (by simp only [TotalName.sign]; ring)
  have htables (v : Int) : (changeTotal .difference v u).custody.table = s.custody.table := by simp [htable]
  have hremoved (v : Int) : Shift (p.countedValue - clampedValue s.cfg e - v - c.value) s
      (removeContainer c.tag (changeTotal .difference v u)) :=
    ((hdifference v).trans (removeContainer_shift (distinct_of_table hd (htables v)) (htables v ▸ hc))).of_eq
      (by rw [worth_of_unnested hn]; ring)
  have hdone (v : State) (d : Int) (hv : Shift d s v) (h0 : d = 0) :
      Shift 0 s (evaluate (raiseIf (disputes r.cls) .variance (toldSetback true c.tag v))) :=
    (hv.then (by simp)).of_eq h0
  exact hdone _ _ (hremoved _) (by rw [hr]; ring)

/-- A container that a session has locked is COUNTING (R99). -/
theorem lockedTarget_spec {tag : Nat} {c : Container} (h : s.lockedTarget tag = some c) :
    s.container? tag = some c ∧ c.state = .counting := by
  obtain ⟨hc, hstate⟩ := Option.filter_eq_some_iff.mp h
  exact ⟨hc, by simpa using hstate⟩

theorem applyRecount_shift (hd : Distinct s) {c : Container} (hc : c ∈ s.custody.table) (hn : c.state ≠ .nested)
    (p : TallyPart) (r : ReconciliationPart) : Shift 0 s (applyRecount c.tag p r s) := by
  let f := fun c : Container => { c with state := .held, counted := some (countedGroup p r), disputed := disputes r.cls }
  have hupd : Shift 0 s (updateContainer c.tag f s) :=
    (updateContainer_shift hd hc f).of_eq (by
      rw [worth_of_unnested hn, worth_of_unnested (c := f c) (by simp [f])]
      simp [f])
  unfold applyRecount
  exact hupd.then (by simp [f])

theorem applyRecount_tags (tag : Nat) (p : TallyPart) (r : ReconciliationPart) (s : State) :
    (applyRecount tag p r s).custody.table.map (·.tag) = s.custody.table.map (·.tag) ∧
      Unnested (applyRecount tag p r s) tag := by
  have htable : (applyRecount tag p r s).custody.table =
      s.custody.table.map (fun c => if c.tag == tag then
        { c with state := .held, counted := some (countedGroup p r), disputed := disputes r.cls } else c) := by
    unfold applyRecount
    rw [(raiseIf_signals _ _ _).2.2.1]
    rfl
  refine ⟨?_, fun c hc htag => ?_⟩
  · rw [htable, List.map_map]
    refine List.map_congr_left (fun c _ => ?_)
    by_cases h : c.tag = tag <;> simp [h]
  · rw [htable] at hc
    obtain ⟨e, -, rfl⟩ := List.mem_map.mp hc
    by_cases h : e.tag = tag <;> simp_all

/-- The reconciliation that a batch carries is that of a container which its session has locked (R95). -/
def ReconFits (job : CountJob) (s : State) (r : Option ReconciliationPart) : Prop :=
  ∀ q, r = some q → ∃ c, s.container? job.tag = some c ∧ c.state = .counting ∧ q.declared = c.value

theorem applyBatch_shift (hd : Distinct s) {job : CountJob} {damaged : Bool} {p : TallyPart}
    {r : Option ReconciliationPart} (hp : p.countedValue = tallyValue s.cfg p.good) (hr : ReconFits job s r) : Shift 0 s (applyBatch job damaged p r s) := by
  have hlock : Shift 0 s (settleDeferred job.tag false (releaseLock job.tag s)) :=
    ((releaseLock_kept job.tag s).trans
      (settleDeferred_kept ((releaseLock_kept job.tag s).distinct hd) (by simp))).shift
  unfold applyBatch
  split
  · exact applyIntake_shift hp
  · exact applyPayout_shift hp
  next q _ =>
    obtain ⟨c, hc, hstate, -⟩ := hr q rfl
    have htag := tag_of_container? hc
    obtain ⟨htags, hunnested⟩ := applyRecount_tags job.tag p q s
    have hrecount : Shift 0 s (applyRecount job.tag p q s) :=
      htag ▸ applyRecount_shift hd (mem_of_container? hc) (by simp [hstate]) p q
    refine hrecount.kept (settleDeferred_kept ?_ (fun _ => hunnested))
    unfold Distinct
    rwa [htags]
  · exact hlock
  next q _ =>
    obtain ⟨c, hc, hstate, hdeclared⟩ := hr q rfl
    have htag := tag_of_container? hc
    have hunpack : Shift 0 s (applyUnpack job.tag p q s) :=
      htag ▸ applyUnpack_shift hd (mem_of_container? hc) (by simp [hstate]) hp hdeclared
    exact hunpack.then (by simp)
  · exact hlock

theorem endBatch_shift (hd : Distinct s) (cause : EndCause) (figure : Option Nat) : Shift 0 s (endBatch cause figure s) := by
  obtain ⟨_, he⟩ | ⟨job, _, he⟩ := endBatch_cases cause figure s <;> rw [he]
  · exact .refl s
  · have hset : ValueKept s (setCount (endedEngine job cause figure s) s) := Within.valueKept (by simp)
    have hp : (endedTally job s).countedValue = tallyValue s.cfg (endedTally job s).good := rfl
    have hr : ReconFits job s (endedRecon job figure s) := by
      intro q hq
      unfold endedRecon at hq
      split at hq
      · cases hq
      · obtain ⟨c, hc, rfl⟩ := Option.map_eq_some_iff.mp hq
        obtain ⟨hfound, hstate⟩ := lockedTarget_spec hc
        exact ⟨c, hfound, hstate, rfl⟩
    exact (hset.shift_trans (applyBatch_shift (damaged := endedDamaged job figure s) (hset.distinct hd) hp hr)).then
      (by simp)

/-! ### Counting commands -/

theorem onCountLine_shift {run : State → State} (h : Shift 0 s (run s)) : Shift 0 s (onCountLine run s) := by
  unfold onCountLine
  split
  exacts [.refl s, h]

theorem endRecord_shift (hd : Distinct s) (n : Nat) : Shift 0 s (endRecord n s) := by
  have hbegun : ValueKept s (beginBatch s) := Within.valueKept (by simp)
  unfold endRecord
  split
  · exact hbegun.shift_trans (endBatch_shift (hbegun.distinct hd) ..)
  · exact (Within.valueKept (by simp)).shift

theorem haltRecord_shift (hd : Distinct s) : Shift 0 s (haltRecord s) := by
  have hbegun : ValueKept s (damageBatch .halted (beginBatch s)) := Within.valueKept (by simp)
  have hdamaged : ValueKept s (damageBatch .halted s) := Within.valueKept (by simp)
  unfold haltRecord
  split
  · exact hbegun.shift_trans (endBatch_shift (hbegun.distinct hd) ..)
  · exact hdamaged.shift_trans (endBatch_shift (hdamaged.distinct hd) ..)
  · exact .refl s
  · exact (Within.valueKept (by simp)).shift
  · exact (Within.valueKept (by simp)).shift

theorem batchIdleEnd_shift (hd : Distinct s) : Shift 0 s (batchIdleEnd s) := by
  have habandoned : ValueKept s (abandonAssembly (setDiscarding false s)) := Within.valueKept (by simp)
  unfold batchIdleEnd
  dsimp only
  split
  · exact habandoned.shift_trans (endBatch_shift (habandoned.distinct hd) ..)
  · exact habandoned.shift

theorem abandonCount_kept (hd : Distinct s) (job : CountJob) (r : AbortReason) : ValueKept s (abandonCount job r s) := by
  have hclosed : ValueKept s (closeSession job (.aborted r) s) := Within.valueKept (by simp)
  have hreleased := hclosed.trans (releaseLock_kept job.tag _)
  exact hreleased.trans (settleDeferred_kept (hreleased.distinct hd) (by simp))

theorem noRecords_kept (hd : Distinct s) : ValueKept s (noRecords s) := by
  unfold noRecords
  split
  · split
    · exact .refl s
    next job _ => exact (abandonCount_kept hd job .noRecords).then (by simp)
  · exact .refl s

theorem countAbort_shift (hd : Distinct s) : Shift 0 s (countAbort s) := by
  have hrefused : Shift 0 s (refuse .badState s) := (Within.valueKept (by simp)).shift
  unfold countAbort
  split
  · split
    · exact hrefused
    next job _ =>
      suffices habort : Shift 0 s (abortSession job s) from habort.then (by simp)
      unfold abortSession
      split
      · split
        · exact endBatch_shift hd ..
        · exact (Within.valueKept (by simp)).shift
      · exact (abandonCount_kept hd ..).shift
  · exact hrefused

theorem countOpen_kept (hd : Distinct s) (f : CountOpenFields) : ValueKept s (countOpen f s) := by
  unfold countOpen countOpenStanding countOpenTarget
  repeat' split
  all_goals first
    | (refine Within.valueKept ?_; simp; done)
    | skip
  next m _ _ _ _ _ c hc _ hheld =>
    have hset : ValueKept s (setCount (openedEngine s m f) s) := Within.valueKept (by simp)
    have hn : Unnested s f.tag := hd.unnested hc (by simp only [ne_eq, not_not] at hheld; simp [hheld])
    have hlocked := hset.trans (updateContainer_kept_of_unnested (f := locked) (hset.unnested hn)
      (fun _ => by simp [locked]))
    exact hlocked.then (by simp)

/-! ### Requests on the books -/

theorem refuse_shift (st : Status) (s : State) : Shift 0 s (refuse st s) := (Within.valueKept (by simp)).shift

theorem makeUp_shift (f : MakeUpFields) (s : State) : Shift 0 s (makeUp f s) := by
  unfold makeUp
  repeat' split
  · exact refuse_shift ..
  · exact refuse_shift ..
  · exact refuse_shift ..
  next hform _ c _ =>
  unfold makeUpChecked
  repeat' split
  iterate 4 exact refuse_shift ..
  next hcovers =>
  have hproper : compProper f.comp = true := by
    have hrequired : compRequired f.comp = true := by
      by_contra h
      exact hform (.inr (by simpa using h))
    simp only [compRequired, Bool.and_eq_true] at hrequired
    exact hrequired.2
  have htaken := takeComp_shift (s := s) hproper (by simpa using hcovers)
  unfold makeUpAccepted
  have hmade := htaken.trans (appendContainer_shift (freshContainer f.tag c s.own (s.cfg.valueOf f.comp) (some f.comp)) _)
  exact (hmade.of_eq (by simp [Container.worth, freshContainer])).then (by simp)

/-- A container is worth its declared composition, as far as it has one (R2). -/
def DeclaredWorth (s : State) (tag : Nat) : Prop :=
  ∀ c k, s.container? tag = some c → c.comp = some k → compProper k = true ∧ s.cfg.valueOf k = c.value

theorem dismantle_shift (hd : Distinct s) {tag : Nat} (hw : DeclaredWorth s tag) : Shift 0 s (dismantle tag s) := by
  unfold dismantle
  repeat' split
  · exact refuse_shift ..
  · exact refuse_shift ..
  next c hc =>
  unfold dismantleFound
  repeat' split
  iterate 5 exact refuse_shift ..
  next hheld _ _ _ k hk _ =>
    obtain ⟨hproper, hvalue⟩ := hw c k hc hk
    have hadded := addComp_shift hproper s
    have hremoved := hadded.trans (removeContainer_shift (s := addComp k s) hd (mem_of_container? hc))
    have hworth : c.worth = c.value := worth_of_unnested (by simp only [ne_eq, not_not] at hheld; simp [hheld])
    unfold dismantleAccepted
    exact (hremoved.of_eq (by rw [hvalue, hworth]; ring)).then (by simp)
  · exact refuse_shift ..

theorem acceptVariance_shift (hd : Distinct s) (tag : Nat) : Shift 0 s (acceptVariance tag s) := by
  unfold acceptVariance
  repeat' split
  · exact refuse_shift ..
  · exact refuse_shift ..
  next c hc =>
  unfold acceptVarianceFound
  repeat' split
  · exact refuse_shift ..
  · exact refuse_shift ..
  next hheld _ g _ =>
  have hstate : c.state = .held := by
    by_contra h
    exact hheld (.inl h)
  have htable : (changeTotal .difference (varianceOf g.value c.value) s).custody.table = s.custody.table := by simp
  have hmoved := (changeTotal_shift .difference (varianceOf g.value c.value) s).trans
    (updateContainer_shift (distinct_of_table hd htable) (htable ▸ mem_of_container? hc) (acceptedCount g))
  unfold acceptVarianceAccepted
  refine (hmoved.of_eq ?_).then (by simp)
  rw [worth_of_unnested (c := c) (by simp [hstate]), worth_of_unnested (c := acceptedCount g c) (by simp [acceptedCount, hstate])]
  simp only [TotalName.sign, varianceOf, acceptedCount]
  ring

theorem atSafe_shift {run : State → State} (h : Shift 0 s (run s)) : Shift 0 s (atSafe run s) := by
  unfold atSafe
  repeat' split
  exacts [refuse_shift .., refuse_shift .., h]

theorem admitStock_shift (f : AdmitFields) (s : State) : Shift 0 s (admitStock f s) := by
  unfold admitStock
  repeat' split
  · exact refuse_shift ..
  · refine atSafe_shift ?_
    unfold admitChecked
    repeat' split
    iterate 4 exact refuse_shift ..
    unfold admitAccepted
    have hmoved := (appendContainer_shift (freshContainer f.tag .changeStock s.own f.value (givenComp f.comp)) s).trans
      (changeTotal_shift .admitted f.value _)
    exact (hmoved.of_eq (by simp [Container.worth, freshContainer, TotalName.sign])).then (by simp)
  · exact refuse_shift ..

theorem takeResolve_shift (tag : Nat) (s : State) : Shift 0 s (takeResolve tag s) := by
  unfold takeResolve resolveEntry
  repeat' split
  iterate 4 exact refuse_shift ..
  next e _ _ _ => exact (completeEntry_shift e s).then (by simp)

theorem sackOpen_shift (tag : Nat) (s : State) : Shift 0 s (sackOpen tag s) := by
  unfold sackOpen
  split
  · exact refuse_shift ..
  · refine atSafe_shift ?_
    unfold sackOpenChecked
    repeat' split
    · exact refuse_shift ..
    · exact refuse_shift ..
    · exact ((appendContainer_shift (freshSack tag s.own) s).of_eq
        (by simp [Container.worth, freshSack, freshContainer])).then (by simp)

end Movements

end Sys2Proof.Machine

/-! PROOFS. The sacks in the identity of R15 (R153), and every command (O38). -/

namespace Sys2Proof.Machine

section Sacks

variable {s t : State}

/-! ### Nesting -/

/-- Linking the last member leaves what the money laws read. -/
theorem linkLast_kept (k : SackFields) (member : Nat) (s : State) : ValueKept s (linkLast k member s) := by
  unfold linkLast
  split
  · exact .refl s
  · exact updateContainer_kept_of_stamp _ (f := linkNext (some member)) (fun _ => rfl) s

/-- One container of a table changes its share, the others keep theirs; the table is known as far as the money laws read it. -/
theorem update_other {c m : Container} (hm : m ∈ s.custody.table) (hne : m.tag ≠ c.tag) (f : Container → Container) :
    m ∈ (updateContainer c.tag f s).custody.table := by
  rw [updateContainer_table]
  exact List.mem_map.mpr ⟨m, hm, by simp [hne]⟩

/-- An update of one container keeps the tags. -/
theorem updateContainer_distinct (hd : Distinct s) {tag : Nat} {f : Container → Container} (hf : ∀ c, (f c).tag = c.tag) :
    Distinct (updateContainer tag f s) := by
  unfold Distinct
  rw [updateContainer_table, List.map_map]
  have htags : ((·.tag) ∘ fun c => if c.tag == tag then f c else c) = (·.tag : Container → Nat) := by
    funext c
    by_cases h : c.tag = tag <;> simp [h, hf]
  rwa [htags]

/-- A bag goes from the top level into a sack, whose value grows by the bag's (R153, R156). -/
theorem nestAccepted_shift (hd : Distinct s) {sack m : Container} {k : SackFields} (hsack : sack ∈ s.custody.table)
    (hm : m ∈ s.custody.table) (hne : sack.tag ≠ m.tag) (hs : sack.state ≠ .nested) (hmn : m.state ≠ .nested) :
    Shift 0 s (nestAccepted sack k m s) := by
  have hlinked := linkLast_kept k m.tag s
  obtain ⟨m', hm', hmstamp⟩ := hlinked.exists_stamp hm
  obtain ⟨sack', hsack', hsstamp⟩ := hlinked.exists_stamp hsack
  obtain ⟨hmtag, hmvalue, -, -⟩ := (stamp_eq_iff m' m).mp hmstamp
  obtain ⟨hstag, -, -, hsnested⟩ := (stamp_eq_iff sack' sack).mp hsstamp
  have hmworth : m'.worth = m.value := (worth_of_stamp hmstamp).trans (worth_of_unnested hmn)
  have hd' := hlinked.distinct hd
  have hnested : Shift (-m.value) s (updateContainer m.tag (nestMember sack.tag) (linkLast k m.tag s)) := by
    have h := hlinked.shift_trans (updateContainer_shift hd' hm' (nestMember sack.tag))
    rw [hmtag] at h
    exact h.of_eq (by rw [hmworth]; simp [Container.worth, nestMember])
  have hother : sack' ∈ (updateContainer m.tag (nestMember sack.tag) (linkLast k m.tag s)).custody.table := by
    have h := update_other (c := m') hsack' (by rw [hstag, hmtag]; exact hne) (nestMember sack.tag)
    rwa [hmtag] at h
  have hd'' : Distinct (updateContainer m.tag (nestMember sack.tag) (linkLast k m.tag s)) :=
    updateContainer_distinct hd' (fun _ => rfl)
  have hgained := hnested.trans (updateContainer_shift hd'' hother (gainMember m.tag m.value k))
  rw [hstag] at hgained
  have hstate : sack'.state ≠ .nested := fun h => hs (by simpa [h] using hsnested.symm)
  unfold nestAccepted
  refine (hgained.of_eq ?_).then (by simp)
  rw [worth_of_unnested (c := gainMember m.tag m.value k sack') hstate, worth_of_unnested hstate]
  simp [gainMember]

/-- A sack of the table is at the top level (R6). -/
def SacksOpen (s : State) : Prop := ∀ c ∈ s.custody.table, c.cls = .courierSack → c.state ≠ .nested

theorem PartsInv.sacksOpen (h : PartsInv s) : SacksOpen s := fun c hc hcls => by simp [h.sackHeld c hc hcls]

theorem nest_shift (hd : Distinct s) (hs : SacksOpen s) (f : NestFields) : Shift 0 s (nest f s) := by
  unfold nest
  split
  next sack m hsack hm =>
    unfold nestFound
    split
    next k hcls _ =>
      unfold nestChecked
      repeat' split
      iterate 7 exact refuse_shift ..
      next hbag hheld _ _ _ _ =>
        refine nestAccepted_shift hd (mem_of_container? hsack) (mem_of_container? hm) ?_
          (hs sack (mem_of_container? hsack) hcls) ?_
        · intro htag
          have heq := hd.eq_of_tag (mem_of_container? hsack) (mem_of_container? hm) htag
          rw [← heq, hcls] at hbag
          exact hbag (by simp)
        · simp only [ne_eq, not_not] at hheld
          simp [hheld]
    · exact refuse_shift ..
  · exact refuse_shift ..

/-! ### Unnesting -/

/-- A member is worth at most its sack, which is at the top level (R153). -/
def MemberFits (s : State) (tag : Nat) : Prop :=
  ∀ m n k, s.container? tag = some m → m.nesting = some n → s.container? n.parent = some k →
    m.value ≤ k.value ∧ k.state ≠ .nested

/-- Bridging the gap in a chain leaves what the money laws read. -/
theorem bridge_kept (tag : Nat) (next : Option Nat) (s : State) :
    ValueKept s (setTable (s.custody.table.map (bridge tag next)) s) := by
  refine ⟨rfl, rfl, ?_, rfl, rfl⟩
  show (List.map _ s.custody.table).map Container.stamp = _
  rw [List.map_map]
  refine List.map_congr_left (fun c _ => ?_)
  simp only [Function.comp_apply, bridge]
  split <;> rfl

theorem unnestAccepted_shift (hd : Distinct s) {sack m : Container} {k : SackFields} (hsack : sack ∈ s.custody.table)
    (hm : m ∈ s.custody.table) (hs : sack.state ≠ .nested) (hmn : m.state = .nested) (hle : m.value ≤ sack.value) :
    Shift 0 s (unnestAccepted m sack k s) := by
  have hne : sack.tag ≠ m.tag := by
    intro htag
    exact hs (hd.eq_of_tag hsack hm htag ▸ hmn)
  have hfreed : Shift m.value s (updateContainer m.tag freeMember s) :=
    (updateContainer_shift hd hm freeMember).of_eq (by simp [Container.worth, freeMember, hmn])
  have hd' : Distinct (updateContainer m.tag freeMember s) := updateContainer_distinct hd (fun _ => rfl)
  have hbridged := bridge_kept m.tag m.nextMember (updateContainer m.tag freeMember s)
  obtain ⟨sack', hsack', hstamp⟩ := hbridged.exists_stamp (update_other hsack hne freeMember)
  obtain ⟨hstag, hsvalue, -, hsnested⟩ := (stamp_eq_iff sack' sack).mp hstamp
  have hstate : sack'.state ≠ .nested := fun h => hs (by simpa [h] using hsnested.symm)
  have hlost := (hfreed.kept hbridged).trans (updateContainer_shift (hbridged.distinct hd') hsack' (loseMember m k))
  rw [hstag] at hlost
  unfold unnestAccepted
  refine (hlost.of_eq ?_).then (by simp)
  rw [worth_of_unnested (c := loseMember m k sack') hstate, worth_of_unnested hstate]
  simp only [loseMember, hsvalue]
  omega

/-- The parent that a member names, with its sack fields. -/
theorem parentSack_spec {m sack : Container} {k : SackFields} (h : s.parentSack m = some (sack, k)) :
    ∃ n, m.nesting = some n ∧ s.container? n.parent = some sack ∧ sack.sack = some k := by
  unfold State.parentSack at h
  split at h
  · cases h
  next n hn =>
  split at h
  · cases h
  next c hc =>
  obtain ⟨q, hq, heq⟩ := Option.map_eq_some_iff.mp h
  cases heq
  exact ⟨n, hn, hc, hq⟩

theorem unnest_shift (hd : Distinct s) {tag : Nat} (hfits : MemberFits s tag) : Shift 0 s (unnest tag s) := by
  unfold unnest
  split
  · exact refuse_shift ..
  next m hm =>
  unfold unnestFound
  repeat' split
  · exact refuse_shift ..
  · exact refuse_shift ..
  next hnested _ sack k hparent _ =>
    obtain ⟨n, hn, hsack, -⟩ := parentSack_spec hparent
    obtain ⟨hle, hs⟩ := hfits m n sack hm hn hsack
    exact unnestAccepted_shift hd (mem_of_container? hsack) (mem_of_container? hm) hs (not_not.mp hnested) hle
  · exact refuse_shift ..

/-! ### Chains -/

/-- A chain is read from its first tag alone. -/
theorem chained_unique {l m : List Container} {first : Option Nat} (hl : s.chained l first) (hm : s.chained m first) :
    l = m := by
  induction l generalizing m first with
  | nil =>
    cases m with
    | nil => rfl
    | cons c m =>
      obtain ⟨⟨tag, hfirst, -⟩, -⟩ := hm
      have hnone : first = none := hl
      simp [hnone] at hfirst
  | cons c l ih =>
    obtain ⟨⟨tag, hfirst, hc⟩, hrest⟩ := hl
    cases m with
    | nil =>
      have hnone : first = none := hm
      simp [hnone] at hfirst
    | cons e m =>
      obtain ⟨⟨tag', hfirst', he⟩, hrest'⟩ := hm
      have htag : tag = tag' := by simpa [hfirst] using hfirst'
      have hce : c = e := by simpa [htag, he] using hc.symm
      subst hce
      rw [ih hrest hrest']

/-- What follows a member in its chain is a chain. -/
theorem chained_suffix {l m : List Container} {first : Option Nat} (h : s.chained (l ++ m) first) :
    ∃ from', s.chained m from' := by
  induction l generalizing first with
  | nil => exact ⟨first, h⟩
  | cons c l ih => exact ih h.2

/-- A chain names no container twice (R153). -/
theorem chained_nodup {l : List Container} {first : Option Nat} (h : s.chained l first) : l.Nodup := by
  induction l generalizing first with
  | nil => exact List.nodup_nil
  | cons c l ih =>
    refine List.nodup_cons.mpr ⟨fun hmem => ?_, ih h.2⟩
    obtain ⟨a, b, rfl⟩ := List.append_of_mem hmem
    obtain ⟨⟨tag, hfirst, hc⟩, hrest⟩ := h
    obtain ⟨start, hagain⟩ := chained_suffix hrest
    obtain ⟨tag', hstart, hc'⟩ := hagain.1
    have htag : tag = tag' := (tag_of_container? hc).symm.trans (tag_of_container? hc')
    have hwhole : s.chained (c :: (a ++ c :: b)) start := ⟨⟨tag, by rw [hstart, htag], hc⟩, hrest⟩
    have hlength := congrArg List.length (chained_unique hwhole hagain)
    simp at hlength
    omega

theorem mem_of_chained {l : List Container} {first : Option Nat} (h : s.chained l first) {c : Container} (hc : c ∈ l) :
    c ∈ s.custody.table := by
  induction l generalizing first with
  | nil => simp at hc
  | cons e l ih =>
    obtain ⟨⟨_, -, he⟩, hrest⟩ := h
    obtain rfl | hmem := List.mem_cons.mp hc
    · exact mem_of_container? he
    · exact ih hrest hmem

/-- The members of a sack are the NESTED containers of its tags (R153). -/
theorem members_perm (hd : Distinct s) (h : SackInv s) {c : Container} (hc : c ∈ s.custody.table) {k : SackFields}
    (hk : c.sack = some k) :
    (s.custody.table.filter (isMember ((s.members k).map (·.tag)))).Perm (s.members k) := by
  have hchain := h.chain c hc k hk
  have hnodup : s.custody.table.Nodup := List.Nodup.of_map _ hd
  refine (List.perm_ext_iff_of_nodup (hnodup.filter _) (chained_nodup hchain)).mpr (fun e => ?_)
  simp only [List.mem_filter, isMember, Bool.and_eq_true, List.contains_iff_mem, List.mem_map, beq_iff_eq]
  constructor
  · rintro ⟨he, ⟨m, hm, htag⟩, -⟩
    rwa [← hd.eq_of_tag (mem_of_chained hchain hm) he htag]
  · intro he
    exact ⟨mem_of_chained hchain he, ⟨e, he, rfl⟩, h.nested c hc k hk e he⟩

/-! ### Sacks abandoned and dispatched -/

/-- Containers freed count again for what they are worth. -/
theorem containerValue_freed (tags : List Nat) (l : List Container) :
    containerValue (l.map (fun c => if isMember tags c then freeMember c else c)) =
      containerValue l + ((l.filter (isMember tags)).map (·.value)).sum := by
  rw [containerValue_eq, containerValue_eq, List.map_map]
  induction l with
  | nil => rfl
  | cons c l ih =>
    by_cases h : isMember tags c
    · have hnested : c.state = .nested := by
        simp only [isMember, Bool.and_eq_true, beq_iff_eq] at h
        exact h.2
      rw [List.map_cons, List.sum_cons, ih]
      simp [h, Container.worth, freeMember, hnested]
      omega
    · simp only [Bool.not_eq_true] at h
      rw [List.map_cons, List.sum_cons, ih]
      simp [h]
      omega

theorem sackAbandon_shift (hd : Distinct s) (hopen : SacksOpen s) (h : SackInv s) {c : Container} (hc : c ∈ s.custody.table)
    (hcls : c.cls = .courierSack) {k : SackFields} (hk : c.sack = some k) : Shift 0 s (sackAbandon c k s) := by
  have hstate := hopen c hc hcls
  have hsum : ((s.custody.table.filter (isMember ((s.members k).map (·.tag)))).map (·.value)).sum = c.value := by
    rw [h.value c hc k hk]
    exact ((members_perm hd h hc hk).map _).sum_eq
  unfold sackAbandon
  dsimp only
  generalize (s.members k).map (·.tag) = tags at hsum ⊢
  have hfreed : Shift c.value s (freeMembers tags s) :=
    setTable_shift s (by rw [containerValue_freed, hsum]; push_cast; ring)
  have htags : (freeMembers tags s).custody.table.map (·.tag) = s.custody.table.map (·.tag) := by
    show List.map _ (List.map _ _) = _
    rw [List.map_map]
    refine List.map_congr_left (fun e _ => ?_)
    simp only [Function.comp_apply]
    split <;> rfl
  have hd' : Distinct (freeMembers tags s) := by
    unfold Distinct
    rwa [htags]
  have hc' : c ∈ (freeMembers tags s).custody.table :=
    List.mem_map.mpr ⟨c, hc, if_neg (by simp [isMember, hstate])⟩
  exact ((hfreed.trans (removeContainer_shift hd' hc')).of_eq (by rw [worth_of_unnested hstate]; ring)).then (by simp)

/-- The members that leave with a sack counted for nothing. -/
theorem containerValue_members (tags : List Nat) (l : List Container) :
    containerValue (l.filter (fun d => !isMember tags d)) = containerValue l := by
  rw [containerValue_eq, containerValue_eq]
  induction l with
  | nil => rfl
  | cons c l ih =>
    by_cases h : isMember tags c
    · have hnested : c.state = .nested := by
        simp only [isMember, Bool.and_eq_true, beq_iff_eq] at h
        exact h.2
      simp [h, ih, Container.worth, hnested]
    · simp only [Bool.not_eq_true] at h
      simp [h, ih]

theorem removeSack_shift (hd : Distinct s) (hopen : SacksOpen s) {c : Container} (hc : c ∈ s.custody.table)
    (hcls : c.cls = .courierSack) (k : SackFields) : Shift (-c.value) s (removeSack c k s) := by
  have hstate := hopen c hc hcls
  unfold removeSack
  dsimp only
  generalize (s.members k).map (·.tag) = tags
  have hleft : Shift 0 s (setTable (s.custody.table.filter (fun d => !isMember tags d)) s) :=
    setTable_shift s (by rw [containerValue_members]; ring)
  have hc' : c ∈ (setTable (s.custody.table.filter (fun d => !isMember tags d)) s).custody.table :=
    List.mem_filter.mpr ⟨hc, by simp [isMember, hstate]⟩
  have hd' : Distinct (setTable (s.custody.table.filter (fun d => !isMember tags d)) s) :=
    hd.sublist (List.filter_sublist.map _)
  exact (hleft.trans (removeContainer_shift hd' hc')).of_eq (by rw [worth_of_unnested hstate]; ring)

theorem dispatch_shift (hd : Distinct s) (hopen : SacksOpen s) {c : Container} (hc : c ∈ s.custody.table)
    (hcls : c.cls = .courierSack) (k : SackFields) : Shift 0 s (dispatch c k s) := by
  unfold dispatch
  repeat' split
  · exact refuse_shift ..
  · exact refuse_shift ..
  have hmoved := (removeSack_shift hd hopen hc hcls k).trans (changeTotal_shift .dispatched c.value (removeSack c k s))
  unfold dispatchAccepted
  dsimp only
  generalize changeTotal .dispatched c.value (removeSack c k s) = u at hmoved ⊢
  generalize keepLast _ _ = l
  have hwritten : ValueKept u { u with safe := { u.safe with dispatches := l } } := ⟨rfl, rfl, rfl, rfl, rfl⟩
  exact ((hmoved.kept hwritten).then (by simp)).of_eq (by simp [TotalName.sign])

/-- A request that names a sack runs on one of the table (R158). -/
theorem onSack_shift {run : Container → SackFields → State → State} (tag : Nat)
    (h : ∀ c k, c ∈ s.custody.table → c.cls = .courierSack → c.sack = some k → Shift 0 s (run c k s)) :
    Shift 0 s (onSack run tag s) := by
  refine atSafe_shift ?_
  split
  · exact refuse_shift ..
  next c hc =>
  split
  next k hcls hk => exact h c k (mem_of_container? hc) hcls hk
  · exact refuse_shift ..

/-! ### Face values and starts -/

/-- No money is on the books of a station whose position and table are empty. -/
theorem accountable_empty (hp : s.positionEmpty = true) (ht : s.custody.table.isEmpty = true) : s.accountable = 0 := by
  have htable : s.custody.table = [] := List.isEmpty_iff.mp ht
  have hpieces : slotValue s.cfg s.pieces = slotValue s.cfg (fun _ => 0) :=
    slotValue_congr _ (fun d hd => by simpa using List.all_eq_true.mp hp d (List.mem_range.mpr hd))
  have hzero : slotValue s.cfg (fun _ => 0) = 0 := by simp [slotValue]
  rw [State.accountable, positionValue_eq, hpieces, hzero, htable]
  rfl

/-- A face value is written only while nothing is on the books (R47). -/
theorem writeDenomination_shift (f : DenominationFields) (s : State) : Shift 0 s (writeDenomination f s) := by
  unfold writeDenomination
  repeat' split
  iterate 4 exact refuse_shift ..
  next hempty _ =>
  obtain ⟨hp, ht⟩ := not_not.mp hempty
  generalize ({ s.cfg with denoms := _ } : Settings) = cfg
  have hset : Shift 0 s (setCfg cfg s) := by
    refine ⟨fun hclear => ⟨hclear, ?_⟩⟩
    have hafter : (setCfg cfg s).accountable = 0 := accountable_empty (s := setCfg cfg s) hp ht
    rw [State.balance, State.balance, hafter, accountable_empty hp ht, add_zero]
    rfl
  unfold accepted
  split
  · exact hset.then (by simp)
  · exact hset.then (by simp)

/-- Settings that leave the face values alone move no value. -/
theorem setting_shift {α : Type} {run : α → State → State} {a : α} (h : Shift 0 s (run a s)) : Shift 0 s (setting run a s) := by
  unfold setting
  split
  exacts [h, refuse_shift ..]

theorem warmStart_kept (pins : Pins) (s : State) : ValueKept s (warmStart pins s) := by
  refine ⟨rfl, rfl, ?_, rfl, rfl⟩
  show (List.map _ s.custody.table).map Container.stamp = _
  rw [List.map_map]
  refine List.map_congr_left (fun c _ => ?_)
  simp only [Function.comp_apply, warmContainer]
  cases hstate : c.state <;> simp [Container.stamp, hstate]

theorem coldStart_balance (pins : Pins) (s : State) : (coldStart pins s).balance = 0 := by
  have hposition : (coldStart pins s).positionValue = 0 := by
    simp [State.positionValue, State.pieces, coldStart, State.cold, slots, List.range_succ]
  rw [State.balance, State.accountable, hposition]
  rfl

theorem closeDay_balance (s : State) : (closeDay s).balance = 0 := by
  rw [closeDay_eq]
  exact balance_of_closedBooks (s := s) rfl rfl rfl

end Sacks

end Sys2Proof.Machine

/-! PROOFS. The identity of R15 through every step (O38). -/

namespace Sys2Proof.Machine

section Identity

variable {s t : State}

theorem newSelect_kept (s : State) : ValueKept s (newSelect s) := Within.valueKept (by simp)

theorem distinct_newSelect (hd : Distinct s) : Distinct (newSelect s) := hd

/-- A request shifts the balance by what its run shifts it in a new select period. -/
theorem request_shift {α : Type} {b : Body α} {run : α → State → State} (h : request b s run = .next t)
    (hrun : ∀ a, Shift 0 (newSelect s) (run a (newSelect s))) : Shift 0 s t := by
  have hrefused : ValueKept s (refused .badLength s) := ((within_refused _ s).mono (by simp)).valueKept
  exact request_keeps (P := Shift 0 s) h (.refl s) hrefused.shift (fun a => (newSelect_kept s).shift_trans (hrun a))

theorem event_shift {run : State → State} (h : event s run = .next t) (hrun : Shift 0 s (run s)) : Shift 0 s t :=
  event_keeps (P := Shift 0 s) h (.refl s) hrun

/-! ### Quiet commands that write the table -/

theorem onLoop_shift {α : Type} {run : α → State → State} {a : α} (h : Shift 0 s (run a s)) : Shift 0 s (onLoop run a s) := by
  unfold onLoop
  split
  exacts [h, refuse_shift ..]

theorem stopRequest_kept (hd : Distinct s) : ValueKept s (stopRequest s) := by
  unfold stopRequest
  repeat' split
  · exact Within.valueKept (by simp)
  · exact Within.valueKept (by simp)
  · exact (enterStopped_kept hd).then (by simp)

theorem offer_kept (hd : Distinct s) (f : OfferFields) : ValueKept s (offer f s) := by
  have hrefused (st : Status) : ValueKept s (refuse st s) := Within.valueKept (by simp)
  unfold offer
  split
  · exact hrefused _
  split
  · exact hrefused _
  next c hc =>
  have htag := tag_of_container? hc
  unfold offerFound
  split
  · exact hrefused _
  split
  next =>
    unfold offerDeferred
    split
    · exact hrefused _
    · have hwritten := updateContainer_kept_of_stamp c.tag
        (f := fun c => { c with deferred := some { peer := f.receiver, purpose := f.purpose } }) (fun _ => rfl) s
      exact hwritten.then (by simp)
  split
  · exact hrefused _
  next hheld =>
    have hn : Unnested s c.tag := htag ▸ hd.unnested hc (by simp only [ne_eq, not_not] at hheld; simp [hheld])
    unfold offerHeld
    repeat' split
    iterate 4 exact hrefused _
    exact (makeOffer_kept hn f.receiver f.purpose).then (by simp)

theorem recallRequest_kept (hd : Distinct s) (tag : Nat) : ValueKept s (recallRequest tag s) := by
  have hrefused (st : Status) : ValueKept s (refuse st s) := Within.valueKept (by simp)
  unfold recallRequest
  split
  · exact hrefused _
  next c hc =>
  have htag := tag_of_container? hc
  unfold recallFound
  split
  · exact hrefused _
  next hstate =>
  have hn : Unnested s c.tag := htag ▸ hd.unnested hc (by rintro h; simp [h] at hstate)
  repeat' split
  · exact hrefused _
  · exact hrefused _
  · have hwritten := updateContainer_kept_of_unnested hn
      (f := fun c => { c with state := .recalling, recallEnds := some (s.clock + Config.recallLimit) }) (fun _ => by simp)
    unfold recallAccepted
    exact hwritten.then (by simp)

theorem sackClose_kept (c : Container) (k : SackFields) (s : State) : ValueKept s (sackClose c k s) := by
  unfold sackClose
  repeat' split
  · exact Within.valueKept (by simp)
  · exact Within.valueKept (by simp)
  · have hwritten (q : SackFields) := updateContainer_kept_of_stamp c.tag (f := withSack q) (fun _ => rfl) s
    unfold closeSack
    exact (hwritten { k with state := .closed, check := some (manifestCheck (s.members k)) }).then (by simp)

theorem sackReopen_kept (c : Container) (k : SackFields) (s : State) : ValueKept s (sackReopen c k s) := by
  unfold sackReopen
  split
  · exact Within.valueKept (by simp)
  · have hwritten (q : SackFields) := updateContainer_kept_of_stamp c.tag (f := withSack q) (fun _ => rfl) s
    exact (hwritten { k with state := .assembling, check := none }).then (by simp)

/-! ### Quiet events that write the table -/

/-- A container that a timer finds, with its tag. -/
theorem unnested_of_filter (hd : Distinct s) {tag : Nat} {c : Container} {p : Container → Bool}
    (h : (s.container? tag).filter p = some c) (hp : p c = true → c.state ≠ .nested) : Unnested s c.tag := by
  obtain ⟨hc, hpc⟩ := Option.filter_eq_some_iff.mp h
  exact tag_of_container? hc ▸ hd.unnested hc (hp hpc)

theorem transitDeadline_kept (hd : Distinct s) (tag : Nat) : ValueKept s (transitDeadline tag s) := by
  unfold transitDeadline
  split
  · exact .refl s
  · next c hc =>
    exact becomeOverdue_kept (unnested_of_filter hd hc (fun h hn => by simp [overdueNow, hn] at h))

theorem recallTimeout_kept (hd : Distinct s) (tag : Nat) : ValueKept s (recallTimeout tag s) := by
  unfold recallTimeout endRecall
  split
  · exact .refl s
  next c hc =>
  have hn := unnested_of_filter hd hc (fun h hn => by simp [recallOver, hn] at h)
  split
  · exact (becomeOverdue_kept hn).then (by simp)
  · have hwritten := updateContainer_kept_of_unnested hn
      (f := fun c => { c with state := .outbound, recallEnds := none }) (fun _ => by simp)
    exact hwritten.then (by simp)

theorem refusalWindowEnd_kept (tag : Nat) (s : State) : ValueKept s (refusalWindowEnd tag s) := by
  unfold refusalWindowEnd
  split
  · exact .refl s
  · exact updateContainer_kept_of_stamp _ (f := fun c => { c with refusal := none }) (fun _ => rfl) s

/-! ### Settings -/

theorem setCfg_kept {cfg : Settings} (h : cfg.denoms = s.cfg.denoms) : ValueKept s (setCfg cfg s) := ⟨rfl, h, rfl, rfl, rfl⟩

theorem accepted_kept (s : State) : ValueKept s (accepted s) := by
  unfold accepted
  split
  · exact ValueKept.trans ⟨rfl, rfl, rfl, rfl, rfl⟩ (Within.valueKept (t := answer .ok [] (setStation .stopped s)) (by simp))
  · exact Within.valueKept (by simp)

/-- The SET_ requests but for SET_DENOMINATION leave the face values alone (R45). -/
theorem settings_kept (s : State) :
    (∀ n, ValueKept s (writeStation n s)) ∧ (∀ f, ValueKept s (writeLoop f s)) ∧ (∀ f, ValueKept s (writeTransit f s)) ∧
    (∀ mid f, ValueKept s (writeCountLine mid f s)) ∧ (∀ n, ValueKept s (writeThreshold n s)) ∧
    (∀ f, ValueKept s (writeTolerance f s)) ∧ (∀ f, ValueKept s (writeFloat f s)) ∧
    (∀ f, ValueKept s (writeFloatStation f s)) ∧ (∀ f, ValueKept s (writeService f s)) ∧
    (∀ f, ValueKept s (writeCover f s)) ∧ (∀ n, ValueKept s (writeSack n s)) ∧ (∀ n, ValueKept s (writeDoor n s)) := by
  have hset (cfg : Settings) (h : cfg.denoms = s.cfg.denoms) : ValueKept s (accepted (setCfg cfg s)) :=
    (setCfg_kept h).trans (accepted_kept _)
  have hrefused (st : Status) : ValueKept s (refuse st s) := Within.valueKept (by simp)
  have hthen (run : State → State) (hrun : ∀ u, Within valueFree u (run u)) (cfg : Settings)
      (h : cfg.denoms = s.cfg.denoms) : ValueKept s (accepted (run (setCfg cfg s))) :=
    ((setCfg_kept h).then (hrun _)).trans (accepted_kept _)
  refine ⟨fun n => ?_, fun f => hset _ rfl, fun f => ?_, fun mid f => ?_, fun n => hset _ rfl, fun f => hset _ rfl,
    fun f => ?_, fun f => ?_, fun f => hset _ rfl, fun f => hset _ rfl, fun n => hset _ rfl, fun n => hset _ rfl⟩
  · unfold writeStation
    dsimp only
    split
    · exact hrefused _
    · exact hthen (setPeer _ unknownPeer) (by simp) _ rfl
  · unfold writeTransit
    repeat' split
    exacts [hrefused _, hrefused _, hset _ rfl]
  · unfold writeCountLine
    split
    · exact hrefused _
    · exact hthen (fun u => if mid && !u.count.discarding then recordAbandoned u else abandonAssembly u)
        (fun u => by split <;> simp) _ rfl
  · unfold writeFloat
    split
    · exact hrefused _
    · exact hthen evaluate (by simp) _ rfl
  · exact hthen evaluate (by simp) _ rfl

/-! ### Every command -/

/-- What the requests on sacks and compositions need of the books (R2, R6, R153). -/
structure SoundForIdentity (s : State) : Prop where
  distinct : Distinct s
  sacks : SacksOpen s
  chains : SackInv s
  worth : ∀ tag, DeclaredWorth s tag
  fits : ∀ tag, MemberFits s tag

/-- A new select period leaves the table and with it the chains. -/
theorem SackInv.of_table (h : SackInv s) (ht : t.custody.table = s.custody.table) : SackInv t := by
  have hfind (tag : Nat) : t.container? tag = s.container? tag := by simp [State.container?, ht]
  have hchain (n : Nat) (first : Option Nat) : t.chainFrom n first = s.chainFrom n first := by
    induction n generalizing first with
    | zero => rfl
    | succ n ih => cases first <;> simp [State.chainFrom, hfind, ih]
  have hmembers (k : SackFields) : t.members k = s.members k := hchain _ _
  have hchained (l : List Container) (first : Option Nat) : t.chained l first ↔ s.chained l first := by
    induction l generalizing first with
    | nil => rfl
    | cons c l ih => simp [State.chained, hfind, ih]
  obtain ⟨hc, hcount, hvalue, hparent, hnested, hlisted, hsettled⟩ := h
  constructor <;> simpa only [ht, hmembers, hchained]

/-- A command keeps the balance while no total saturates, or closes the books afresh. -/
theorem exec_shift {c : Instr} (h : exec c s = .next t) (hs : SoundForIdentity s) : Shift 0 s t ∨ t.balance = 0 := by
  have hd := hs.distinct
  have hw := exec_within h
  have quiet (hq : touched c ⊆ valueFree) : Shift 0 s t ∨ t.balance = 0 := .inl (hw.mono hq).valueKept.shift
  have setting {α : Type} {b : Body α} {run : α → State → State} (he : request b s (setting run) = .next t)
      (hrun : ∀ a, ValueKept (newSelect s) (run a (newSelect s))) : Shift 0 s t ∨ t.balance = 0 :=
    .inl (request_shift he (fun a => setting_shift (hrun a).shift))
  obtain ⟨hstation, hloop, htransit, hline, hthreshold, htolerance, hfloat, hfloats, hservice, hcover, hsack, hdoor⟩ :=
    settings_kept (newSelect s)
  cases c with
  | powerUp pins =>
    cases h
    unfold powerUp
    repeat' split
    exacts [.inl (.refl s), .inl (warmStart_kept pins s).shift, .inr (coldStart_balance pins s)]
  | coldStart pins => cases h; split; exacts [.inl (.refl s), .inr (coldStart_balance pins s)]
  | warmStart pins => cases h; split; exacts [.inl (.refl s), .inl (warmStart_kept pins s).shift]
  | selectRelease pins =>
    refine event_keeps (P := fun u => Shift 0 s u ∨ u.balance = 0) h (.inl (.refl s)) ?_
    unfold selectRelease
    split
    exacts [.inl (newSelect_kept s).shift, .inl (warmStart_kept pins s).shift, .inr (coldStart_balance pins s)]
  | setStation b => exact setting h hstation
  | setDenomination b => exact .inl (request_shift h (fun f => setting_shift (writeDenomination_shift f _)))
  | setLoop b => exact setting h hloop
  | setTransit b => exact setting h htransit
  | setCountLine b mid => exact setting h (hline mid)
  | setCount b => exact setting h hthreshold
  | setTolerance b => exact setting h htolerance
  | setFloat b => exact setting h hfloat
  | setFloatStation b => exact setting h hfloats
  | setService b => exact setting h hservice
  | setCover b => exact setting h hcover
  | setSack b => exact setting h hsack
  | setDoor b => exact setting h hdoor
  | stop b => exact .inl (request_shift h (fun _ => (stopRequest_kept (s := newSelect s) hd).shift))
  | makeUp b => exact .inl (request_shift h (fun f => makeUp_shift f _))
  | dismantle b => exact .inl (request_shift h (fun tag => dismantle_shift (s := newSelect s) hd (hs.worth tag)))
  | acceptVariance b => exact .inl (request_shift h (fun tag => acceptVariance_shift (s := newSelect s) hd tag))
  | dayClose b =>
    refine request_keeps (P := fun u => Shift 0 s u ∨ u.balance = 0) h (.inl (.refl s))
      (.inl ((within_refused _ s).mono (by simp)).valueKept.shift) (fun _ => ?_)
    unfold dayClose
    split
    · exact .inl ((newSelect_kept s).shift_trans (refuse_shift ..))
    · exact .inr (closeDay_balance (newSelect s))
  | offer b => exact .inl (request_shift h (fun f => onLoop_shift (offer_kept (s := newSelect s) hd f).shift))
  | takeResolve b => exact .inl (request_shift h (fun tag => takeResolve_shift tag _))
  | countOpen b => exact .inl (request_shift h (fun f => (countOpen_kept (s := newSelect s) hd f).shift))
  | countAbort b => exact .inl (request_shift h (fun _ => countAbort_shift (s := newSelect s) hd))
  | admitStock b => exact .inl (request_shift h (fun f => admitStock_shift f _))
  | sackOpen b => exact .inl (request_shift h (fun tag => sackOpen_shift tag _))
  | nest b => exact .inl (request_shift h (fun f => atSafe_shift (nest_shift (s := newSelect s) hd hs.sacks f)))
  | unnest b => exact .inl (request_shift h (fun tag => atSafe_shift (unnest_shift (s := newSelect s) hd (hs.fits tag))))
  | sackClose b => exact .inl (request_shift h (fun tag => onSack_shift tag (fun c k _ _ _ => (sackClose_kept c k _).shift)))
  | sackReopen b =>
    exact .inl (request_shift h (fun tag => onSack_shift tag (fun c k _ _ _ => (sackReopen_kept c k _).shift)))
  | sackAbandon b =>
    exact .inl (request_shift h (fun tag => onSack_shift tag (fun c k hc hcls hk =>
      sackAbandon_shift (s := newSelect s) hd hs.sacks (hs.chains.of_table (t := newSelect s) rfl) hc hcls hk)))
  | dispatch b =>
    exact .inl (request_shift h (fun tag => onSack_shift tag
      (fun c k hc hcls _ => dispatch_shift (s := newSelect s) hd hs.sacks hc hcls k)))
  | frameSent ack | offerReport ack | takenReport ack | queryReport ack | claimReport ack =>
    exact .inl (event_shift h (sentOf_shift hd _ ack))
  | announceCompleted => exact .inl (event_shift h (sentOf_shift hd _ false))
  | announceLostSerial winner => exact .inl (event_shift h (announceLost_kept hd winner).shift)
  | readBackFault => exact .inl (event_shift h (readBackFault_shift hd))
  | intactFrameHeard f => exact .inl (event_shift h (receive_shift hd f))
  | alarmReceived _ _ _ | takenReceived _ _ _ | recallOkReceived _ _ _ | refuseReceived _ _ _ | answerReceived _ _ _
  | offerReceived _ _ _ | recallReceived _ _ _ | queryReceived _ _ _ | claimReceived _ _ _ | awardReceived _ _ _
  | needReceived _ _ _ | withdrawReceived _ _ _ | announceReceived _ _ _ | conflictReceived _ _ _ | beaconReceived _ _ _ =>
    exact .inl (event_shift h (receive_shift hd _))
  | transitDeadline tag => exact .inl (event_shift h (transitDeadline_kept hd tag).shift)
  | recallTimeout tag => exact .inl (event_shift h (recallTimeout_kept hd tag).shift)
  | refusalWindowEnd tag => exact .inl (event_shift h (refusalWindowEnd_kept tag s).shift)
  | endRecord n => exact .inl (event_shift h (onCountLine_shift (endRecord_shift hd n)))
  | haltRecord => exact .inl (event_shift h (onCountLine_shift (haltRecord_shift hd)))
  | batchIdleEnd => exact .inl (event_shift h (batchIdleEnd_shift hd))
  | noRecordTimeout => exact .inl (event_shift h (noRecords_kept hd).shift)
  | resetPinLow _ | unknownKindRequest _ | start _ | rejoin _ | reset _ | erase _ | setAttentionMask _ | take _
  | query _ | decline _ | countClose _ | raiseNeed _ | cancelNeed _ | claimNext _ | claim _ | windowOpen _
  | windowClose _ | alarmClear _ | doorAllow _ | readAttention _ | attentionReadCleared | readStation _ | readLoop _
  | readPeers _ | readCustody _ | readContainer _ | readInbound _ | readReleases _ | readTotals _ | readDayTotals _
  | readCount _ | readPosition _ | readRequests _ | readService _ | readWindow _ | readSack _ | readDispatches _
  | frameSendStart | frameDiscarded _ | listeningPeriodEnd | announceWaitEnd | beaconTimer | autoRejoin | peerQuiet _
  | peerGone _ | inboundLapse _ | queryWaitEnd _ | countRecord _ _ _ | droppedRecord _ | recordAbandoned
  | requestExpiry _ | escalation _ | claimLapse _ | backupEligible _ _ | windowExpiry | doorOpeningEdge | doorClosing
  | doorAllowanceEnd | doorHeld | lampStep | mainSupplyLoss _ | countLineResynchronisation =>
    exact quiet (by simp [touched])
  -- RECALL, whose constructor's name is a keyword of Mathlib and cannot stand in a pattern.
  | _ b =>
    exact .inl (request_shift h (fun tag => onLoop_shift (recallRequest_kept (s := newSelect s) hd tag).shift))

theorem BooksInv.distinct (h : BooksInv s) : Distinct s := h.tableTags

/-- A member is worth at most the sum of its chain (R153). -/
theorem memberFits_of_laws (hb : BooksInv s) (hp : PartsInv s) (hk : SackInv s) (tag : Nat) : MemberFits s tag := by
  intro m n k hm hn hparent
  obtain ⟨k', hmem, q, htag, hq, hmember⟩ := hk.listed m (mem_of_container? hm) n hn
  have heq : k' = k :=
    hb.distinct.eq_of_tag hmem (mem_of_container? hparent) (htag.trans (tag_of_container? hparent).symm)
  subst heq
  refine ⟨?_, ?_⟩
  · rw [hk.value k' hmem q hq]
    exact List.single_le_sum (by simp) _ (List.mem_map_of_mem hmember)
  · have hcls : k'.cls = .courierSack := by
      have h := hp.sack k' hmem
      simpa [hq] using h.symm
    simp [hp.sackHeld k' hmem hcls]

theorem soundForIdentity_of_laws (hb : BooksInv s) (hp : PartsInv s) (hk : SackInv s) (hw : WorthInv s) :
    SoundForIdentity s :=
  ⟨hb.distinct, hp.sacksOpen, hk, fun _ c k hc hcomp => hw.declared c (mem_of_container? hc) k hcomp,
    memberFits_of_laws hb hp hk⟩

theorem Shift.balance_eq (h : Shift 0 s t) (ht : t.custody.saturated = false) : t.balance = s.balance := by
  rw [(h.clear ht).2, add_zero]

theorem identityInv_of_shift (h : Shift 0 s t ∨ t.balance = 0) (hs : IdentityInv s) : IdentityInv t := by
  intro ht
  obtain hshift | hzero := h
  · rw [hshift.balance_eq ht]
    exact hs (hshift.clear ht).1
  · exact hzero

theorem tick_shift (s : State) : Shift 0 s (tick s) := by
  refine ValueKept.shift ?_
  unfold tick
  split
  · unfold advance
    split
    exacts [⟨rfl, rfl, rfl, rfl, rfl⟩, ⟨rfl, rfl, rfl, rfl, rfl⟩]
  · exact .refl s

theorem step_keepsIdentity (h : step s = .next t) (hb : BooksInv s) (hp : PartsInv s) (hk : SackInv s) (hw : WorthInv s)
    (hi : IdentityInv s) : IdentityInv t := by
  unfold step at h
  split at h
  next =>
    obtain rfl := Host.Outcome.next.inj h
    exact identityInv_of_shift (.inl (tick_shift s)) hi
  next c rest _ =>
    obtain ⟨hdistinct, hsacks, hchains, hworth, hfits⟩ := soundForIdentity_of_laws hb hp hk hw
    have hs : SoundForIdentity { s with pending := rest } := ⟨hdistinct, hsacks, hchains.of_table rfl, hworth, hfits⟩
    exact identityInv_of_shift (exec_shift h hs) hi

/-- An accepted DAY_CLOSE leaves the balance at 0 (R16). -/
theorem dayClose_balance (hready : Ready s) (h : exec (.dayClose (.fields ())) s = .next t) (ha : Answers t .ok []) :
    t.balance = 0 := by
  rw [exec_dayClose hready] at h
  obtain rfl := Host.Outcome.next.inj h
  unfold dayClose at ha ⊢
  split at ha
  · simp [Answers, refuse, answer] at ha
  next hopen =>
    rw [if_neg hopen]
    exact closeDay_balance (newSelect s)

/-- A request with its fields, by the run that it names. -/
theorem fields_balance {α : Type} (run : α → State → State) (a : α) (ht : t.custody.saturated = false)
    (hrun : Shift 0 (newSelect s) (run a (newSelect s))) (h : request (.fields a) s run = .next t) :
    t.balance = s.balance := by
  have hshift : Shift 0 s t := by
    obtain rfl := Host.Outcome.next.inj h
    split
    · exact (newSelect_kept s).shift_trans hrun
    · exact .refl s
  exact hshift.balance_eq ht

/-- Settles O38: each operation shifts the balance of R15 by what it moves and the totals take up, so each command shifts it by
nothing while the mark stays clear; a command that closes the books leaves it at 0. -/
theorem movementsKeepTheIdentity : Obligations.MovementsKeepTheIdentity := by
  refine ⟨fun s t => step_keepsIdentity, fun s t hb hp hk ht => ?_, fun s t hb hp ht => ?_⟩
  · have hd := hb.distinct
    have hchains : SackInv (newSelect s) := hk.of_table rfl
    refine ⟨fun tag => ?_, fun tag => ?_, fun sender target p h => ?_, fun h => ?_, fun h => ?_, ?_,
      fun h => ?_, fun hready h ha => dayClose_balance hready h ha⟩
    · exact fields_balance (onSack dispatch) tag ht (onSack_shift tag (fun c k hc hcls _ =>
        dispatch_shift (s := newSelect s) hd hp.sacksOpen hc hcls k))
    · exact fields_balance (onSack sackAbandon) tag ht (onSack_shift tag (fun c k hc hcls hk' =>
        sackAbandon_shift (s := newSelect s) hd hp.sacksOpen hchains hc hcls hk'))
    · exact (event_shift h (receive_shift hd _)).balance_eq ht
    · exact (event_shift h (onCountLine_shift (haltRecord_shift hd))).balance_eq ht
    · exact (event_shift h (batchIdleEnd_shift hd)).balance_eq ht
    · exact fields_balance (fun _ => countAbort) () ht (countAbort_shift (s := newSelect s) hd)
    · exact (event_shift h (noRecords_kept hd).shift).balance_eq ht
  · have hd := hb.distinct
    refine ⟨fun f => ?_, fun tag hw => ?_, fun tag => ?_, fun f => ?_, fun tag => ?_, fun f => ?_,
      fun tag hfits => ?_, fun tag => ?_, fun sender target p h => ?_, fun ack h => ?_, fun n h => ?_⟩
    · exact fields_balance makeUp f ht (makeUp_shift f _)
    · exact fields_balance dismantle tag ht (dismantle_shift (s := newSelect s) hd hw)
    · exact fields_balance acceptVariance tag ht (acceptVariance_shift (s := newSelect s) hd tag)
    · exact fields_balance admitStock f ht (admitStock_shift f _)
    · exact fields_balance sackOpen tag ht (sackOpen_shift tag _)
    · exact fields_balance (fun f => atSafe (nest f)) f ht (atSafe_shift (nest_shift (s := newSelect s) hd hp.sacksOpen f))
    · exact fields_balance (fun tag => atSafe (unnest tag)) tag ht (atSafe_shift (unnest_shift (s := newSelect s) hd hfits))
    · exact fields_balance takeResolve tag ht (takeResolve_shift tag _)
    · exact (event_shift h (receive_shift hd _)).balance_eq ht
    · exact (event_shift h (sentOf_shift hd _ ack)).balance_eq ht
    · exact (event_shift h (onCountLine_shift (endRecord_shift hd n))).balance_eq ht

end Identity

end Sys2Proof.Machine

/-! PROOFS. Counts, values and totals in their ranges (R14, R115, 00_scope.md; O60). -/

namespace Sys2Proof.Machine

/-! ### The Inbound List -/

/-- The values of an entry are in range. -/
def SoundEntry (e : InboundEntry) : Prop :=
  e.value ≤ Config.valueMax ∧ ∀ v, e.counted = some v → v ≤ Config.valueMax

/-- So are those of every entry of the list. -/
structure SoundEntries (s : State) : Prop where
  each : ∀ e ∈ s.custody.inbound, SoundEntry e

section Entries

variable {s t : State}

theorem SoundEntries.of_inbound (h : SoundEntries s) (ht : t.custody.inbound = s.custody.inbound) : SoundEntries t :=
  ⟨fun e he => h.each e (ht ▸ he)⟩

theorem SoundEntries.within {ps : List Part} (h : SoundEntries s) (hw : Within ps s t) (hp : .inbound ∉ ps := by simp) :
    SoundEntries t := h.of_inbound (hw .inbound hp)

/-- The parts but the Inbound List. -/
abbrev listFree : List Part :=
  [.unit, .clock, .cfg, .table, .releases, .totals, .day, .queue, .line, .station, .peers, .counter, .count, .counts,
   .float, .requests, .list, .safe, .attn, .door, .lamps, .port, .pending]

/-- More is done that leaves the Inbound List. -/
theorem SoundEntries.then (h : SoundEntries s) (hw : Within listFree s t) : SoundEntries t := h.within hw

theorem SoundEntries.of_inbound? (h : SoundEntries s) {tag : Nat} {e : InboundEntry} (he : s.inbound? tag = some e) :
    SoundEntry e := h.each e (List.mem_of_find?_eq_some he)

theorem mapInbound_entries (h : SoundEntries s) {f : InboundEntry → InboundEntry}
    (hf : ∀ e, SoundEntry e → SoundEntry (f e)) : SoundEntries (setInbound (s.custody.inbound.map f) s) := by
  refine ⟨fun e he => ?_⟩
  obtain ⟨d, hd, rfl⟩ := List.mem_map.mp he
  exact hf d (h.each d hd)

theorem updateInbound_entries (h : SoundEntries s) (tag : Nat) {f : InboundEntry → InboundEntry}
    (hf : ∀ e, SoundEntry e → SoundEntry (f e)) : SoundEntries (updateInbound tag f s) :=
  mapInbound_entries h (fun e he => by split; exacts [hf e he, he])

theorem removeInbound_entries (h : SoundEntries s) (tag : Nat) : SoundEntries (removeInbound tag s) :=
  ⟨fun e he => h.each e (List.mem_filter.mp he).1⟩

theorem appendInbound_entries (h : SoundEntries s) {e : InboundEntry} (he : SoundEntry e) :
    SoundEntries (appendInbound e s) := by
  refine ⟨fun d hd => ?_⟩
  obtain hmem | hmem := List.mem_append.mp hd
  · exact h.each d hmem
  · rwa [List.mem_singleton.mp hmem]

theorem becomeUnresolved_entries (h : SoundEntries s) (e : InboundEntry) : SoundEntries (becomeUnresolved e s) := by
  unfold becomeUnresolved
  split
  · exact h
  · exact (updateInbound_entries h e.tag (f := fun e => { e with state := .unresolved }) (fun _ he => he)).then (by simp)

theorem queryUnanswered_entries (h : SoundEntries s) (e : InboundEntry) : SoundEntries (queryUnanswered e s) := by
  have hcleared : SoundEntries (raise .queryUnanswered (updateInbound e.tag clearQuery s)) :=
    (updateInbound_entries h e.tag (f := clearQuery) (fun _ he => he)).then (by simp)
  unfold queryUnanswered
  dsimp only
  split
  exacts [becomeUnresolved_entries hcleared e, hcleared]

theorem queryReported_entries (h : SoundEntries s) (tag number : Nat) (ack : Bool) :
    SoundEntries (queryReported tag number ack s) := by
  unfold queryReported
  repeat' split
  · exact h
  · exact updateInbound_entries h tag (fun _ he => he)
  · exact queryUnanswered_entries h _
  · exact h

theorem completeEntry_entries (h : SoundEntries s) (e : InboundEntry) : SoundEntries (completeEntry e s) := by
  have hentered : SoundEntries (changeTotal .received e.value (appendContainer (enteringContainer s.cfg e) s)) :=
    h.then (by simp)
  exact (removeInbound_entries hentered e.tag).then (by simp [completeEntry])

theorem takenReported_entries (h : SoundEntries s) (tag : Nat) (ack : Bool) : SoundEntries (takenReported tag ack s) := by
  have hunsure : SoundEntries (updateInbound tag
      (fun e => { e with state := .unsure, queryPending := true, queryWaitEnds := none }) s) :=
    updateInbound_entries h tag (fun _ he => he)
  unfold takenReported
  dsimp only
  repeat' split
  · exact h
  · exact h
  · exact completeEntry_entries h _
  · exact hunsure.then (by simp)
  · exact queryUnanswered_entries (hunsure.then (by simp)) _

theorem report_entries (h : SoundEntries s) (f : QueuedFrame) (ack : Bool) : SoundEntries (report f ack s) := by
  unfold report
  split
  · exact h.then (by simp)
  · exact takenReported_entries h ..
  · exact queryReported_entries h ..
  · exact h.then (by simp)
  all_goals exact h

theorem reportLine_entries (h : SoundEntries s) (q : Option QueuedFrame) (ack : Bool) : SoundEntries (reportLine q ack s) := by
  unfold reportLine
  split
  exacts [h, report_entries h ..]

theorem emptyQueue_entries (h : SoundEntries s) : SoundEntries (emptyQueue s) :=
  foldl_keeps (P := SoundEntries) (fun _ f hu => report_entries hu f false) _ (h.of_inbound rfl)

theorem enterDuplicate_entries (h : SoundEntries s) (cause : DuplicateCause) (serial : Option (BitVec 32)) :
    SoundEntries (enterDuplicate cause serial s) := by
  unfold enterDuplicate
  dsimp only
  generalize ({ stationAt .duplicate s.member with duplicate := _ } : Membership) = m
  have hquiet : SoundEntries ({ s with member := m }) := h.of_inbound rfl
  exact emptyQueue_entries (hquiet.then (by simp))

theorem enterStopped_entries (h : SoundEntries s) : SoundEntries (enterStopped s) := by
  have hquiet : SoundEntries (releaseSlot (quietLoop { s with member := stationAt .stopped s.member })) := h.of_inbound rfl
  unfold enterStopped
  exact (emptyQueue_entries hquiet).then (by simp)

theorem sentOf_entries (h : SoundEntries s) (kind : Payload → Bool) (ack : Bool) : SoundEntries (sentOf kind ack s) := by
  unfold sentOf finishFrame
  repeat' split
  · exact h
  · exact reportLine_entries (h.then (by simp)) ..
  · exact h

theorem readBackFault_entries (h : SoundEntries s) : SoundEntries (readBackFault s) := by
  unfold readBackFault
  split
  · exact h
  · next f _ =>
    have hleft : SoundEntries (leaveLine f.payload s) := h.then (by simp)
    unfold faultFrame
    exact (reportLine_entries hleft s.lineFrame false).then (by simp)

theorem announceLost_entries (h : SoundEntries s) (winner : BitVec 32) : SoundEntries (announceLost winner s) := by
  unfold announceLost
  repeat' split
  exacts [h, enterDuplicate_entries h .., h]

theorem ownNumberHeard_entries (h : SoundEntries s) (f : Frame) : SoundEntries (ownNumberHeard f s) := by
  have hdriven (cause : DuplicateCause) (serial : Option (BitVec 32)) :
      SoundEntries (driveSlot (enterDuplicate cause serial s)) := (enterDuplicate_entries h cause serial).of_inbound rfl
  have hraised : SoundEntries (raiseAlarm .duplicateStation s) := h.then (by simp)
  unfold ownNumberHeard
  repeat' split
  all_goals first
    | exact h
    | exact hdriven ..
    | exact hraised
    | exact h.of_inbound rfl
    | exact enterDuplicate_entries h ..

/-! #### Frames heard -/

theorem lapseEntry_entries (h : SoundEntries s) (e : InboundEntry) : SoundEntries (lapseEntry e s) :=
  (removeInbound_entries h e.tag).then (by simp [lapseEntry])

/-- What an OFFER carries, in range (11.2). -/
theorem offeredEntry_sound {p : OfferPayload} (hp : Payload.wellFormed (.offer p) = true) (sender : Nat) (s : State) :
    SoundEntry (offeredEntry sender p s) := by
  simp only [Payload.wellFormed, Bool.and_eq_true, isValue, decide_eq_true_eq] at hp
  obtain ⟨⟨⟨⟨⟨⟨-, hvalue⟩, hcounted⟩, -⟩, -⟩, -⟩, -⟩ := hp
  refine ⟨hvalue, fun v hv => ?_⟩
  have hcount : p.counted = some v := hv
  simpa [hcount, optValue, isValue] using hcounted

theorem placeOffer_entries (h : SoundEntries s) {p : OfferPayload} (hp : Payload.wellFormed (.offer p) = true)
    (sender : Nat) : SoundEntries (placeOffer sender p s).1 := by
  have hnew := offeredEntry_sound hp sender s
  unfold placeOffer registerOffer updateOffered offerTold refuseOffer acted notActed
  repeat' split
  · next e _ =>
    exact (updateInbound_entries h p.tag
      (f := fun _ => { offeredEntry sender p s with state := stateUpdated e.state }) (fun _ _ => hnew)).then (by simp)
  · exact h.then (by simp)
  · exact (appendInbound_entries h hnew).then (by simp)

theorem hearOffer_entries (h : SoundEntries s) {p : OfferPayload} (hp : Payload.wellFormed (.offer p) = true)
    (sender : Nat) : SoundEntries (hearOffer sender p s).1 := by
  have hrefused (r : RefuseReason) : SoundEntries (refuseOffer sender p r s).1 := h.then (by simp [refuseOffer, notActed])
  unfold hearOffer offerNumbered
  dsimp only
  repeat' split
  iterate 4 exact hrefused _
  exact placeOffer_entries (foldl_keeps (P := SoundEntries) (fun _ e hu => lapseEntry_entries hu e) _ h) hp sender

theorem answerNotKnown_entries (h : SoundEntries s) (e : InboundEntry) : SoundEntries (answerNotKnown e s) :=
  becomeUnresolved_entries (updateInbound_entries h e.tag (f := clearQuery) (fun _ he => he)) e

theorem answerHeld_entries (h : SoundEntries s) (p : AnswerPayload) (e : InboundEntry) : SoundEntries (answerHeld p e s) := by
  unfold answerHeld
  refine SoundEntries.then (mapInbound_entries h (f := fun d =>
    if d.tag == e.tag then heldEntry p s d else giveUpNumber e.giver p.number d) (fun d hd => ?_)) (by simp)
  split
  · exact hd
  · unfold giveUpNumber
    split
    exacts [hd, hd]

theorem hearAnswer_entries (h : SoundEntries s) (sender : Nat) (p : AnswerPayload) :
    SoundEntries (hearAnswer sender p s).1 := by
  have hresolved (e : InboundEntry) : SoundEntries (unresolvedCleared e (completeEntry e s)) :=
    (completeEntry_entries h e).then (by simp)
  unfold hearAnswer answerReleased resolveEntry acted notActed
  repeat' split
  all_goals first
    | exact h
    | exact answerHeld_entries h ..
    | exact answerNotKnown_entries h _
    | exact hresolved _

theorem hearRecall_entries (h : SoundEntries s) (sender : Nat) (p : TagNumber) :
    SoundEntries (hearRecall sender p s).1 := by
  have hback : SoundEntries (giveBack sender p s) := (removeInbound_entries h p.tag).then (by simp [giveBack])
  have hframe (q : Payload) : SoundEntries (chipFrame sender q s) := h.then (by simp)
  unfold hearRecall recallTooLate acted notActed
  repeat' split
  exacts [hback, hframe _, hframe _, hframe _]

theorem handle_entries (h : SoundEntries s) {f : Frame} (hf : f.payload.wellFormed = true) :
    SoundEntries (handle f s).1 := by
  unfold handle
  split
  next => exact h.within (within_hearAlarm _ _)
  next =>
    unfold hearTaken releaseContainer acted notActed
    split
    · next c k hr =>
      dsimp only
      generalize hu : removeContainer c.tag (changeTotal .released c.value s) = u
      have hreleased : SoundEntries u := hu ▸ h.then (by simp)
      generalize keepLast _ _ = l
      have hwritten : SoundEntries { u with custody := { u.custody with releases := l } } := hreleased.of_inbound rfl
      exact hwritten.then (by simp)
    · exact h.then (by simp)
  next => exact h.within (within_hearRecallOk _ _)
  next => exact h.within (within_hearRefuse _ _)
  next => exact hearAnswer_entries h ..
  next p hp => exact hearOffer_entries h (hp ▸ hf) _
  next => exact hearRecall_entries h ..
  next => exact h.within (within_hearQuery _ _)
  next => exact h.within (within_hearClaim _ _)
  next => exact h.within (within_hearAward _ _)
  next => exact h.within (within_hearNeed _ _)
  next => exact h.within (within_hearWithdraw _ _)
  all_goals exact h

theorem deliverTargeted_entries (h : SoundEntries s) {f : Frame} (hf : f.payload.wellFormed = true) :
    SoundEntries (deliverTargeted f s) := by
  unfold deliverTargeted deliver
  dsimp only
  repeat' split
  exacts [(handle_entries h hf).of_inbound rfl, handle_entries h hf, h]

theorem receive_entries (h : SoundEntries s) {f : Frame} (hf : f.payload.wellFormed = true) : SoundEntries (receive f s) := by
  have htaken : SoundEntries (lineTaken s) := h.of_inbound rfl
  have hown := ownNumberHeard_entries htaken f
  have htrack : SoundEntries (trackPeer f (lineTaken s)) := htaken.then (by simp)
  unfold receive hearOwnNumber hearPeer
  repeat' split
  exacts [h, htaken, hown, deliverTargeted_entries hown hf, deliverTargeted_entries htrack hf]

/-! #### Requests and timers -/

theorem refuse_entries (h : SoundEntries s) (st : Status) : SoundEntries (refuse st s) := h.of_inbound rfl

theorem take_entries (h : SoundEntries s) {f : TakeFields} (hf : isValue f.value = true) : SoundEntries (take f s) := by
  have hnew (c : ContainerClass) : SoundEntry (takeEntry f c s) :=
    ⟨of_decide_eq_true hf, fun v hv => by simp [takeEntry] at hv⟩
  have hlisted (e : InboundEntry) : SoundEntries (takeExpected e s) :=
    (updateInbound_entries h e.tag (f := fun e => { e with state := .taking }) (fun _ he => he)).then
      (by simp [takeExpected])
  have hunlisted (c : ContainerClass) : SoundEntries (takeNew f c s) :=
    (appendInbound_entries h (hnew c)).then (by simp [takeNew])
  unfold take takeListed takeUnlisted takeRoom
  repeat' split
  all_goals first
    | exact refuse_entries h _
    | exact hlisted _
    | exact hunlisted _

theorem takeResolve_entries (h : SoundEntries s) (tag : Nat) : SoundEntries (takeResolve tag s) := by
  unfold takeResolve resolveEntry
  repeat' split
  iterate 4 exact refuse_entries h _
  next e _ _ _ => exact (completeEntry_entries h e).then (by simp)

theorem decline_entries (h : SoundEntries s) (tag : Nat) : SoundEntries (decline tag s) := by
  unfold decline declineAccepted
  repeat' split
  iterate 3 exact refuse_entries h _
  next e _ _ _ => exact (removeInbound_entries h e.tag).then (by simp)

theorem queryRequest_entries (h : SoundEntries s) (tag : Nat) : SoundEntries (queryRequest tag s) := by
  unfold queryRequest queryAccepted
  repeat' split
  iterate 4 exact refuse_entries h _
  next e _ _ _ _ =>
    exact (updateInbound_entries h e.tag (f := fun e => { e with queryPending := true, queryWaitEnds := none })
      (fun _ he => he)).then (by simp)

theorem stopRequest_entries (h : SoundEntries s) : SoundEntries (stopRequest s) := by
  unfold stopRequest
  repeat' split
  exacts [refuse_entries h _, refuse_entries h _, (enterStopped_entries h).of_inbound rfl]

theorem inboundLapse_entries (h : SoundEntries s) (tag : Nat) : SoundEntries (inboundLapse tag s) := by
  unfold inboundLapse
  split
  exacts [h, lapseEntry_entries h _]

theorem queryWaitEnd_entries (h : SoundEntries s) (tag : Nat) : SoundEntries (queryWaitEnd tag s) := by
  unfold queryWaitEnd
  split
  exacts [h, queryUnanswered_entries h _]

theorem warmStart_entries (h : SoundEntries s) (pins : Pins) : SoundEntries (warmStart pins s) := by
  refine ⟨fun e he => ?_⟩
  obtain ⟨d, hd, rfl⟩ := List.mem_map.mp he
  exact h.each d hd

theorem coldStart_entries (pins : Pins) (s : State) : SoundEntries (coldStart pins s) :=
  ⟨fun e he => by simp [coldStart, State.cold, emptyCustody] at he⟩

theorem onLoop_entries {α : Type} {run : α → State → State} {a : α} (h : SoundEntries s)
    (hrun : SoundEntries (run a s)) : SoundEntries (onLoop run a s) := by
  unfold onLoop
  split
  exacts [hrun, refuse_entries h _]

/-- A well-formed request is of the wrong length, or its fields are in range. -/
theorem formed_request_keeps {α : Type} {P : State → Prop} {b : Body α} {ok : α → Bool} {run : α → State → State}
    (h : request b s run = .next t) (hb : b.wellFormed ok = true) (hs : P s) (hrefused : P (refused .badLength s))
    (hrun : ∀ a, ok a = true → P (run a (newSelect s))) : P t := by
  obtain rfl := Host.Outcome.next.inj h
  cases b with
  | wrongLength => split; exacts [hrefused, hs]
  | fields a => split; exacts [hrun a hb, hs]

theorem exec_entries {c : Instr} (h : exec c s = .next t) (hc : c.wellFormed = true) (hs : SoundEntries s) :
    SoundEntries t := by
  have hw := exec_within h
  have hn : SoundEntries (newSelect s) := hs.of_inbound rfl
  have hrefused : SoundEntries (refused .badLength s) := hs.of_inbound rfl
  have received {sender target : Nat} {p : Payload} (hp : frameOk sender target p = true)
      (he : event s (receive { sender := sender, target := target, payload := p }) = .next t) : SoundEntries t := by
    simp only [frameOk, Bool.and_eq_true] at hp
    exact event_keeps he hs (receive_entries hs hp.2)
  cases c with
  | powerUp pins =>
    cases h
    unfold powerUp
    repeat' split
    exacts [hs, warmStart_entries hs pins, coldStart_entries pins s]
  | coldStart pins => cases h; split; exacts [hs, coldStart_entries pins s]
  | warmStart pins => cases h; split; exacts [hs, warmStart_entries hs pins]
  | selectRelease pins =>
    refine event_keeps h hs ?_
    unfold selectRelease
    split
    exacts [hn, warmStart_entries hs pins, coldStart_entries pins s]
  | stop b => exact request_keeps h hs hrefused (fun _ => stopRequest_entries hn)
  | take b =>
    refine formed_request_keeps h hc hs hrefused (fun f hf => onLoop_entries hn (take_entries hn ?_))
    simp only [Bool.and_eq_true] at hf
    exact hf.2
  | takeResolve b => exact request_keeps h hs hrefused (fun tag => takeResolve_entries hn tag)
  | decline b => exact request_keeps h hs hrefused (fun tag => onLoop_entries hn (decline_entries hn tag))
  | query b => exact request_keeps h hs hrefused (fun tag => onLoop_entries hn (queryRequest_entries hn tag))
  | frameSent ack | offerReport ack | takenReport ack | queryReport ack | claimReport ack =>
    exact event_keeps h hs (sentOf_entries hs _ ack)
  | announceCompleted => exact event_keeps h hs (sentOf_entries hs _ false)
  | announceLostSerial winner => exact event_keeps h hs (announceLost_entries hs winner)
  | readBackFault => exact event_keeps h hs (readBackFault_entries hs)
  | intactFrameHeard f => exact received hc h
  | alarmReceived _ _ _ | takenReceived _ _ _ | recallOkReceived _ _ _ | refuseReceived _ _ _ | answerReceived _ _ _
  | offerReceived _ _ _ | recallReceived _ _ _ | queryReceived _ _ _ | claimReceived _ _ _ | awardReceived _ _ _
  | needReceived _ _ _ | withdrawReceived _ _ _ | announceReceived _ _ _ | conflictReceived _ _ _ | beaconReceived _ _ _ =>
    exact received hc h
  | inboundLapse tag => exact event_keeps h hs (inboundLapse_entries hs tag)
  | queryWaitEnd tag => exact event_keeps h hs (queryWaitEnd_entries hs tag)
  | _ => exact hs.within hw (by simp [touched])

end Entries

end Sys2Proof.Machine

/-! PROOFS. Position, containers and totals in their ranges (R14, R115, 00_scope.md), and every command (O60). -/

namespace Sys2Proof.Machine

/-- The values of a container are in range. -/
def SoundContainer (c : Container) : Prop :=
  c.value ≤ Config.valueMax ∧ ∀ g, c.counted = some g → g.value ≤ Config.valueMax

/-- Position, face values, containers and totals are in range. -/
structure SoundValues (s : State) : Prop where
  pieces : ∀ d, s.pieces d ≤ Config.countMax
  faces : ∀ d, s.cfg.face d ≤ 500000
  containers : ∀ c ∈ s.custody.table, SoundContainer c
  totals : ∀ k, -Config.totalMax ≤ s.custody.totals.get k ∧ s.custody.totals.get k ≤ Config.totalMax

theorem moneyInv_iff (s : State) : MoneyInv s ↔ SoundValues s ∧ SoundEntries s :=
  ⟨fun ⟨hpieces, hfaces, hvalues, hcounted, hentries, hentryCounted, htotals⟩ =>
      ⟨⟨hpieces, hfaces, fun c hc => ⟨hvalues c hc, hcounted c hc⟩, htotals⟩,
        ⟨fun e he => ⟨hentries e he, hentryCounted e he⟩⟩⟩,
    fun ⟨⟨hpieces, hfaces, hcontainers, htotals⟩, ⟨hentries⟩⟩ =>
      ⟨hpieces, hfaces, fun c hc => (hcontainers c hc).1, fun c hc => (hcontainers c hc).2, fun e he => (hentries e he).1,
        fun e he => (hentries e he).2, htotals⟩⟩

section Values

variable {s t : State}

/-! ### Shared operations -/

theorem soundContainer_of_stamp {c d : Container} (h : c.stamp = d.stamp) (hd : SoundContainer d) : SoundContainer c := by
  obtain ⟨-, hvalue, hcounted, -⟩ := (stamp_eq_iff c d).mp h
  unfold SoundContainer
  rwa [hvalue, hcounted]

theorem SoundValues.kept (h : SoundValues s) (k : ValueKept s t) : SoundValues t := by
  refine ⟨fun d => ?_, fun d => ?_, fun c hc => ?_, fun n => ?_⟩
  · have hd := h.pieces d
    rwa [State.pieces, ← k.counts] at hd
  · have hd := h.faces d
    rwa [Settings.face, Settings.denom, ← k.denoms] at hd
  · obtain ⟨d, hd, hstamp⟩ := k.symm.exists_stamp hc
    exact soundContainer_of_stamp hstamp.symm (h.containers d hd)
  · rw [k.totals]
    exact h.totals n

theorem SoundValues.then (h : SoundValues s) (hw : Within valueFree s t) : SoundValues t := h.kept hw.valueKept

theorem boundTotal_range (v : Int) : -Config.totalMax ≤ boundTotal v ∧ boundTotal v ≤ Config.totalMax := by
  simp only [boundTotal, Config.totalMax]
  omega

theorem get_put (a : Totals) (k n : TotalName) (v : Int) : (a.put k v).get n = if n = k then v else a.get n := by
  cases k <;> cases n <;> rfl

theorem changeTotal_values (h : SoundValues s) (k : TotalName) (d : Int) : SoundValues (changeTotal k d s) := by
  obtain ⟨htotals, -⟩ := changeTotal_totals s k d
  obtain ⟨⟨-, -, hcfg, -⟩, -, htable, -, -, -, -, -, -, hpos, -⟩ := changeTotal_keeps s k d
  refine ⟨fun i => ?_, fun i => hcfg ▸ h.faces i, htable ▸ h.containers, fun n => ?_⟩
  · have hi := h.pieces i
    rwa [State.pieces, ← hpos] at hi
  · rw [htotals, get_put]
    split
    exacts [boundTotal_range _, h.totals n]

theorem setTable_values (h : SoundValues s) {l : List Container} (hl : ∀ c ∈ l, SoundContainer c) :
    SoundValues (setTable l s) :=
  ⟨h.pieces, h.faces, hl, h.totals⟩

theorem appendContainer_values (h : SoundValues s) {c : Container} (hc : SoundContainer c) :
    SoundValues (appendContainer c s) :=
  setTable_values h (fun d hd => by
    obtain hmem | hmem := List.mem_append.mp hd
    exacts [h.containers d hmem, List.mem_singleton.mp hmem ▸ hc])

theorem removeContainer_values (h : SoundValues s) (tag : Nat) : SoundValues (removeContainer tag s) :=
  setTable_values h (fun c hc => h.containers c (List.mem_filter.mp hc).1)

theorem mapTable_values (h : SoundValues s) {f : Container → Container}
    (hf : ∀ c ∈ s.custody.table, SoundContainer c → SoundContainer (f c)) :
    SoundValues (setTable (s.custody.table.map f) s) :=
  setTable_values h (fun c hc => by
    obtain ⟨d, hd, rfl⟩ := List.mem_map.mp hc
    exact hf d hd (h.containers d hd))

theorem updateContainer_values (h : SoundValues s) (tag : Nat) {f : Container → Container}
    (hf : ∀ c ∈ s.custody.table, c.tag = tag → SoundContainer c → SoundContainer (f c)) :
    SoundValues (updateContainer tag f s) :=
  mapTable_values h (fun c hc hsound => by
    by_cases htag : c.tag = tag
    · simpa [htag] using hf c hc htag hsound
    · simpa [htag] using hsound)

/-- Only the position counts change, and stay in range. -/
theorem SoundValues.of_counts (h : SoundValues s) (hcfg : t.cfg = s.cfg) (hcustody : t.custody = s.custody)
    (hp : ∀ d < 12, t.pieces d ≤ Config.countMax) : SoundValues t := by
  refine ⟨fun d => ?_, fun d => hcfg ▸ h.faces d, fun c hc => h.containers c (hcustody ▸ hc), fun k => hcustody ▸ h.totals k⟩
  by_cases hd : d < 12
  · exact hp d hd
  · simp [State.pieces, hd]

theorem addPieces_values (h : SoundValues s) (good : List Nat) : SoundValues (addPieces good s) :=
  h.of_counts rfl rfl (fun d hd => by rw [pieces_addPieces good s hd]; exact Nat.min_le_left ..)

theorem takePieces_values (h : SoundValues s) (good : List Nat) : SoundValues (takePieces good s) :=
  h.of_counts rfl rfl (fun d hd => by rw [pieces_takePieces good s hd]; exact (Nat.sub_le ..).trans (h.pieces d))

theorem takeComp_values (h : SoundValues s) (c : Composition) : SoundValues (takeComp c s) :=
  h.of_counts rfl rfl (fun d hd => by rw [pieces_takeComp c s hd]; exact (Nat.sub_le ..).trans (h.pieces d))

/-- A composition comes back where every slot has room for it (R12). -/
theorem addComp_values (h : SoundValues s) {c : Composition} (hroom : s.roomFor c = true) : SoundValues (addComp c s) :=
  h.of_counts rfl rfl (fun d hd => by
    rw [pieces_addComp c s hd, compAt]
    cases hfind : c.find? (fun p => p.1 == d) with
    | none => simpa using h.pieces d
    | some p =>
      have hslot : p.1 = d := by simpa using List.find?_some hfind
      simpa [hslot] using (roomFor_iff s c).mp hroom p (List.mem_of_find?_eq_some hfind))

/-! ### Bounds of values -/

/-- Twelve counts of at most 65535 at face values of at most 500000 stay below the largest container value. -/
theorem slotValue_le {cfg : Settings} (hfaces : ∀ d, cfg.face d ≤ 500000) {f : Nat → Nat}
    (hf : ∀ d < 12, f d ≤ Config.countMax) : slotValue cfg f ≤ 393210000000 := by
  have hslot (d : Nat) (hd : d ∈ slots) : f d * cfg.face d ≤ 32767500000 :=
    Nat.mul_le_mul (hf d (List.mem_range.mp hd)) (hfaces d)
  have hsum := List.sum_le_card_nsmul (slots.map (fun d => f d * cfg.face d)) 32767500000 (fun n hn => by
    obtain ⟨d, hd, rfl⟩ := List.mem_map.mp hn
    exact hslot d hd)
  simpa [slotValue] using hsum

theorem compAt_le {c : Composition} (h : compProper c = true) (d : Nat) : compAt c d ≤ Config.countMax := by
  unfold compAt
  cases hfind : c.find? (fun p => p.1 == d) with
  | none => exact Nat.zero_le _
  | some p =>
    simp only [compProper, Bool.and_eq_true, List.all_eq_true, decide_eq_true_eq] at h
    exact (h.1 p (List.mem_of_find?_eq_some hfind)).2

theorem valueOf_le (h : SoundValues s) {c : Composition} (hc : compProper c = true) :
    s.cfg.valueOf c ≤ Config.valueMax := by
  rw [valueOf_eq_slotValue s.cfg hc]
  exact (slotValue_le h.faces (fun d _ => compAt_le hc d)).trans (by decide)

/-- The good pieces of a batch are worth less than the largest container value (R102, R103). -/
theorem endedTally_le (h : SoundValues s) (job : CountJob) : (endedTally job s).countedValue ≤ Config.valueMax := by
  have hgood (d : Nat) (hd : d < 12) : atSlot (endedTally job s).good d ≤ Config.countMax := by
    have hat : atSlot (endedTally job s).good d = tallyAt s.cfg s.count.fifo false d := by
      simp [endedTally, tallyPart, tallies, atSlot, hd]
    rw [hat, tallyAt]
    split
    exacts [Nat.min_le_left .., Nat.zero_le _]
  exact (slotValue_le (f := atSlot (endedTally job s).good) h.faces hgood).trans (by decide)

/-! ### Handover -/

theorem enteringContainer_sound {e : InboundEntry} (h : SoundEntry e) (cfg : Settings) :
    SoundContainer (enteringContainer cfg e) := by
  refine ⟨h.1, fun g hg => ?_⟩
  obtain ⟨v, hv, rfl⟩ := Option.map_eq_some_iff.mp hg
  exact h.2 v hv

theorem completeEntry_values (h : SoundValues s) {e : InboundEntry} (he : SoundEntry e) : SoundValues (completeEntry e s) :=
  (changeTotal_values (appendContainer_values h (enteringContainer_sound he s.cfg)) .received e.value).then
    (by simp [completeEntry])

theorem takenReported_values (h : SoundValues s) (he : SoundEntries s) (tag : Nat) (ack : Bool) :
    SoundValues (takenReported tag ack s) := by
  cases ack with
  | false => exact h.kept (takenReported_kept tag s)
  | true =>
    unfold takenReported
    dsimp only
    repeat' split
    · exact h
    · exact h
    · next hfound _ _ => exact completeEntry_values h (he.of_inbound? hfound)
    · contradiction
    · contradiction

theorem report_values (h : SoundValues s) (he : SoundEntries s) (hd : Distinct s) (f : QueuedFrame) (ack : Bool) :
    SoundValues (report f ack s) := by
  unfold report
  split
  · exact h.kept (offerReported_kept hd ..)
  · exact takenReported_values h he ..
  · exact h.then (by simp)
  · exact h.then (by simp)
  all_goals exact h

theorem reportLine_values (h : SoundValues s) (he : SoundEntries s) (hd : Distinct s) (q : Option QueuedFrame)
    (ack : Bool) : SoundValues (reportLine q ack s) := by
  unfold reportLine
  split
  exacts [h, report_values h he hd ..]

theorem sentOf_values (h : SoundValues s) (he : SoundEntries s) (hd : Distinct s) (kind : Payload → Bool) (ack : Bool) :
    SoundValues (sentOf kind ack s) := by
  unfold sentOf
  repeat' split
  · exact h
  · next f _ _ =>
    have hleft : Within [.line, .queue, .station] s
        (startWait f.payload (setScore (s.loop.faultScore - 1) (leaveLine f.payload s))) := by simp
    exact reportLine_values (h.kept (hleft.mono (by simp)).valueKept) (he.within hleft)
      ((hleft.mono (by simp)).valueKept.distinct hd) ..
  · exact h

theorem readBackFault_values (h : SoundValues s) (he : SoundEntries s) (hd : Distinct s) : SoundValues (readBackFault s) := by
  unfold readBackFault
  split
  · exact h
  · next f _ =>
    have hleft : Within [.line, .queue, .station] s (leaveLine f.payload s) := by simp
    unfold faultFrame
    exact (reportLine_values (h.kept (hleft.mono (by simp)).valueKept) (he.within hleft)
      ((hleft.mono (by simp)).valueKept.distinct hd) s.lineFrame false).then (by simp)

theorem releaseContainer_values (h : SoundValues s) (c : Container) (k : HandoverFields) :
    SoundValues (releaseContainer c k s) := by
  have hremoved := removeContainer_values (changeTotal_values h .released c.value) c.tag
  unfold releaseContainer
  dsimp only
  generalize removeContainer c.tag (changeTotal .released c.value s) = u at hremoved ⊢
  generalize keepLast _ _ = l
  have hwritten : ValueKept u { u with custody := { u.custody with releases := l } } := ⟨rfl, rfl, rfl, rfl, rfl⟩
  exact (hremoved.kept hwritten).then (by simp)

theorem handle_values (h : SoundValues s) (he : SoundEntries s) (hd : Distinct s) (f : Frame) :
    SoundValues (handle f s).1 := by
  have hresolved (e : InboundEntry) (hs : SoundEntry e) : SoundValues (unresolvedCleared e (completeEntry e s)) :=
    (completeEntry_values h hs).then (by simp)
  unfold handle
  split
  · exact h.then ((within_hearAlarm _ _).mono (by simp))
  · unfold hearTaken acted notActed
    split
    exacts [releaseContainer_values h .., h.then (by simp)]
  · exact h.kept (hearRecallOk_kept hd ..)
  · exact h.kept (hearRefuse_kept hd ..)
  · unfold hearAnswer answerHeld answerReleased resolveEntry acted notActed
    repeat' split
    all_goals first
      | exact h
      | exact hresolved _ (he.of_inbound? (Option.filter_eq_some_iff.mp (by assumption)).1)
      | (refine SoundValues.then h ?_; simp)
  · exact h.then ((within_hearOffer _ _).mono (by simp))
  · exact h.then ((within_hearRecall _ _).mono (by simp))
  · exact h.then ((within_hearQuery _ _).mono (by simp))
  · exact h.then ((within_hearClaim _ _).mono (by simp))
  · exact h.then ((within_hearAward _ _).mono (by simp))
  · exact h.then ((within_hearNeed _ _).mono (by simp))
  · exact h.then ((within_hearWithdraw _ _).mono (by simp))
  all_goals exact h

theorem deliverTargeted_values (h : SoundValues s) (he : SoundEntries s) (hd : Distinct s) (f : Frame) :
    SoundValues (deliverTargeted f s) := by
  unfold deliverTargeted deliver
  dsimp only
  repeat' split
  exacts [(handle_values h he hd f).then (by simp), handle_values h he hd f, h]

theorem receive_values (h : SoundValues s) (he : SoundEntries s) (hd : Distinct s) (f : Frame) : SoundValues (receive f s) := by
  have htaken : ValueKept s (lineTaken s) := Within.valueKept (by simp)
  have hown := htaken.trans (ownNumberHeard_kept (htaken.distinct hd) f)
  have htrack : ValueKept s (trackPeer f (lineTaken s)) := htaken.then (by simp)
  have hentries : SoundEntries (lineTaken s) := he.of_inbound rfl
  unfold receive hearOwnNumber hearPeer
  repeat' split
  · exact h
  · exact h.kept htaken
  · exact h.kept hown
  · exact deliverTargeted_values (h.kept hown) (ownNumberHeard_entries hentries f) (hown.distinct hd) f
  · exact deliverTargeted_values (h.kept htrack) (hentries.then (by simp)) (htrack.distinct hd) f

/-! ### Batches -/

theorem applyIntake_values (h : SoundValues s) (p : TallyPart) : SoundValues (applyIntake p s) := by
  unfold applyIntake
  generalize excessSlots p.good s = c
  have hintake := changeTotal_values (addPieces_values h p.good) .intake p.countedValue
  have hdone (v : State) (hv : SoundValues v) : SoundValues (evaluate (limitAlarm c v)) := hv.then (by simp)
  refine hdone _ ?_
  split
  exacts [hintake, changeTotal_values hintake ..]

theorem applyPayout_values (h : SoundValues s) (p : TallyPart) : SoundValues (applyPayout p s) := by
  unfold applyPayout
  generalize shortSlots p.good s = c
  have hpayout := changeTotal_values (takePieces_values h p.good) .payout p.countedValue
  have hdone (v : State) (hv : SoundValues v) : SoundValues (evaluate (limitAlarm c v)) := hv.then (by simp)
  refine hdone _ ?_
  split
  exacts [hpayout, changeTotal_values hpayout ..]

theorem applyUnpack_values (h : SoundValues s) (tag : Nat) (p : TallyPart) (r : ReconciliationPart) :
    SoundValues (applyUnpack tag p r s) := by
  unfold applyUnpack
  generalize excessSlots p.good s = e
  have hlimited : SoundValues (limitAlarm e (addPieces p.good s)) := (addPieces_values h p.good).then (by simp)
  have hdone (v : State) (hv : SoundValues v) :
      SoundValues (evaluate (raiseIf (disputes r.cls) .variance (toldSetback true tag v))) := hv.then (by simp)
  exact hdone _ (removeContainer_values (changeTotal_values hlimited ..) tag)

theorem applyRecount_values (h : SoundValues s) (tag : Nat) {p : TallyPart} (hp : p.countedValue ≤ Config.valueMax)
    (r : ReconciliationPart) : SoundValues (applyRecount tag p r s) := by
  have hwritten := updateContainer_values h tag
    (f := fun c => { c with state := .held, counted := some (countedGroup p r), disputed := disputes r.cls })
    (fun c _ _ hc => ⟨hc.1, fun g hg => by cases hg; exact hp⟩)
  unfold applyRecount
  exact hwritten.then (by simp)

theorem applyBatch_values (h : SoundValues s) (hd : Distinct s) (job : CountJob) (damaged : Bool) {p : TallyPart}
    (hp : p.countedValue ≤ Config.valueMax) (r : Option ReconciliationPart) :
    SoundValues (applyBatch job damaged p r s) := by
  have hreleased := releaseLock_kept job.tag s
  have hlock : SoundValues (settleDeferred job.tag false (releaseLock job.tag s)) :=
    h.kept (hreleased.trans (settleDeferred_kept (hreleased.distinct hd) (by simp)))
  unfold applyBatch
  split
  · exact applyIntake_values h p
  · exact applyPayout_values h p
  next q _ =>
    obtain ⟨htags, hunnested⟩ := applyRecount_tags job.tag p q s
    refine (applyRecount_values h job.tag hp q).kept (settleDeferred_kept ?_ (fun _ => hunnested))
    unfold Distinct
    rwa [htags]
  · exact hlock
  next q _ => exact (applyUnpack_values h job.tag p q).then (by simp)
  · exact hlock

theorem endBatch_values (h : SoundValues s) (hd : Distinct s) (cause : EndCause) (figure : Option Nat) :
    SoundValues (endBatch cause figure s) := by
  obtain ⟨_, he⟩ | ⟨job, _, he⟩ := endBatch_cases cause figure s <;> rw [he]
  · exact h
  · have hset : ValueKept s (setCount (endedEngine job cause figure s) s) := Within.valueKept (by simp)
    exact (applyBatch_values (h.kept hset) (hset.distinct hd) job (endedDamaged job figure s) (endedTally_le h job)
      (endedRecon job figure s)).then (by simp)

theorem onCountLine_values {run : State → State} (h : SoundValues s) (hrun : SoundValues (run s)) :
    SoundValues (onCountLine run s) := by
  unfold onCountLine
  split
  exacts [h, hrun]

theorem endRecord_values (h : SoundValues s) (hd : Distinct s) (n : Nat) : SoundValues (endRecord n s) := by
  have hbegun : ValueKept s (beginBatch s) := Within.valueKept (by simp)
  unfold endRecord
  split
  exacts [endBatch_values (h.kept hbegun) (hbegun.distinct hd) .., h.then (by simp)]

theorem haltRecord_values (h : SoundValues s) (hd : Distinct s) : SoundValues (haltRecord s) := by
  have hbegun : ValueKept s (damageBatch .halted (beginBatch s)) := Within.valueKept (by simp)
  have hdamaged : ValueKept s (damageBatch .halted s) := Within.valueKept (by simp)
  unfold haltRecord
  split
  exacts [endBatch_values (h.kept hbegun) (hbegun.distinct hd) ..,
    endBatch_values (h.kept hdamaged) (hdamaged.distinct hd) .., h, h.then (by simp), h.then (by simp)]

theorem batchIdleEnd_values (h : SoundValues s) (hd : Distinct s) : SoundValues (batchIdleEnd s) := by
  have habandoned : ValueKept s (abandonAssembly (setDiscarding false s)) := Within.valueKept (by simp)
  unfold batchIdleEnd
  dsimp only
  split
  exacts [endBatch_values (h.kept habandoned) (habandoned.distinct hd) .., h.kept habandoned]

theorem refuse_values (h : SoundValues s) (st : Status) : SoundValues (refuse st s) := h.then (by simp)

theorem countAbort_values (h : SoundValues s) (hd : Distinct s) : SoundValues (countAbort s) := by
  unfold countAbort
  repeat' split
  · exact refuse_values h _
  next job _ =>
    suffices habort : SoundValues (abortSession job s) from habort.then (by simp)
    unfold abortSession
    repeat' split
    exacts [endBatch_values h hd .., h.then (by simp), h.kept (abandonCount_kept hd ..)]
  · exact refuse_values h _

/-! ### Requests -/

theorem makeUp_values (h : SoundValues s) (f : MakeUpFields) : SoundValues (makeUp f s) := by
  unfold makeUp
  repeat' split
  iterate 3 exact refuse_values h _
  next hform _ c _ =>
  unfold makeUpChecked
  repeat' split
  iterate 4 exact refuse_values h _
  have hproper : compProper f.comp = true := by
    have hrequired : compRequired f.comp = true := by
      by_contra hno
      exact hform (.inr (by simpa using hno))
    simp only [compRequired, Bool.and_eq_true] at hrequired
    exact hrequired.2
  unfold makeUpAccepted
  refine SoundValues.then (appendContainer_values (takeComp_values h f.comp) (c := freshContainer f.tag c s.own
    (s.cfg.valueOf f.comp) (some f.comp)) ⟨valueOf_le h hproper, fun g hg => ?_⟩) (by simp)
  simp [freshContainer] at hg

theorem dismantle_values (h : SoundValues s) (tag : Nat) : SoundValues (dismantle tag s) := by
  unfold dismantle dismantleFound
  repeat' split
  iterate 7 exact refuse_values h _
  next c _ _ _ _ _ _ _ _ hroom =>
    unfold dismantleAccepted
    exact (removeContainer_values (addComp_values h hroom) c.tag).then (by simp)
  · exact refuse_values h _

theorem acceptVariance_values (h : SoundValues s) (tag : Nat) : SoundValues (acceptVariance tag s) := by
  unfold acceptVariance acceptVarianceFound
  repeat' split
  iterate 4 exact refuse_values h _
  next c hc _ _ g hg =>
    have hvalue : g.value ≤ Config.valueMax := (h.containers c (mem_of_container? hc)).2 g hg
    have hwritten := updateContainer_values (changeTotal_values h .difference (varianceOf g.value c.value)) c.tag
      (f := acceptedCount g) (fun d _ _ hd => ⟨hvalue, hd.2⟩)
    unfold acceptVarianceAccepted
    exact hwritten.then (by simp)

theorem atSafe_values {run : State → State} (h : SoundValues s) (hrun : SoundValues (run s)) :
    SoundValues (atSafe run s) := by
  unfold atSafe
  repeat' split
  exacts [refuse_values h _, refuse_values h _, hrun]

theorem admitStock_values (h : SoundValues s) (f : AdmitFields) : SoundValues (admitStock f s) := by
  unfold admitStock
  repeat' split
  · exact refuse_values h _
  next hform =>
    refine atSafe_values h ?_
    unfold admitChecked
    repeat' split
    iterate 4 exact refuse_values h _
    have hvalue : f.value ≤ Config.valueMax := by
      simp only [admitForm, Bool.and_eq_true, decide_eq_true_eq] at hform
      exact hform.1.2
    unfold admitAccepted
    refine SoundValues.then (changeTotal_values (appendContainer_values h (c := freshContainer f.tag .changeStock s.own
      f.value (givenComp f.comp)) ⟨hvalue, fun g hg => ?_⟩) .admitted f.value) (by simp)
    simp [freshContainer] at hg
  · exact refuse_values h _

theorem takeResolve_values (h : SoundValues s) (he : SoundEntries s) (tag : Nat) : SoundValues (takeResolve tag s) := by
  unfold takeResolve resolveEntry
  repeat' split
  iterate 4 exact refuse_values h _
  next hfound _ _ => exact (completeEntry_values h (he.of_inbound? hfound)).then (by simp)

theorem sackOpen_values (h : SoundValues s) (tag : Nat) : SoundValues (sackOpen tag s) := by
  unfold sackOpen
  split
  · exact refuse_values h _
  · refine atSafe_values h ?_
    unfold sackOpenChecked
    repeat' split
    · exact refuse_values h _
    · exact refuse_values h _
    · refine SoundValues.then (appendContainer_values h (c := freshSack tag s.own) ⟨Nat.zero_le _, fun g hg => ?_⟩) (by simp)
      simp [freshSack, freshContainer] at hg

/-- A sack gains a member while its value stays in range (R156). -/
theorem nestAccepted_values (h : SoundValues s) (hd : Distinct s) {sack m : Container} (hsack : sack ∈ s.custody.table)
    (k : SackFields) (hsum : sack.value + m.value ≤ Config.valueMax) : SoundValues (nestAccepted sack k m s) := by
  have hlinked := linkLast_kept k m.tag s
  have hnested := updateContainer_values (h.kept hlinked) m.tag (f := nestMember sack.tag) (fun c _ _ hc => hc)
  have hstamp : ∀ c ∈ (updateContainer m.tag (nestMember sack.tag) (linkLast k m.tag s)).custody.table,
      c.tag = sack.tag → c.value = sack.value := by
    intro c hc htag
    rw [updateContainer_table] at hc
    obtain ⟨d, hd', rfl⟩ := List.mem_map.mp hc
    obtain ⟨e, he, hes⟩ := hlinked.symm.exists_stamp hd'
    obtain ⟨htags, hvalues, -, -⟩ := (stamp_eq_iff e d).mp hes
    have hkept : (if d.tag == m.tag then nestMember sack.tag d else d).tag = d.tag ∧
        (if d.tag == m.tag then nestMember sack.tag d else d).value = d.value := by
      split <;> exact ⟨rfl, rfl⟩
    have heq : e = sack := hd.eq_of_tag he hsack (by rw [htags, ← hkept.1, htag])
    rw [hkept.2, ← hvalues, heq]
  have hgained := updateContainer_values hnested sack.tag (f := gainMember m.tag m.value k) (fun c hc htag hsound =>
    ⟨by rw [gainMember, hstamp c hc htag]; exact hsum, hsound.2⟩)
  unfold nestAccepted
  exact hgained.then (by simp)

theorem nest_values (h : SoundValues s) (hd : Distinct s) (f : NestFields) : SoundValues (nest f s) := by
  unfold nest
  split
  next sack m hsack hm =>
    unfold nestFound
    split
    next k _ _ =>
      unfold nestChecked
      repeat' split
      iterate 7 exact refuse_values h _
      next hsum => exact nestAccepted_values h hd (mem_of_container? hsack) k (not_lt.mp hsum)
    · exact refuse_values h _
  · exact refuse_values h _

theorem unnest_values (h : SoundValues s) (tag : Nat) : SoundValues (unnest tag s) := by
  unfold unnest unnestFound
  repeat' split
  iterate 3 exact refuse_values h _
  next m _ _ _ sack k _ _ =>
    have hfreed := updateContainer_values h m.tag (f := freeMember) (fun c _ _ hc => hc)
    have hbridged := hfreed.kept (bridge_kept m.tag m.nextMember _)
    have hlost := updateContainer_values hbridged sack.tag (f := loseMember m k)
      (fun c _ _ hc => ⟨(Nat.sub_le ..).trans hc.1, hc.2⟩)
    unfold unnestAccepted
    exact hlost.then (by simp)
  · exact refuse_values h _

theorem sackAbandon_values (h : SoundValues s) (c : Container) (k : SackFields) : SoundValues (sackAbandon c k s) := by
  have hfreed (tags : List Nat) : SoundValues (freeMembers tags s) :=
    mapTable_values h (fun d _ hd => by split; exacts [hd, hd])
  unfold sackAbandon
  exact (removeContainer_values (hfreed ((s.members k).map (·.tag))) c.tag).then (by simp)

theorem dispatch_values (h : SoundValues s) (c : Container) (k : SackFields) : SoundValues (dispatch c k s) := by
  unfold dispatch
  repeat' split
  · exact refuse_values h _
  · exact refuse_values h _
  have hremoved : SoundValues (removeSack c k s) :=
    removeContainer_values (setTable_values h (fun d hd => h.containers d (List.mem_filter.mp hd).1)) c.tag
  have hmoved := changeTotal_values hremoved .dispatched c.value
  unfold dispatchAccepted
  dsimp only
  generalize changeTotal .dispatched c.value (removeSack c k s) = u at hmoved ⊢
  generalize keepLast _ _ = l
  have hwritten : ValueKept u { u with safe := { u.safe with dispatches := l } } := ⟨rfl, rfl, rfl, rfl, rfl⟩
  exact (hmoved.kept hwritten).then (by simp)

theorem onSack_values {run : Container → SackFields → State → State} (h : SoundValues s) (tag : Nat)
    (hrun : ∀ c k, SoundValues (run c k s)) : SoundValues (onSack run tag s) := by
  refine atSafe_values h ?_
  repeat' split
  exacts [refuse_values h _, hrun .., refuse_values h _]

theorem writeDenomination_values (h : SoundValues s) (f : DenominationFields) : SoundValues (writeDenomination f s) := by
  unfold writeDenomination
  repeat' split
  iterate 4 exact refuse_values h _
  next k _ _ _ =>
    have hset : SoundValues (setCfg { s.cfg with
        denoms := s.cfg.denoms.setIfInBounds f.slot (denominationOf f k) } s) := by
      refine ⟨h.pieces, fun d => ?_, h.containers, h.totals⟩
      have hd := h.faces d
      simp only [Settings.face, Settings.denom, setCfg] at hd ⊢
      by_cases hlt : d < 12
      · by_cases heq : f.slot = d
        · simp [hlt, heq, denominationOf, clamp]
        · simpa [hlt, heq, Vector.getElem?_setIfInBounds] using hd
      · simpa [hlt] using hd
    exact (hset.then (by simp)).kept (accepted_kept _)

theorem setting_values {α : Type} {run : α → State → State} {a : α} (h : SoundValues s)
    (hrun : SoundValues (run a s)) : SoundValues (setting run a s) := by
  unfold setting
  split
  exacts [hrun, refuse_values h _]

theorem onLoop_values {α : Type} {run : α → State → State} {a : α} (h : SoundValues s)
    (hrun : SoundValues (run a s)) : SoundValues (onLoop run a s) := by
  unfold onLoop
  split
  exacts [hrun, refuse_values h _]

/-- Forty-eight containers and the position are worth less than the bound of a total (R7, R14). -/
theorem accountable_le (h : SoundValues s) (hroom : s.custody.table.length ≤ Config.custodyCap) :
    s.accountable ≤ Config.totalMax := by
  have hposition : s.positionValue ≤ 393210000000 := slotValue_le h.faces (fun d _ => h.pieces d)
  have hsum := List.sum_le_card_nsmul (s.custody.table.map Container.worth) Config.valueMax (fun n hn => by
    obtain ⟨c, hc, rfl⟩ := List.mem_map.mp hn
    unfold Container.worth
    split
    exacts [Nat.zero_le _, (h.containers c hc).1])
  rw [← containerValue_eq, List.length_map, smul_eq_mul] at hsum
  have hcontainers := hsum.trans (Nat.mul_le_mul_right _ hroom)
  simp only [State.accountable, Config.totalMax, Config.valueMax, Config.custodyCap] at hcontainers ⊢
  omega

theorem dayClose_values (h : SoundValues s) (hroom : s.custody.table.length ≤ Config.custodyCap) :
    SoundValues (dayClose s) := by
  unfold dayClose
  split
  · exact refuse_values h _
  · have hle := accountable_le h hroom
    have hnonneg : 0 ≤ s.accountable := Int.natCast_nonneg _
    have hclosed : SoundValues { s with custody := closedBooks s } := by
      refine ⟨h.pieces, h.faces, h.containers, fun k => ?_⟩
      cases k <;> simp only [closedBooks, zeroTotals, Totals.get, Config.totalMax] at hle ⊢ <;> omega
    rw [closeDay_eq]
    exact hclosed.kept ⟨rfl, rfl, rfl, rfl, rfl⟩

theorem coldStart_values (pins : Pins) (s : State) : SoundValues (coldStart pins s) := by
  refine ⟨fun d => ?_, fun d => ?_, fun c hc => ?_, fun k => ?_⟩
  · by_cases hd : d < 12 <;> simp [State.pieces, coldStart, State.cold, hd]
  · by_cases hd : d < 12 <;>
      simp [Settings.face, Settings.denom, coldStart, State.cold, defaultSettings, unusedSlot, hd]
  · simp [coldStart, State.cold, emptyCustody] at hc
  · cases k <;> simp [coldStart, State.cold, emptyCustody, zeroTotals, Totals.get, Config.totalMax]

/-! ### Every command -/

theorem BooksInv.table_room (h : BooksInv s) : s.custody.table.length ≤ Config.custodyCap :=
  (Nat.le_add_right _ _).trans h.room

theorem exec_values {c : Instr} (h : exec c s = .next t) (hd : Distinct s) (hroom : s.custody.table.length ≤ Config.custodyCap)
    (hs : SoundValues s) (he : SoundEntries s) : SoundValues t := by
  have hw := exec_within h
  have hn : SoundValues (newSelect s) := hs.kept (newSelect_kept s)
  have hen : SoundEntries (newSelect s) := he.of_inbound rfl
  have hdn : Distinct (newSelect s) := hd
  have hrefused : SoundValues (refused .badLength s) := hs.then ((within_refused _ s).mono (by simp))
  have setting {α : Type} {b : Body α} {run : α → State → State} (hr : request b s (setting run) = .next t)
      (hrun : ∀ a, ValueKept (newSelect s) (run a (newSelect s))) : SoundValues t :=
    request_keeps hr hs hrefused (fun a => setting_values hn (hn.kept (hrun a)))
  obtain ⟨hstation, hloop, htransit, hline, hthreshold, htolerance, hfloat, hfloats, hservice, hcover, hsack, hdoor⟩ :=
    settings_kept (newSelect s)
  cases c with
  | powerUp pins =>
    cases h
    unfold powerUp
    repeat' split
    exacts [hs, hs.kept (warmStart_kept pins s), coldStart_values pins s]
  | coldStart pins => cases h; split; exacts [hs, coldStart_values pins s]
  | warmStart pins => cases h; split; exacts [hs, hs.kept (warmStart_kept pins s)]
  | selectRelease pins =>
    refine event_keeps h hs ?_
    unfold selectRelease
    split
    exacts [hn, hs.kept (warmStart_kept pins s), coldStart_values pins s]
  | setStation b => exact setting h hstation
  | setDenomination b => exact request_keeps h hs hrefused (fun f => setting_values hn (writeDenomination_values hn f))
  | setLoop b => exact setting h hloop
  | setTransit b => exact setting h htransit
  | setCountLine b mid => exact setting h (hline mid)
  | setCount b => exact setting h hthreshold
  | setTolerance b => exact setting h htolerance
  | setFloat b => exact setting h hfloat
  | setFloatStation b => exact setting h hfloats
  | setService b => exact setting h hservice
  | setCover b => exact setting h hcover
  | setSack b => exact setting h hsack
  | setDoor b => exact setting h hdoor
  | stop b => exact request_keeps h hs hrefused (fun _ => hn.kept (stopRequest_kept hdn))
  | makeUp b => exact request_keeps h hs hrefused (fun f => makeUp_values hn f)
  | dismantle b => exact request_keeps h hs hrefused (fun tag => dismantle_values hn tag)
  | acceptVariance b => exact request_keeps h hs hrefused (fun tag => acceptVariance_values hn tag)
  | dayClose b => exact request_keeps h hs hrefused (fun _ => dayClose_values hn hroom)
  | offer b => exact request_keeps h hs hrefused (fun f => onLoop_values hn (hn.kept (offer_kept hdn f)))
  | takeResolve b => exact request_keeps h hs hrefused (fun tag => takeResolve_values hn hen tag)
  | countOpen b => exact request_keeps h hs hrefused (fun f => hn.kept (countOpen_kept hdn f))
  | countAbort b => exact request_keeps h hs hrefused (fun _ => countAbort_values hn hdn)
  | admitStock b => exact request_keeps h hs hrefused (fun f => admitStock_values hn f)
  | sackOpen b => exact request_keeps h hs hrefused (fun tag => sackOpen_values hn tag)
  | nest b => exact request_keeps h hs hrefused (fun f => atSafe_values hn (nest_values hn hdn f))
  | unnest b => exact request_keeps h hs hrefused (fun tag => atSafe_values hn (unnest_values hn tag))
  | sackClose b =>
    exact request_keeps h hs hrefused (fun tag => onSack_values hn tag (fun c k => hn.kept (sackClose_kept c k _)))
  | sackReopen b =>
    exact request_keeps h hs hrefused (fun tag => onSack_values hn tag (fun c k => hn.kept (sackReopen_kept c k _)))
  | sackAbandon b => exact request_keeps h hs hrefused (fun tag => onSack_values hn tag (sackAbandon_values hn))
  | dispatch b => exact request_keeps h hs hrefused (fun tag => onSack_values hn tag (dispatch_values hn))
  | frameSent ack | offerReport ack | takenReport ack | queryReport ack | claimReport ack =>
    exact event_keeps h hs (sentOf_values hs he hd _ ack)
  | announceCompleted => exact event_keeps h hs (sentOf_values hs he hd _ false)
  | announceLostSerial winner => exact event_keeps h hs (hs.kept (announceLost_kept hd winner))
  | readBackFault => exact event_keeps h hs (readBackFault_values hs he hd)
  | intactFrameHeard f => exact event_keeps h hs (receive_values hs he hd f)
  | alarmReceived _ _ _ | takenReceived _ _ _ | recallOkReceived _ _ _ | refuseReceived _ _ _ | answerReceived _ _ _
  | offerReceived _ _ _ | recallReceived _ _ _ | queryReceived _ _ _ | claimReceived _ _ _ | awardReceived _ _ _
  | needReceived _ _ _ | withdrawReceived _ _ _ | announceReceived _ _ _ | conflictReceived _ _ _ | beaconReceived _ _ _ =>
    exact event_keeps h hs (receive_values hs he hd _)
  | transitDeadline tag => exact event_keeps h hs (hs.kept (transitDeadline_kept hd tag))
  | recallTimeout tag => exact event_keeps h hs (hs.kept (recallTimeout_kept hd tag))
  | refusalWindowEnd tag => exact event_keeps h hs (hs.kept (refusalWindowEnd_kept tag s))
  | endRecord n => exact event_keeps h hs (onCountLine_values hs (endRecord_values hs hd n))
  | haltRecord => exact event_keeps h hs (onCountLine_values hs (haltRecord_values hs hd))
  | batchIdleEnd => exact event_keeps h hs (batchIdleEnd_values hs hd)
  | noRecordTimeout => exact event_keeps h hs (hs.kept (noRecords_kept hd))
  | resetPinLow _ | unknownKindRequest _ | start _ | rejoin _ | reset _ | erase _ | setAttentionMask _ | take _
  | query _ | decline _ | countClose _ | raiseNeed _ | cancelNeed _ | claimNext _ | claim _ | windowOpen _
  | windowClose _ | alarmClear _ | doorAllow _ | readAttention _ | attentionReadCleared | readStation _ | readLoop _
  | readPeers _ | readCustody _ | readContainer _ | readInbound _ | readReleases _ | readTotals _ | readDayTotals _
  | readCount _ | readPosition _ | readRequests _ | readService _ | readWindow _ | readSack _ | readDispatches _
  | frameSendStart | frameDiscarded _ | listeningPeriodEnd | announceWaitEnd | beaconTimer | autoRejoin | peerQuiet _
  | peerGone _ | inboundLapse _ | queryWaitEnd _ | countRecord _ _ _ | droppedRecord _ | recordAbandoned
  | requestExpiry _ | escalation _ | claimLapse _ | backupEligible _ _ | windowExpiry | doorOpeningEdge | doorClosing
  | doorAllowanceEnd | doorHeld | lampStep | mainSupplyLoss _ | countLineResynchronisation =>
    exact hs.then (hw.mono (by simp [touched]))
  -- RECALL, whose constructor's name is a keyword of Mathlib and cannot stand in a pattern.
  | _ b => exact request_keeps h hs hrefused (fun tag => onLoop_values hn (hn.kept (recallRequest_kept hdn tag)))

/-- Settles O60: the Inbound List takes well-formed values alone, containers come from it, from values checked or bounded, and a
total is held within its bounds. -/
theorem commandsKeepMoneyInRange : Obligations.CommandsKeepMoneyInRange := by
  intro c s t hc hb hm h
  rw [moneyInv_iff] at hm ⊢
  obtain ⟨hvalues, hentries⟩ := hm
  exact ⟨exec_values h hb.distinct hb.table_room hvalues hentries, exec_entries h hc hentries⟩

end Values

end Sys2Proof.Machine

/-! PROOFS. A step and the starts: the command at the front (O1), cold and warm start (O4, O5), supply and RESET pin (O6), starts
at select release (O7), malformed and mistimed requests (O8), and the attention record (O11). -/

namespace Sys2Proof.Machine

/-- Settles O1: the second branch of `step`. -/
theorem stepRunsFront : Obligations.StepRunsFront := by
  intro c rest s h
  simp [step, h]

/-! ### Cold and warm start -/

theorem exec_coldStart {s : State} (h : s.unit.power ≠ .off) (pins : Pins) :
    exec (.coldStart pins) s = .next (coldStart pins s) := by
  simp [exec, execColdStart, h]

theorem exec_warmStart {s : State} (h : s.unit.power ≠ .off) (pins : Pins) :
    exec (.warmStart pins) s = .next (warmStart pins s) := by
  simp [exec, execWarmStart, h]

theorem pieces_coldStart (pins : Pins) (s : State) (d : Nat) : (coldStart pins s).pieces d = 0 := pieces_reset d

/-- Settles O4: a cold start ends in `State.cold`. -/
theorem coldStartBuildsEmptyBooks : Obligations.ColdStartBuildsEmptyBooks := by
  intro pins s h
  refine ⟨coldStart pins s, exec_coldStart h pins, fun d => ⟨face_defaultSettings d, pieces_coldStart pins s d⟩, rfl, rfl,
    rfl, rfl, rfl, rfl, rfl, rfl, rfl, rfl, peer_of_unknownPeers rfl, ?_⟩
  refine ⟨rfl, rfl, rfl, rfl, rfl, rfl, rfl, rfl, ?_, rfl, rfl, rfl, rfl, rfl, rfl⟩
  rfl

theorem warmContainer_overdueAlarm (cfg : Settings) (clock : Nat) (c : Container) :
    (warmContainer cfg clock c).overdueAlarm = ((warmContainer cfg clock c).state == .overdue) := by
  cases h : c.state <;> simp [warmContainer, h]

theorem warmInbound_unresolved (cfg : Settings) (clock : Nat) (e : InboundEntry) :
    ((warmInbound cfg clock e).state == .unresolved) = (e.state == .unresolved) := by
  cases h : e.state <;> simp [warmInbound, h]

/-- A list stands in a relation with its image when every element does with its own. -/
theorem forall₂_map_right {α β : Type} {r : α → β → Prop} {f : α → β} (h : ∀ a, r a (f a)) (l : List α) :
    List.Forall₂ r l (l.map f) :=
  List.forall₂_map_right_iff.mpr (List.forall₂_same.mpr fun a _ => h a)

/-- What a warm start does to a container, state by state (R22). -/
theorem warmContainer_spec (cfg : Settings) (clock : Nat) (c : Container) :
    let d := warmContainer cfg clock c
    (d.tag = c.tag ∧ d.cls = c.cls ∧ d.origin = c.origin ∧ d.value = c.value ∧ d.disputed = c.disputed ∧
      d.handovers = c.handovers ∧ d.comp = c.comp ∧ d.counted = c.counted ∧ d.nesting = c.nesting ∧ d.sack = c.sack) ∧
    (c.state = .offering → d.state = .held ∧ d.handover = none ∧ d.lastResult = .noAnswer) ∧
    (c.state = .outbound ∨ c.state = .recalling → d.state = .outbound ∧ d.lastResult = c.lastResult ∧
      d.handover = c.handover.map (fun h => { h with deadline := clock + cfg.transitSteps c.cls })) ∧
    (c.state = .overdue → d.state = .overdue ∧ d.handover = c.handover ∧ d.lastResult = c.lastResult) ∧
    (c.state = .counting → d.state = .held ∧ d.deferred = none ∧ d.lastResult = c.lastResult) ∧
    (c.state = .held ∨ c.state = .nested → d.state = c.state ∧ d.lastResult = c.lastResult) := by
  cases h : c.state <;> simp [warmContainer, h]

/-- What a warm start does to an Own Request: its ages start afresh, its phase stays (R22). -/
theorem warmRequest_spec (clock : Nat) (q : OwnRequest) :
    let r := warmRequest clock q
    r = { q with raisedAt := clock, openAge := 0, phase := r.phase } ∧
    (q.phase = .opened → r.phase = .opened) ∧
    (∀ n a, q.phase = .claimed n a → r.phase = .claimed n 0) ∧
    (∀ n a g, q.phase = .serving n a g → r.phase = .serving n 0 g) := by
  refine ⟨rfl, ?_, ?_, ?_⟩ <;> intros <;> simp [warmRequest, freshAge, *]

/-- Settles O5: the fields of `warmStart`, and the three record-wise adjustments by their lemmas. -/
theorem warmStartKeepsAndAdjusts : Obligations.WarmStartKeepsAndAdjusts := by
  refine ⟨fun pins s h => ⟨warmStart pins s, exec_warmStart h pins, rfl, rfl, rfl, rfl, rfl, rfl, rfl, rfl, rfl, rfl, rfl,
    peer_of_unknownPeers rfl, rfl, rfl, rfl, rfl, rfl, rfl, rfl, ?alarms, ?unresolved, rfl, rfl, rfl, rfl, rfl, rfl⟩,
    fun pins s h => ⟨warmStart pins s, exec_warmStart h pins, ?table, ?inbound, ?requests⟩⟩
  case alarms =>
    intro c hc
    obtain ⟨b, -, rfl⟩ := List.mem_map.mp (hc : c ∈ s.custody.table.map (warmContainer s.cfg s.clock))
    exact warmContainer_overdueAlarm _ _ b
  case unresolved =>
    change (s.custody.inbound.map _).any _ = s.custody.inbound.any _
    rw [List.any_map]
    exact congrArg _ (funext (warmInbound_unresolved s.cfg s.clock))
  case table => exact forall₂_map_right (f := warmContainer s.cfg s.clock) (fun c => warmContainer_spec s.cfg s.clock c) _
  case inbound =>
    refine forall₂_map_right (f := warmInbound s.cfg s.clock) (fun e => ?_) _
    rfl
  case requests => exact forall₂_map_right (f := warmRequest s.clock) (fun r => warmRequest_spec s.clock r) _

/-! ### Supply and RESET pin -/

theorem attentionLine_still {s : State} (h : s.unit.power ≠ .running) : s.attentionLine = false := by
  simp [State.attentionLine, h]

theorem exec_powerUp (pins : Pins) (s : State) : exec (.powerUp pins) s = .next (powerUp pins s) := rfl

theorem powerUp_powered {s : State} (h : s.unit.power ≠ .off) (pins : Pins) : powerUp pins s = s := by
  simp [powerUp, h]

theorem powerUp_warm {s : State} (h : s.unit.power = .off) (hm : s.unit.marker = true) (pins : Pins) :
    powerUp pins s = warmStart pins s := by
  simp [powerUp, h, hm]

theorem powerUp_cold {s : State} (h : s.unit.power = .off) (hm : s.unit.marker = false) (pins : Pins) :
    powerUp pins s = coldStart pins s := by
  simp [powerUp, h, hm]

theorem warmContainer_tag_value (cfg : Settings) (clock : Nat) (c : Container) :
    ((warmContainer cfg clock c).tag, (warmContainer cfg clock c).value) = (c.tag, c.value) := by
  cases h : c.state <;> simp [warmContainer, h]

/-- A warm start keeps the tags and values of the table, and the keys of the two other collections (R21). -/
theorem warmStart_keys (pins : Pins) (s : State) :
    (warmStart pins s).custody.table.map (fun c => (c.tag, c.value)) = s.custody.table.map (fun c => (c.tag, c.value)) ∧
    (warmStart pins s).custody.inbound.map (·.tag) = s.custody.inbound.map (·.tag) ∧
    (warmStart pins s).service.requests.map (·.id) = s.service.requests.map (·.id) := by
  refine ⟨(List.map_map ..).trans ?_, List.map_map .., List.map_map ..⟩
  exact congrArg (List.map · _) (funext (warmContainer_tag_value s.cfg s.clock))

/-- Settles O6: a power-up is the start its marker asks for; loss of supply and the RESET pin by `releaseOutputs`. -/
theorem supplyAndResetPin : Obligations.SupplyAndResetPin := by
  refine ⟨fun pins s => ⟨?warm, ?cold, ?warmFields, ?coldFields, ?powered, ?loss⟩, fun us s h => ⟨?short, ?long⟩⟩
  case warm =>
    intro hp hm
    rw [exec_powerUp, powerUp_warm hp hm, exec_warmStart (by simp)]
    rfl
  case cold =>
    intro hp hm
    rw [exec_powerUp, powerUp_cold hp hm, exec_coldStart (by simp)]
    rfl
  case warmFields =>
    intro hp hm
    obtain ⟨htable, hinbound, hrequests⟩ := warmStart_keys pins s
    exact ⟨warmStart pins s, by rw [exec_powerUp, powerUp_warm hp hm], rfl, hm, rfl, rfl, rfl, rfl, rfl, rfl, rfl, htable,
      hinbound, hrequests, rfl, rfl, rfl, rfl, rfl⟩
  case coldFields =>
    intro hp hm
    exact ⟨coldStart pins s, by rw [exec_powerUp, powerUp_cold hp hm], rfl, rfl, rfl, rfl, rfl, rfl, rfl,
      pieces_coldStart pins s, rfl, rfl, rfl, rfl, rfl, rfl⟩
  case powered => exact fun hp => congrArg _ (powerUp_powered hp pins)
  case loss =>
    exact fun held => ⟨supplyLoss held s, rfl, rfl, rfl, rfl, rfl, rfl, rfl, rfl, attentionLine_still (by simp [supplyLoss,
      releaseOutputs]), rfl⟩
  case short => exact fun hus => by simp [exec, execResetPinLow, resetPinLow, hus]
  case long =>
    intro hus
    have hlow : resetPinLow us s = releaseOutputs { s with unit := { s.unit with power := .inReset } } := by
      simp [resetPinLow, h, hus]
    exact ⟨_, congrArg Host.Outcome.next hlow, rfl, attentionLine_still (by simp [releaseOutputs]), rfl⟩

/-! ### Starts at select release -/

theorem erasable_iff (s : State) : s.erasable = true ↔
    s.accountable = 0 ∧ s.custody.table = [] ∧ s.custody.inbound = [] ∧ s.service.requests = [] := by
  simp [State.erasable, and_assoc]

/-- ERASE in a new select period, by the books. -/
theorem exec_erase {s : State} (h : Ready s) : exec (.erase (.fields ())) s =
    .next (if s.erasable then answer .ok [] (oweStart .cold (newSelect s)) else refuse .badState (newSelect s)) :=
  request_fields h () (fun _ s => if s.erasable then answer .ok [] (oweStart .cold s) else refuse .badState s)

/-- Settles O7: the owed start by `selectRelease`, the requests by what they owe. -/
theorem startsWaitForSelectRelease : Obligations.StartsWaitForSelectRelease := by
  refine fun pins s => ⟨fun h => ⟨request_fields h () (fun _ s => answer .ok [] (oweStart .warm s)), fun he => ?_, fun he => ?_⟩, fun h => ⟨?_, ?_, ?_⟩⟩
  · rw [exec_erase h, if_pos ((erasable_iff s).mpr he)]
    rfl
  · rw [exec_erase h, if_neg (mt (erasable_iff s).mp he)]
    rfl
  all_goals
    intro howed
    have hon : s.unit.power ≠ .off := by simp [h]
    have hrelease : exec (.selectRelease pins) s = .next (selectRelease pins s) := event_running h _
    rw [hrelease, selectRelease, howed]
  · exact (exec_warmStart hon pins).symm
  · exact (exec_coldStart hon pins).symm
  · rfl

/-! ### Malformed and mistimed requests -/

theorem settable_eq_false {st : StationState} (h : onTheLine st = true) : settable st = false := by
  cases st <;> first | rfl | cases h

/-- A SET_ request on the line is refused with BAD_STATE (R45). -/
theorem setting_onTheLine {α : Type} {s : State} (h : Ready s) (hline : onTheLine s.member.state = true)
    (run : α → State → State) (a : α) : request (.fields a) s (setting run) = .next (refused .badState s) := by
  rw [request_fields h]
  simp [setting, settable_eq_false hline]

/-- A command that is a request of the wrong length is refused with BAD_LENGTH (R166). -/
theorem refused_of_wrongLength {c : Instr} {s : State} (h : Ready s)
    (hc : exec c s = .next (if portTakes s then refuse .badLength (newSelect s) else s)) :
    exec c s = .next (refused .badLength s) := by
  rw [hc, if_pos (portTakes_of_ready h), refuse_newSelect]

/-- Settles O8: `request` looks at the length and `setting` at the station state before any block. -/
theorem malformedAndMistimedRequestsChangeNothing : Obligations.MalformedAndMistimedRequestsChangeNothing := by
  refine ⟨fun s h => ⟨fun kind => request_fields h () (fun _ s => refuse .badKind s), ?_⟩, fun s h hline => ?_⟩
  · dsimp only
    repeat refine List.forall_mem_cons.mpr ⟨refused_of_wrongLength h rfl, ?_⟩
    exact List.forall_mem_nil _
  · exact ⟨fun _ => setting_onTheLine h hline _ _, fun _ => setting_onTheLine h hline _ _,
      fun _ => setting_onTheLine h hline _ _, fun _ => setting_onTheLine h hline _ _,
      fun _ _ => setting_onTheLine h hline _ _, fun _ => setting_onTheLine h hline _ _,
      fun _ => setting_onTheLine h hline _ _, fun _ => setting_onTheLine h hline _ _,
      fun _ => setting_onTheLine h hline _ _, fun _ => setting_onTheLine h hline _ _,
      fun _ => setting_onTheLine h hline _ _, fun _ => setting_onTheLine h hline _ _,
      fun _ => setting_onTheLine h hline _ _⟩

/-! ### The attention record -/

/-- A raised reason is set (R167). -/
theorem raised_raise (r : Reason) (s : State) : Raised r (raise r s) := by
  ext i hi
  simp only [raise, BitVec.getElem_and, BitVec.getElem_or]
  cases s.attn.reasons[i] <;> cases (reasonMask r)[i] <;> rfl

/-- What has been raised since a READ_ATTENTION outlives the clearing after its last byte (R168). -/
theorem raised_attentionCleared (r : Reason) (s : State) : Raised r (attentionCleared (raise r s)) := by
  ext i hi
  simp only [raise, attentionCleared, BitVec.getElem_and, BitVec.getElem_or, BitVec.getElem_not]
  cases s.attn.reasons[i] <;> cases s.attn.returned[i] <;> cases (reasonMask r)[i] <;> rfl

theorem mem_alarmOrder (k : AlarmKind) : k ∈ alarmOrder := by
  cases k <;> decide

theorem anyAlarm_iff (s : State) : s.anyAlarm = true ↔ ∃ k, s.alarmSet k = true := by
  simp [State.anyAlarm, mem_alarmOrder]

/-- Settles O11: `writeMask`, `readAttention` and `attentionCleared`, and the line by `anyAlarm_iff`. -/
theorem attentionMaskReadAndClear : Obligations.AttentionMaskReadAndClear := by
  refine fun s => ⟨fun h m => request_fields h m _, fun h => request_fields h () (fun _ => readAttention), fun h => event_running h _,
    fun r => ⟨raised_raise r s, raised_attentionCleared r s⟩, ?_⟩
  simp [State.attentionLine, anyAlarm_iff]

end Sys2Proof.Machine

/-! PROOFS. The timer step of an empty queue (O2): what it advances, and for each timer command when it is due. -/

namespace Sys2Proof.Machine

/-! ### What is due -/

theorem mem_due {now : Bool} {i j : Instr} : j ∈ due now i ↔ now = true ∧ j = i := by
  cases now <;> simp [due]

theorem timeUp_iff (clock : Nat) (limit : Option Nat) : timeUp clock limit = true ↔ ∃ w, limit = some w ∧ w ≤ clock := by
  cases limit <;> simp [timeUp]

theorem reached_iff (limit : Option Nat) (s : State) : reached limit s = true ↔ ∃ w, limit = some w ∧ w ≤ s.clock := by
  cases limit <;> simp [reached]

theorem deadlinePassed_iff (clock : Nat) (c : Container) :
    deadlinePassed clock c = true ↔ ∃ h, c.handover = some h ∧ h.deadline ≤ clock := by
  cases h : c.handover <;> simp [deadlinePassed, h]

theorem overdueNow_iff (clock : Nat) (c : Container) :
    overdueNow clock c = true ↔ c.state = .outbound ∧ ∃ h, c.handover = some h ∧ h.deadline ≤ clock := by
  simp [overdueNow, deadlinePassed_iff]

theorem lapsed_iff (clock : Nat) (e : InboundEntry) : lapsed clock e = true ↔ e.state = .expected ∧ e.lapse ≤ clock := by
  simp [lapsed]

theorem recallOver_iff (clock : Nat) (c : Container) :
    recallOver clock c = true ↔ c.state = .recalling ∧ ∃ w, c.recallEnds = some w ∧ w ≤ clock := by
  simp [recallOver, timeUp_iff]

theorem queryOver_iff (clock : Nat) (e : InboundEntry) :
    queryOver clock e = true ↔ e.queryPending = true ∧ ∃ w, e.queryWaitEnds = some w ∧ w ≤ clock := by
  simp [queryOver, timeUp_iff]

theorem windowUp_iff (clock : Nat) (c : Container) :
    windowUp clock c = true ↔ ∃ w, c.refusal = some w ∧ w.closes ≤ clock := by
  cases h : c.refusal <;> simp [windowUp, timeUp, h]

theorem claimOver_iff (cfg : Settings) (r : OwnRequest) :
    claimOver cfg r = true ↔ ∃ n a, r.phase = .claimed n a ∧ cfg.claimLimit * 6000 ≤ a := by
  cases h : r.phase <;> simp [claimOver, h]

theorem expired_iff (cfg : Settings) (r : OwnRequest) :
    expired cfg r = true ↔ r.phase = .opened ∧ cfg.requestLimit * 6000 ≤ r.openAge := by
  simp [expired]

theorem escalates_iff (cfg : Settings) (r : OwnRequest) : escalates cfg r = true ↔
    r.phase = .opened ∧ r.urgency = .normal ∧ cfg.escalation ≠ 0 ∧ cfg.escalation * 6000 ≤ r.openAge := by
  simp [escalates, and_assoc]

theorem quietNow_iff (e : PeerEntry) :
    quietNow e = true ↔ e.state = .live ∧ 2 * (25 * (1 + e.m.getD 3)) ≤ e.silence := by
  rw [quietNow, Bool.and_eq_true, beq_iff_eq, decide_eq_true_iff, peerPeriod, beaconPeriod]

theorem goneNow_iff (e : PeerEntry) :
    goneNow e = true ↔ (e.state = .live ∨ e.state = .quiet) ∧ 8 * (25 * (1 + e.m.getD 3)) ≤ e.silence := by
  rw [goneNow, Bool.and_eq_true, Bool.or_eq_true, beq_iff_eq, beq_iff_eq, decide_eq_true_iff, peerPeriod, beaconPeriod]

theorem inPrimary_iff (v : Cover) (n : Nat) : inPrimary v n = true ↔ v.primaryLow ≤ n ∧ n ≤ v.primaryHigh := by
  simp [inPrimary]

theorem inBackup_iff (v : Cover) (n : Nat) : inBackup v n = true ↔ v.backupLow ≤ n ∧ n ≤ v.backupHigh := by
  simp [inBackup]

/-- Eligible by the backup range: outside the primary range, with the delay passed (R143). -/
theorem backupDueNow_iff (s : State) (e : ServiceEntry) : s.backupDueNow e = true ↔
    e.state = .listed ∧ e.listedRaised = false ∧
      ¬ (s.cfg.cover.primaryLow ≤ e.requester ∧ e.requester ≤ s.cfg.cover.primaryHigh) ∧
      s.cfg.cover.backupLow ≤ e.requester ∧ e.requester ≤ s.cfg.cover.backupHigh ∧
      e.heard + s.cfg.cover.delay * 100 ≤ s.clock := by
  have hdue : backupDue s.cfg.cover e = e.heard + s.cfg.cover.delay * 100 := rfl
  rw [← inPrimary_iff, ← and_assoc (a := s.cfg.cover.backupLow ≤ _), ← inBackup_iff, ← hdue]
  cases hp : inPrimary s.cfg.cover e.requester <;>
    simp [State.backupDueNow, State.eligible, hp, and_comm, and_left_comm]

theorem heldTooLong_iff (s : State) :
    s.heldTooLong = true ↔ ∃ o, s.door.openSince = some o ∧ o + s.cfg.holdLimit * 100 ≤ s.clock := by
  cases h : s.door.openSince <;> simp [State.heldTooLong, h]

theorem windowOver_iff (s : State) : windowOver s = true ↔ ∃ w, s.safe.window = some w ∧ w.ends ≤ s.clock := by
  cases h : s.safe.window <;> simp [windowOver, reached, h]

theorem rejoinOver_iff (s : State) : s.rejoinOver = true ↔ s.member.state = .withdrawn ∧ s.cfg.autoRejoin = true ∧
    ∃ w, s.member.withdrawnAt = some w ∧ w + 500 ≤ s.clock := by
  cases h : s.member.withdrawnAt <;> simp [State.rejoinOver, timeUp, h, and_assoc]

/-- The commands that wait after a timer step, timer by timer in the order of the table. -/
theorem mem_dueEvents (s : State) (i : Instr) : i ∈ s.dueEvents ↔
    ((s.listeningOver = true ∧ i = .listeningPeriodEnd) ∨ (s.waitOver = true ∧ i = .announceWaitEnd) ∨
      (s.beaconOver = true ∧ i = .beaconTimer) ∨ (s.rejoinOver = true ∧ i = .autoRejoin) ∨
      (∃ n, (1 ≤ n ∧ n ≤ 56) ∧ (onTheLine s.member.state = true ∧ quietNow (s.peer n) = true) ∧ i = .peerQuiet n) ∨
      (∃ n, (1 ≤ n ∧ n ≤ 56) ∧ (onTheLine s.member.state = true ∧ goneNow (s.peer n) = true) ∧ i = .peerGone n)) ∨
    ((∃ c ∈ s.custody.table, overdueNow s.clock c = true ∧ i = .transitDeadline c.tag) ∨
      (∃ e ∈ s.custody.inbound, lapsed s.clock e = true ∧ i = .inboundLapse e.tag) ∨
      (∃ c ∈ s.custody.table, recallOver s.clock c = true ∧ i = .recallTimeout c.tag) ∨
      (∃ e ∈ s.custody.inbound, queryOver s.clock e = true ∧ i = .queryWaitEnd e.tag) ∨
      (∃ c ∈ s.custody.table, windowUp s.clock c = true ∧ i = .refusalWindowEnd c.tag)) ∨
    (reached s.count.noRecordEnds s = true ∧ i = .noRecordTimeout) ∨
    ((∃ r ∈ s.service.requests, expired s.cfg r = true ∧ i = .requestExpiry r.id) ∨
      (∃ r ∈ s.service.requests, escalates s.cfg r = true ∧ i = .escalation r.id) ∨
      (∃ r ∈ s.service.requests, claimOver s.cfg r = true ∧ i = .claimLapse r.id) ∨
      (∃ e ∈ s.service.list, s.backupDueNow e = true ∧ i = .backupEligible e.requester e.id)) ∨
    ((windowOver s = true ∧ i = .windowExpiry) ∨ (reached s.door.allowanceEnds s = true ∧ i = .doorAllowanceEnd) ∨
      ((s.door.isOpen = true ∧ s.door.heldRaised = false ∧ s.heldTooLong = true) ∧ i = .doorHeld) ∨
      (125 ≤ s.lamps.ms ∧ i = .lampStep)) := by
  have hnumber (n : Nat) : n ∈ List.range' 1 56 ↔ 1 ≤ n ∧ n ≤ 56 := by rw [List.mem_range'_1]; omega
  simp only [State.dueEvents, State.dueMembership, State.dueHandover, State.dueService, State.dueStation, List.mem_append,
    List.mem_flatMap, mem_due, Bool.and_eq_true, Bool.not_eq_true', decide_eq_true_eq, or_assoc, and_assoc, hnumber]

theorem timerCommand_of_mem {s : State} {i : Instr} (h : i ∈ s.dueEvents) : timerCommand i = true := by
  obtain (⟨-, rfl⟩ | ⟨-, rfl⟩ | ⟨-, rfl⟩ | ⟨-, rfl⟩ | ⟨_, -, -, rfl⟩ | ⟨_, -, -, rfl⟩) |
    (⟨_, -, -, rfl⟩ | ⟨_, -, -, rfl⟩ | ⟨_, -, -, rfl⟩ | ⟨_, -, -, rfl⟩ | ⟨_, -, -, rfl⟩) | ⟨-, rfl⟩ |
    (⟨_, -, -, rfl⟩ | ⟨_, -, -, rfl⟩ | ⟨_, -, -, rfl⟩ | ⟨_, -, -, rfl⟩) |
    (⟨-, rfl⟩ | ⟨-, rfl⟩ | ⟨-, rfl⟩ | ⟨-, rfl⟩) := (mem_dueEvents s i).mp h <;> rfl

/-! ### What a timer step advances -/

theorem advance_offLine {s : State} (h : onTheLine s.member.state = false) :
    advance s = { s with clock := s.clock + 1, lamps := { s.lamps with ms := s.lamps.ms + 10 } } := by
  simp [advance, h]

theorem advance_onLine {s : State} (h : onTheLine s.member.state = true) :
    advance s = { s with
      clock := s.clock + 1, lamps := { s.lamps with ms := s.lamps.ms + 10 },
      member := { s.member with peers := s.member.peers.map agePeer },
      service := { s.service with requests := s.service.requests.map ageRequest } } := by
  simp [advance, h]

theorem peer_advance {s : State} (h : onTheLine s.member.state = true) (n : Nat) :
    (advance s).peer n = agePeer (s.peer n) := by
  rw [advance_onLine h]
  unfold State.peer
  split
  · rfl
  · by_cases hn : n - 1 < 56 <;> simp [hn, agePeer, unknownPeer]

/-- The settings, timers and records by which a command is due, but for the ages of peers and requests. -/
structure SameTimers (s t : State) : Prop where
  state : t.member.state = s.member.state
  listening : t.member.listeningEnds = s.member.listeningEnds
  wait : t.member.announceWaitEnds = s.member.announceWaitEnds
  beacon : t.member.beaconDue = s.member.beaconDue
  withdrawn : t.member.withdrawnAt = s.member.withdrawnAt
  cfg : t.cfg = s.cfg
  custody : t.custody = s.custody
  list : t.service.list = s.service.list
  safe : t.safe = s.safe
  door : t.door = s.door
  count : t.count = s.count

/-- A timer step of a running part with nothing waiting: time advances, and what is then due waits. -/
theorem step_idle {s : State} (hq : s.pending = []) (hp : s.unit.power = .running) :
    ∃ t, step s = .next t ∧ t.pending = t.dueEvents ∧ SameTimers s t ∧
      t = { advance s with pending := t.pending } := by
  refine ⟨{ advance s with pending := (advance s).dueEvents }, ?_, rfl, ?_, rfl⟩
  · have hpending : (advance s).pending = [] := by
      unfold advance
      split <;> exact hq
    simp [step, hq, tick, hp, hpending]
  · cases h : onTheLine s.member.state
    · rw [advance_offLine h]
      constructor <;> rfl
    · rw [advance_onLine h]
      constructor <;> rfl

/-- A record with a property under a key, from either side of the key's equation. -/
theorem exists_keyed {α : Type} (l : List α) (p : α → Prop) (key : α → Nat) (n : Nat) :
    (∃ a ∈ l, p a ∧ n = key a) ↔ ∃ a ∈ l, key a = n ∧ p a :=
  exists_congr fun _ => and_congr_right fun _ => and_comm.trans (and_congr_left fun _ => eq_comm)

/-- Settles O2: `advance` moves time, and `mem_dueEvents` says which commands then wait. -/
theorem idleStepIsTimerStep : Obligations.IdleStepIsTimerStep := by
  intro s hq
  refine ⟨fun hp => by simp [step, hq, tick, hp], fun hp => ?_⟩
  obtain ⟨t, hstep, hpending, hsame, ht⟩ := step_idle hq hp
  refine ⟨t, hstep, hpending, fun h => ?off, fun h => ⟨fun n => ?peer, ?requests, ?on⟩, ?_⟩
  case off => rw [advance_offLine h] at ht; exact ht
  case peer =>
    have hpeer : t.peer n = (advance s).peer n := by rw [ht]; rfl
    rw [hpeer, peer_advance h]
    rfl
  case requests => rw [advance_onLine h] at ht; rw [ht]
  case on => rw [advance_onLine h] at ht; rw [ht]
  clear ht hstep
  rw [hpending]
  refine ⟨fun c hc => timerCommand_of_mem hc, ?_⟩
  simp only [mem_dueEvents, State.listeningOver, State.waitOver, State.beaconOver, rejoinOver_iff, timeUp_iff, reached_iff,
    overdueNow_iff, lapsed_iff, recallOver_iff, queryOver_iff, windowUp_iff, expired_iff, escalates_iff, claimOver_iff,
    backupDueNow_iff, heldTooLong_iff, windowOver_iff, quietNow_iff, goneNow_iff, Bool.and_eq_true, beq_iff_eq,
    hsame.state, hsame.listening, hsame.wait, hsame.beacon, hsame.withdrawn, hsame.cfg, hsame.custody, hsame.list,
    hsame.safe, hsame.door, hsame.count]
  refine ⟨by simp, by simp, by simp, by simp, by simp [and_assoc], by simp [and_assoc], ?_, ?_, ?_, ?_, ?_, by simp, ?_, ?_,
    ?_, fun n id => ?backup, by simp, by simp, by simp, by simp⟩
  case backup =>
    simp only [reduceCtorEq, and_false, exists_false, false_or, or_false, Instr.backupEligible.injEq]
    refine exists_congr fun e => and_congr_right fun _ => ⟨?_, ?_⟩
    · rintro ⟨h, rfl, rfl⟩
      exact ⟨rfl, rfl, h⟩
    · rintro ⟨rfl, rfl, h⟩
      exact ⟨h, rfl, rfl⟩
  all_goals
    simp only [reduceCtorEq, and_false, exists_false, false_or, or_false, Instr.transitDeadline.injEq,
      Instr.inboundLapse.injEq, Instr.recallTimeout.injEq, Instr.queryWaitEnd.injEq, Instr.refusalWindowEnd.injEq,
      Instr.requestExpiry.injEq, Instr.escalation.injEq, Instr.claimLapse.injEq]
    exact fun n => exists_keyed _ _ _ n

end Sys2Proof.Machine

/-! PROOFS. The settings: what a SET_ request stores (O9), which of them evaluate the float levels, and the Float State of a
position with the trim to the cap (O10). -/

namespace Sys2Proof.Machine

/-! ### A SET_ request that is taken -/

theorem settable_of {st : StationState} (h : st = .unconfigured ∨ st = .stopped) : settable st = true := by
  obtain rfl | rfl := h <;> rfl

/-- A SET_ request in UNCONFIGURED or STOPPED reaches its block (R45). -/
theorem setting_taken {α : Type} {s : State} (h : Ready s) (hst : s.member.state = .unconfigured ∨ s.member.state = .stopped)
    (run : α → State → State) (a : α) : request (.fields a) s (setting run) = .next (run a (newSelect s)) := by
  rw [request_fields h]
  simp [setting, settable_of hst]

/-- The state of an accepted SET_ request once its settings are stored. -/
theorem accepted_eq (s : State) : accepted s =
    { answer .ok [] s with member := { s.member with
        state := if s.member.state = .unconfigured ∧ s.cfg.complete = true then .stopped else s.member.state } } := by
  unfold accepted
  by_cases h : s.member.state = .unconfigured ∧ s.cfg.complete = true
  · simp only [h.1, h.2, beq_self_eq_true, Bool.and_self, if_true, and_self]
    rfl
  · rw [if_neg h, if_neg (by simpa using h)]
    rfl

theorem accepted_setCfg (cfg : Settings) (s : State) : accepted (setCfg cfg (newSelect s)) = configured cfg s :=
  accepted_eq _

/-- A SET_ request that only stores settings. -/
theorem setting_stores {α : Type} {s : State} (h : Ready s)
    (hst : s.member.state = .unconfigured ∨ s.member.state = .stopped) (f : α → Settings → Settings) (a : α) :
    request (.fields a) s (setting (fun a s => accepted (setCfg (f a s.cfg) s))) = .next (configured (f a s.cfg) s) := by
  rw [setting_taken h hst]
  exact congrArg _ (accepted_setCfg _ s)

theorem onOff_eq (n : Nat) : onOff n = decide (n ≠ 0) := by
  cases n <;> simp [onOff]

theorem clamp_zero (high n : Nat) : clamp 0 high n = min high n := Nat.zero_max _

theorem classOfCode_of_four_le {k : Nat} (h : 4 ≤ k) : classOfCode k = none ∨ classOfCode k = some .courierSack := by
  obtain rfl | h := h.eq_or_lt
  · exact .inr rfl
  · left
    unfold classOfCode
    rw [if_neg, if_neg, if_neg, if_neg, if_neg] <;> omega

/-- SET_TRANSIT of a class that has a limit. -/
theorem exec_setTransit {s : State} (h : Ready s) (hst : s.member.state = .unconfigured ∨ s.member.state = .stopped)
    {k : Nat} {c : ContainerClass} (hk : classOfCode k = some c) (hc : c ≠ .courierSack) (n : Nat) :
    exec (.setTransit (.fields { cls := k, minutes := n })) s =
      .next (configured { s.cfg with transit := s.cfg.transit.write c (clamp 1 240 n) } s) := by
  refine (setting_taken h hst writeTransit _).trans (congrArg _ ?_)
  unfold writeTransit
  dsimp only
  rw [hk]
  cases c with
  | courierSack => exact absurd rfl hc
  | _ => exact accepted_setCfg _ s

theorem exec_setTransit_badLength {s : State} (h : Ready s)
    (hst : s.member.state = .unconfigured ∨ s.member.state = .stopped) {k : Nat} (hk : 4 ≤ k) (n : Nat) :
    exec (.setTransit (.fields { cls := k, minutes := n })) s = .next (refused .badLength s) := by
  refine (setting_taken h hst writeTransit _).trans (congrArg _ ?_)
  unfold writeTransit
  dsimp only
  obtain hk | hk := classOfCode_of_four_le hk <;> rw [hk] <;> rfl

/-! ### SET_STATION -/

theorem peer_setPeer_self {n : Nat} (h1 : 1 ≤ n) (h2 : n ≤ 56) (e : PeerEntry) (s : State) : (setPeer n e s).peer n = e := by
  have hn : n ≠ 0 := by omega
  have hlt : n - 1 < 56 := by omega
  simp [setPeer, State.peer, hn, hlt]

theorem peer_setPeer_of_ne {n m : Nat} (h : m ≠ n) (e : PeerEntry) (s : State) : (setPeer n e s).peer m = s.peer m := by
  unfold setPeer State.peer
  by_cases hn : n = 0
  · simp [hn]
  · by_cases hm : m = 0
    · simp [hm]
    · have hne : n - 1 ≠ m - 1 := by omega
      simp only [hn, hm, if_false]
      by_cases hlt : m - 1 < 56
      · rw [Vector.getElem?_eq_getElem hlt, Vector.getElem?_eq_getElem hlt, Vector.getElem_setIfInBounds_ne hlt hne]
      · simp [hlt]

theorem peer_accepted (s : State) (n : Nat) : (accepted s).peer n = s.peer n := by
  rw [accepted_eq]
  rfl

theorem setPeer_eq {n : Nat} (h : 1 ≤ n) (e : PeerEntry) (s : State) :
    setPeer n e s = { s with member := { s.member with peers := (setPeer n e s).member.peers } } := by
  have hn : n ≠ 0 := by omega
  simp [setPeer, hn]

theorem clamp_range (n : Nat) : 1 ≤ clamp 1 56 n ∧ clamp 1 56 n ≤ 56 := by
  unfold clamp
  omega

/-- SET_STATION refused: only in STOPPED with an entry or a request (R46). -/
theorem writeStation_refused {s : State} (h : s.member.state = .stopped)
    (hwork : ¬ (s.custody.inbound = [] ∧ s.service.requests = [])) (n : Nat) : writeStation n s = refuse .badState s := by
  simp only [writeStation]
  rw [if_pos ⟨h, by simpa using hwork⟩]

theorem writeStation_accepted {s : State}
    (h : s.member.state = .stopped → s.custody.inbound = [] ∧ s.service.requests = []) (n : Nat) :
    writeStation n s =
      accepted (setPeer (clamp 1 56 n) unknownPeer (setCfg { s.cfg with number := some (clamp 1 56 n) } s)) := by
  simp only [writeStation]
  rw [if_neg]
  rintro ⟨hst, hwork⟩
  exact hwork (by simpa using h hst)

/-! ### SET_COUNT_LINE -/

theorem recordAbandoned_closed {s : State} (h : s.count.state.sessionOpen = false) :
    recordAbandoned s = strayRecord (endAssembly s) := by
  simp [recordAbandoned, recordDropped, endAssembly, setCount, h]

/-- The count engine once SET_COUNT_LINE has abandoned what was being assembled: with no session open it counts as stray
(R85). -/
def strayAssembly (m : Bool) (c : CountEngine) : CountEngine :=
  { c with
    assembled := [],
    stray := if c.assembled ≠ [] ∨ (m = true ∧ c.discarding = false) then min 65535 (c.stray + 1) else c.stray }

theorem strayAssembly_counted {m : Bool} {c : CountEngine} (h : c.assembled ≠ [] ∨ (m = true ∧ c.discarding = false)) :
    strayAssembly m c = { c with assembled := [], stray := min 65535 (c.stray + 1) } := by
  simp only [strayAssembly, if_pos h]

theorem strayAssembly_idle {m : Bool} {c : CountEngine} (h : ¬ (c.assembled ≠ [] ∨ (m = true ∧ c.discarding = false))) :
    strayAssembly m c = c := by
  have ha : c.assembled = [] := by
    by_contra ha
    exact h (.inl ha)
  rw [strayAssembly, if_neg h, ← ha]

theorem abandoned_count {s : State} (h : s.count.state.sessionOpen = false) (m : Bool) :
    (if m && !s.count.discarding then recordAbandoned s else abandonAssembly s) =
      { s with count := strayAssembly m s.count } := by
  by_cases hcount : s.count.assembled ≠ [] ∨ (m = true ∧ s.count.discarding = false)
  · have hstray : recordAbandoned s = { s with count := strayAssembly m s.count } := by
      rw [recordAbandoned_closed h, strayAssembly_counted hcount]
      rfl
    by_cases hm : m = true ∧ s.count.discarding = false
    · rw [if_pos (by simpa using hm), hstray]
    · rw [if_neg (by simpa using hm), abandonAssembly, if_neg (hcount.resolve_right hm), hstray]
  · rw [strayAssembly_idle hcount]
    obtain ⟨ha, hm⟩ := not_or.mp hcount
    rw [if_neg (by simpa using hm), abandonAssembly, if_pos (not_not.mp ha)]

/-- The settings a SET_COUNT_LINE stores (R85). -/
def countLineOf (f : CountLineFields) (cfg : Settings) : Settings :=
  { cfg with countLine := { baud := clamp 0 3 f.baud, parity := clamp 0 2 f.parity, stop := clamp 1 2 f.stop } }

theorem writeCountLine_closed {s : State} (h : s.count.state.sessionOpen = false) (f : CountLineFields) (m : Bool) :
    writeCountLine m f s = accepted { s with cfg := countLineOf f s.cfg, count := strayAssembly m s.count } := by
  unfold writeCountLine
  rw [if_neg (by simp [h])]
  exact congrArg accepted (abandoned_count (s := setCfg (countLineOf f s.cfg) s) h m)

/-- Settles O9: each SET_ request stores its clamped values by `accepted_setCfg`; SET_STATION and SET_COUNT_LINE by their two
cases. -/
theorem settingsAreClampedAndStored : Obligations.SettingsAreClampedAndStored := by
  refine ⟨fun s h hst => ⟨fun f => ?_, fun n => ?_, fun n => ?_, fun n => ?_, fun n => ?_,
    fun k n hk => exec_setTransit_badLength h hst hk n, fun n => ?_, fun f => ?_, fun f => ?_, fun f => ?_, fun n => ?_,
    fun n => ?_⟩, fun s h hst => ⟨fun n hn => ?station, fun n hst' hwork => ?stationRefused, fun f m hs => ?busy,
    fun f m hs => ?line⟩⟩
  case station =>
    have hclamp : max 1 (min 56 n) = clamp 1 56 n := rfl
    obtain ⟨h1, h2⟩ := clamp_range n
    have hrun := (setting_taken h hst writeStation n).trans
      (congrArg _ (writeStation_accepted (s := newSelect s) hn n))
    refine ⟨_, hrun, ?_⟩
    rw [hclamp]
    refine ⟨?_, ?_, ?_, ?_, fun m hm => ?_, ?_⟩
    · rw [setPeer_eq h1, accepted_eq]; rfl
    · rw [setPeer_eq h1, accepted_eq]; rfl
    · rw [setPeer_eq h1, accepted_eq]; rfl
    · rw [peer_accepted, peer_setPeer_self h1 h2]
    · rw [peer_accepted, peer_setPeer_of_ne hm]; rfl
    · rw [setPeer_eq h1, accepted_eq]; rfl
  case stationRefused =>
    exact (setting_taken h hst writeStation n).trans
      (congrArg _ (writeStation_refused (s := newSelect s) hst' hwork n))
  case busy =>
    refine (setting_taken h hst (writeCountLine m) f).trans (congrArg _ ?_)
    simp [writeCountLine, hs]
  case line =>
    refine ⟨_, (setting_taken h hst (writeCountLine m) f).trans
      (congrArg _ (writeCountLine_closed (s := newSelect s) hs f m)), ?_, ?_, ?_⟩ <;> rw [accepted_eq]
    · simp only [countLineOf, clamp_zero]
      rfl
    all_goals rfl
  · exact (setting_stores h hst (fun (f : LoopFields) cfg =>
      { cfg with autoRejoin := onOff f.autoRejoin, beaconM := clamp 0 15 f.m }) f).trans (by rw [onOff_eq, clamp_zero])
  · exact exec_setTransit h hst (c := .floatBag) rfl nofun n
  · exact exec_setTransit h hst (c := .pickupPouch) rfl nofun n
  · exact exec_setTransit h hst (c := .depositBag) rfl nofun n
  · exact exec_setTransit h hst (c := .changeStock) rfl nofun n
  · exact (setting_stores h hst (fun n cfg => { cfg with threshold := clamp 0 65535 n }) n).trans (by rw [clamp_zero])
  · exact (setting_stores h hst (fun (f : ToleranceFields) cfg =>
      { cfg with tolAbs := clamp 0 65535 f.absolute, tolRel := clamp 0 500 f.relative }) f).trans
      (by rw [clamp_zero, clamp_zero])
  · exact (setting_stores h hst (fun (f : ServiceFields) cfg =>
      { cfg with requestLimit := clamp 1 240 f.requestLimit, escalation := clamp 0 240 f.escalation,
                 claimLimit := clamp 1 120 f.claimLimit }) f).trans (by rw [clamp_zero]; rfl)
  · exact (setting_stores h hst (fun f cfg => { cfg with cover := coverOf f }) f).trans (by rw [coverOf, clamp_zero]; rfl)
  · exact (setting_stores h hst (fun n cfg => { cfg with uncounted := onOff n }) n).trans (by rw [onOff_eq])
  · exact setting_stores h hst (fun n cfg => { cfg with holdLimit := clamp 10 600 n }) n

end Sys2Proof.Machine

/-! PROOFS. The settings that evaluate the float levels, the Float State of a position, and the trim to the cap (O10). -/

namespace Sys2Proof.Machine

/-! ### An evaluation off the loop -/

theorem joiningOrJoined_settable {st : StationState} (h : st = .unconfigured ∨ st = .stopped) :
    joiningOrJoined st = false := by
  obtain rfl | rfl := h <;> rfl

/-- Off the loop an evaluation hands no raise (R129). -/
theorem evaluate_offLoop {s : State} (h : joiningOrJoined s.member.state = false) :
    evaluate s = raiseIf (cappedNews s.unit.role s.position.float (floatStateOf s.unit.role s.cfg s.pieces)) .topupCapped
      (setFloatState (floatStateOf s.unit.role s.cfg s.pieces) s) := by
  have hstate : (raiseIf (cappedNews s.unit.role s.position.float (floatStateOf s.unit.role s.cfg s.pieces)) .topupCapped
      (setFloatState (floatStateOf s.unit.role s.cfg s.pieces) s)).member.state = s.member.state := by
    unfold raiseIf
    split <;> rfl
  rw [evaluate, autoRaises, hstate, h]
  rfl

theorem cappedNews_iff (role : Option Role) (f g : FloatState) : cappedNews role f g = true ↔
    (role = some .till ∨ role = some .desk) ∧ g.capped = true ∧ f.capped = false := by
  simp [cappedNews, and_assoc]

/-- What the obligation says of a state after an evaluation off the loop: `t` has the Float State of its settings, and the
capped mark's news. -/
def EvaluatedFrom (s t : State) : Prop :=
  t.position = { s.position with float := floatStateOf s.unit.role t.cfg s.pieces } ∧
  t.attn = if (s.unit.role = some .till ∨ s.unit.role = some .desk) ∧ t.position.float.capped = true ∧
      s.position.float.capped = false
    then { s.attn.with .topupCapped with returned := 0 } else { s.attn with returned := 0 }

/-- A SET_ request that stores settings and evaluates the levels. -/
theorem accepted_evaluate {s : State} (hst : s.member.state = .unconfigured ∨ s.member.state = .stopped) (cfg : Settings) :
    let t := accepted (evaluate (setCfg cfg (newSelect s)))
    t.cfg = cfg ∧ EvaluatedFrom s t ∧ t = { configured t.cfg s with position := t.position, attn := t.attn } := by
  have hoff : joiningOrJoined (setCfg cfg (newSelect s)).member.state = false := joiningOrJoined_settable hst
  rw [evaluate_offLoop hoff, accepted_eq]
  by_cases hnews : cappedNews s.unit.role s.position.float (floatStateOf s.unit.role cfg s.pieces) = true
  · have hraise : raiseIf (cappedNews (setCfg cfg (newSelect s)).unit.role (setCfg cfg (newSelect s)).position.float
        (floatStateOf (setCfg cfg (newSelect s)).unit.role (setCfg cfg (newSelect s)).cfg (setCfg cfg (newSelect s)).pieces))
        .topupCapped = raise .topupCapped := by
      funext u
      exact if_pos hnews
    rw [hraise]
    refine ⟨rfl, ⟨rfl, ?_⟩, rfl⟩
    refine Eq.trans ?_ (if_pos ((cappedNews_iff ..).mp hnews)).symm
    exact congrArg (fun w => { s.attn.with .topupCapped with returned := w }) (BitVec.zero_and ..)
  · have hraise : raiseIf (cappedNews (setCfg cfg (newSelect s)).unit.role (setCfg cfg (newSelect s)).position.float
        (floatStateOf (setCfg cfg (newSelect s)).unit.role (setCfg cfg (newSelect s)).cfg (setCfg cfg (newSelect s)).pieces))
        .topupCapped = id := by
      funext u
      exact if_neg hnews
    rw [hraise]
    refine ⟨rfl, ⟨rfl, ?_⟩, rfl⟩
    exact (if_neg (mt (cappedNews_iff ..).mpr hnews)).symm

/-! ### SET_DENOMINATION -/

theorem slotKindOfCode_slotKindCode (k : SlotKind) : slotKindOfCode (slotKindCode k) = some k := by
  cases k <;> rfl

theorem slotKindOfCode_isSome {n : Nat} : (slotKindOfCode n).isSome = decide (n ≤ 1) := by
  unfold slotKindOfCode
  split
  · simp [*]
  · split
    · simp [*]
    · simp
      omega

theorem positionEmpty_iff (s : State) : s.positionEmpty = true ↔ ∀ d, s.pieces d = 0 := by
  simp only [State.positionEmpty, List.all_eq_true, List.mem_range, beq_iff_eq]
  refine ⟨fun h d => ?_, fun h d _ => h d⟩
  by_cases hd : d < 12
  · exact h d hd
  · simp [State.pieces, hd]

theorem onlySlot_iff (cfg : Settings) (d : Nat) : cfg.onlySlot d = true ↔ ∀ e, e < 12 → e ≠ d → cfg.inUse e = false := by
  simp only [Settings.onlySlot, List.all_eq_true, List.mem_range, Bool.or_eq_true, beq_iff_eq, Bool.not_eq_true']
  exact forall₂_congr fun e _ => or_iff_not_imp_left

theorem writeDenomination_badLength {s : State} {f : DenominationFields} (h : 12 ≤ f.slot ∨ 2 ≤ f.kind) :
    writeDenomination f s = refuse .badLength s := by
  unfold writeDenomination
  split
  · rfl
  · next hslot =>
    have hkind : slotKindOfCode f.kind = none := by
      have hle : ¬ f.kind ≤ 1 := not_le.mpr (h.resolve_left hslot)
      simpa [hle] using slotKindOfCode_isSome (n := f.kind)
    rw [hkind]

/-- SET_DENOMINATION of a good slot and kind while the position or the table is not empty (R47). -/
theorem writeDenomination_books {s : State} {f : DenominationFields} (hslot : f.slot < 12) (hk : f.kind ≤ 1)
    (hbooks : ¬ (∀ d, s.pieces d = 0) ∨ s.custody.table ≠ []) : writeDenomination f s = refuse .badState s := by
  obtain ⟨k, hk⟩ := Option.isSome_iff_exists.mp (slotKindOfCode_isSome.trans (decide_eq_true hk))
  unfold writeDenomination
  rw [if_neg (not_le.mpr hslot), hk]
  refine if_pos ?_
  rw [positionEmpty_iff, List.isEmpty_iff]
  tauto

/-- SET_DENOMINATION that would leave no slot in use (R47). -/
theorem writeDenomination_last {s : State} {f : DenominationFields} (hslot : f.slot < 12) (hk : f.kind ≤ 1)
    (hlast : s.member.state = .stopped ∧ f.face = 0 ∧ s.cfg.inUse f.slot = true ∧
      ∀ e, e < 12 → e ≠ f.slot → s.cfg.inUse e = false) : writeDenomination f s = refuse .badState s := by
  rw [← onlySlot_iff] at hlast
  obtain ⟨k, hk⟩ := Option.isSome_iff_exists.mp (slotKindOfCode_isSome.trans (decide_eq_true hk))
  unfold writeDenomination
  rw [if_neg (not_le.mpr hslot), hk]
  dsimp only
  rw [if_pos hlast, ite_self]

theorem writeDenomination_accepted {s : State} {f : DenominationFields} {k : SlotKind} (hslot : f.slot < 12)
    (hk : slotKindOfCode f.kind = some k) (hp : ∀ d, s.pieces d = 0) (ht : s.custody.table = [])
    (hlast : s.member.state = .stopped → f.face ≠ 0 ∨ s.cfg.inUse f.slot = false ∨
      ∃ e, e < 12 ∧ e ≠ f.slot ∧ s.cfg.inUse e = true) :
    writeDenomination f s = accepted (evaluate (setCfg
      { s.cfg with denoms := s.cfg.denoms.setIfInBounds f.slot (denominationOf f k) } s)) := by
  unfold writeDenomination
  rw [if_neg (not_le.mpr hslot), hk]
  dsimp only
  rw [if_neg (by rw [positionEmpty_iff, List.isEmpty_iff]; exact not_not.mpr ⟨hp, ht⟩), if_neg]
  rintro ⟨hst, hface, huse, honly⟩
  obtain h | h | ⟨e, he, hne, h⟩ := hlast hst
  · exact h hface
  · rw [h] at huse
    cases huse
  · rw [(onlySlot_iff ..).mp honly e he hne] at h
    cases h

/-! ### The Float State of a position (R123 to R127) -/

theorem valueOf_listed (cfg : Settings) (f : Nat → Nat) : cfg.valueOf (listed f) = slotValue cfg f := clampedValue_eq cfg f

theorem isNote_iff (cfg : Settings) (d : Nat) : isNote cfg d = true ↔ cfg.face d ≠ 0 ∧ (cfg.denom d).kind = .note := by
  simp [isNote, Settings.inUse]

theorem monitored_iff (cfg : Settings) (d : Nat) :
    monitored cfg d = true ↔ cfg.face d ≠ 0 ∧ (cfg.floatSlot d).change ≠ 0 := by
  simp [monitored, Settings.inUse]

theorem slots_any (p : Nat → Bool) : slots.any p = true ↔ ∃ d, d < 12 ∧ p d = true := by
  simp

/-- The Float State field by field. -/
theorem floatStateOf_spec (role : Option Role) (cfg : Settings) (p : Nat → Nat) :
    let f := floatStateOf role cfg p
    (f.urgent = true ↔ ∃ d, d < 12 ∧ (cfg.face d ≠ 0 ∧ (cfg.floatSlot d).change ≠ 0) ∧ p d = 0) ∧
    (f.pickupNeed = true ↔ role = some .till ∧ f.pickupValue ≠ 0 ∧
      ((cfg.pickupTrigger ≠ 0 ∧ cfg.pickupTrigger ≤ f.pickupValue) ∨
        ∃ d, d < 12 ∧ (cfg.face d ≠ 0 ∧ (cfg.denom d).kind = .note) ∧ (cfg.floatSlot d).pickup ≠ 0 ∧
          (cfg.floatSlot d).pickup ≤ p d)) ∧
    (f.topupNeed = true ↔ role = some .till ∧ f.low ≠ [] ∧ f.topupValue ≠ 0) ∧
    (f.changeNeed = true ↔ role = some .desk ∧ f.low ≠ [] ∧ f.topupValue ≠ 0) ∧
    (f.capped = true ↔ f.low ≠ [] ∧ f.uncappedValue ≠ 0 ∧ f.topupValue = 0) := by
  refine ⟨?_, ?_, ?_, ?_, ?_⟩
  · simp only [floatStateOf, slots_any, Bool.and_eq_true, monitored_iff, beq_iff_eq]
  · simp only [floatStateOf, Bool.and_eq_true, Bool.or_eq_true, slots_any, pickupLevelReached, isNote_iff, beq_iff_eq,
      bne_iff_ne, decide_eq_true_eq, and_assoc]
  all_goals
    simp only [floatStateOf, Bool.and_eq_true, Bool.not_eq_true', List.isEmpty_eq_false_iff, beq_iff_eq, bne_iff_ne,
      and_assoc]

/-! ### The trim to the cap (R126) -/

/-- A composition that a trim meets: no slot twice, whole units of each slot, at least one. -/
structure WholeUnits (cfg : Settings) (c : Composition) : Prop where
  nodup : (c.map Prod.fst).Nodup
  whole : ∀ x ∈ c, 1 ≤ (cfg.denom x.1).unit ∧ (cfg.denom x.1).unit ∣ x.2 ∧ 1 ≤ x.2

/-- The composition with one unit of a slot less, which leaves the list when it has no other. -/
def withoutUnit (cfg : Settings) (before : Composition) (d n : Nat) (after : Composition) : Composition :=
  before ++ (if n = (cfg.denom d).unit then [] else [(d, n - (cfg.denom d).unit)]) ++ after

theorem takeUnit_of_ne {cfg : Settings} {d : Nat} {c : Composition} (hne : ∀ x ∈ c, x.1 ≠ d) (hpos : ∀ x ∈ c, 1 ≤ x.2) :
    takeUnit cfg d c = c := by
  have hmap : c.map (fun p => if p.1 == d then (p.1, p.2 - (cfg.denom d).unit) else p) = c := by
    refine (List.map_congr_left fun x hx => ?_).trans (List.map_id' c)
    simp [hne x hx]
  unfold takeUnit
  rw [hmap, List.filter_eq_self]
  intro x hx
  have := hpos x hx
  simp
  omega

theorem takeUnit_append (cfg : Settings) (d : Nat) (b c : Composition) :
    takeUnit cfg d (b ++ c) = takeUnit cfg d b ++ takeUnit cfg d c := by
  simp [takeUnit]

theorem takeUnit_split {cfg : Settings} {before after : Composition} {d n : Nat}
    (h : WholeUnits cfg (before ++ [(d, n)] ++ after)) :
    takeUnit cfg d (before ++ [(d, n)] ++ after) = withoutUnit cfg before d n after := by
  have hnodup := h.nodup
  have hwhole := h.whole
  simp only [List.append_assoc, List.singleton_append, List.map_append, List.map_cons, List.nodup_append, List.nodup_cons,
    List.mem_map, List.mem_cons] at hnodup
  obtain ⟨-, ⟨hafter, -⟩, hbefore⟩ := hnodup
  have hn := hwhole (d, n) (by simp)
  rw [takeUnit_append, takeUnit_append, takeUnit_of_ne (c := before) (fun x hx hd => hbefore x.1 ⟨x, hx, rfl⟩ d (.inl rfl) hd)
    (fun x hx => (hwhole x (by simp [hx])).2.2), takeUnit_of_ne (c := after) (fun x hx hd => hafter ⟨x, hx, hd⟩)
    (fun x hx => (hwhole x (by simp [hx])).2.2)]
  unfold withoutUnit takeUnit
  congr 2
  obtain ⟨hunit, hdvd, hpos⟩ := hn
  have hle : (cfg.denom d).unit ≤ n := Nat.le_of_dvd hpos hdvd
  by_cases heq : n = (cfg.denom d).unit
  · simp [heq]
  · have hrest : n - (cfg.denom d).unit ≠ 0 := by omega
    simp [heq, hrest]

theorem WholeUnits.withoutUnit {cfg : Settings} {before after : Composition} {d n : Nat}
    (h : WholeUnits cfg (before ++ [(d, n)] ++ after)) : WholeUnits cfg (withoutUnit cfg before d n after) := by
  have hn := h.whole (d, n) (by simp)
  obtain ⟨hunit, hdvd, hpos⟩ := hn
  have hle : (cfg.denom d).unit ≤ n := Nat.le_of_dvd hpos hdvd
  unfold Machine.withoutUnit
  split
  · next heq =>
    refine ⟨h.nodup.sublist ?_, fun x hx => h.whole x ?_⟩
    · exact List.Sublist.map _ (List.Sublist.append (List.Sublist.append (List.Sublist.refl _) (List.nil_sublist _))
        (List.Sublist.refl _))
    · simp only [List.append_nil, List.mem_append] at hx ⊢
      tauto
  · next hne =>
    refine ⟨by simpa using h.nodup, fun x hx => ?_⟩
    simp only [List.mem_append, List.mem_singleton] at hx
    obtain (hx | rfl) | hx := hx
    · exact h.whole x (by simp [hx])
    · exact ⟨hunit, Nat.dvd_sub hdvd (Nat.dvd_refl _), by dsimp only; omega⟩
    · exact h.whole x (by simp [hx])

theorem unitCount_append (cfg : Settings) (b c : Composition) :
    unitCount cfg (b ++ c) = unitCount cfg b + unitCount cfg c := by
  simp [unitCount]

theorem unitCount_withoutUnit {cfg : Settings} {before after : Composition} {d n : Nat}
    (h : WholeUnits cfg (before ++ [(d, n)] ++ after)) :
    unitCount cfg (withoutUnit cfg before d n after) + 1 ≤ unitCount cfg (before ++ [(d, n)] ++ after) := by
  obtain ⟨hunit, hdvd, hpos⟩ := h.whole (d, n) (by simp)
  have hle : (cfg.denom d).unit ≤ n := Nat.le_of_dvd hpos hdvd
  unfold withoutUnit
  simp only [unitCount_append]
  split
  · simp [unitCount]
  · have hdiv : n / (cfg.denom d).unit = (n - (cfg.denom d).unit) / (cfg.denom d).unit + 1 :=
      Nat.div_eq_sub_div hunit hle
    simp [unitCount, hdiv]

/-- The slot that a trim takes from: in the composition, of highest face value, the lowest of that value (R126). -/
theorem dearest_spec (cfg : Settings) {c : Composition} (h : c ≠ []) :
    ∃ d, dearest cfg c = some d ∧ d ∈ c.map Prod.fst ∧
      ∀ x ∈ c, cfg.face x.1 < cfg.face d ∨ (cfg.face x.1 = cfg.face d ∧ d ≤ x.1) := by
  induction c with
  | nil => exact absurd rfl h
  | cons p c ih =>
    cases c with
    | nil => exact ⟨p.1, rfl, by simp, by simp⟩
    | cons q c =>
      obtain ⟨d, hd, hmem, hmax⟩ := ih (by simp)
      unfold dearest
      rw [hd]
      dsimp only
      split
      · next hbetter =>
        simp only [Bool.or_eq_true, Bool.and_eq_true, decide_eq_true_eq, beq_iff_eq] at hbetter
        refine ⟨p.1, rfl, by simp, fun x hx => ?_⟩
        obtain rfl | hx := List.mem_cons.mp hx
        · exact .inr ⟨rfl, le_rfl⟩
        · have := hmax x hx
          omega
      · next hworse =>
        simp only [Bool.or_eq_true, Bool.and_eq_true, decide_eq_true_eq, beq_iff_eq] at hworse
        refine ⟨d, rfl, List.mem_cons_of_mem _ hmem, fun x hx => ?_⟩
        obtain rfl | hx := List.mem_cons.mp hx
        · omega
        · exact hmax x hx

theorem dearest_eq {cfg : Settings} {c : Composition} {d : Nat} (hmem : d ∈ c.map Prod.fst)
    (hmax : ∀ x ∈ c, cfg.face x.1 < cfg.face d ∨ (cfg.face x.1 = cfg.face d ∧ d ≤ x.1)) : dearest cfg c = some d := by
  have hne : c ≠ [] := by
    rintro rfl
    cases hmem
  obtain ⟨e, he, hemem, hemax⟩ := dearest_spec cfg hne
  obtain ⟨x, hx, rfl⟩ := List.mem_map.mp hmem
  obtain ⟨y, hy, rfl⟩ := List.mem_map.mp hemem
  have h1 := hmax y hy
  have h2 := hemax x hx
  have heq : y.1 = x.1 := by omega
  rw [he, heq]

/-- Fuel beyond the units of a composition does not change its trim. -/
theorem trim_fuel (cfg : Settings) (cap : Nat) {c : Composition} (h : WholeUnits cfg c) {m k : Nat}
    (hm : unitCount cfg c ≤ m) (hk : unitCount cfg c ≤ k) : trim cfg cap m c = trim cfg cap k c := by
  induction m generalizing c k with
  | zero =>
    have hnil : c = [] := by
      cases c with
      | nil => rfl
      | cons p c => simp [unitCount] at hm
    subst hnil
    cases k <;> simp [trim, Settings.valueOf]
  | succ m ih =>
    cases k with
    | zero =>
      have hnil : c = [] := by
        cases c with
        | nil => rfl
        | cons p c => simp [unitCount] at hk
      subst hnil
      simp [trim, Settings.valueOf]
    | succ k =>
      unfold trim
      split
      · rfl
      · next hover =>
        have hne : c ≠ [] := by
          rintro rfl
          simp [Settings.valueOf] at hover
        obtain ⟨d, hd, hmem, -⟩ := dearest_spec cfg hne
        rw [hd]
        obtain ⟨⟨_, n⟩, hx, rfl⟩ := List.mem_map.mp hmem
        obtain ⟨before, after, rfl⟩ := List.append_of_mem hx
        rw [← List.singleton_append, ← List.append_assoc] at h hm hk ⊢
        have hcount := unitCount_withoutUnit h
        dsimp only
        rw [takeUnit_split h]
        exact ih h.withoutUnit (by omega) (by omega)

/-- Above the cap the trim takes one unit of the dearest slot and goes on (R126). -/
theorem capComposition_trims {cfg : Settings} {before after : Composition} {d n : Nat} (hcap : cfg.topupCap ≠ 0)
    (hover : cfg.topupCap < cfg.valueOf (before ++ [(d, n)] ++ after)) (h : WholeUnits cfg (before ++ [(d, n)] ++ after))
    (hmax : ∀ x ∈ before ++ [(d, n)] ++ after, cfg.face x.1 < cfg.face d ∨ (cfg.face x.1 = cfg.face d ∧ d ≤ x.1)) :
    capComposition cfg (before ++ [(d, n)] ++ after) = capComposition cfg (withoutUnit cfg before d n after) := by
  have hcount := unitCount_withoutUnit h
  unfold capComposition
  rw [if_neg hcap, if_neg hcap]
  obtain ⟨k, hk⟩ := Nat.exists_eq_succ_of_ne_zero (n := unitCount cfg (before ++ [(d, n)] ++ after)) (by omega)
  rw [hk, trim.eq_2, if_neg (by omega), dearest_eq (by simp) hmax]
  dsimp only
  rw [takeUnit_split h]
  refine trim_fuel cfg _ h.withoutUnit ?_ le_rfl
  omega

theorem capComposition_kept {cfg : Settings} {c : Composition} (h : cfg.topupCap = 0 ∨ cfg.valueOf c ≤ cfg.topupCap) :
    capComposition cfg c = c := by
  unfold capComposition
  split
  · rfl
  · next hcap =>
    cases unitCount cfg c with
    | zero => rfl
    | succ k => exact if_pos (h.resolve_left hcap)

/-- Settles O10: the settings by `accepted_evaluate`, the Float State by `floatStateOf_spec`, the trim by
`capComposition_trims`. -/
theorem levelSettingsEvaluate : Obligations.LevelSettingsEvaluate := by
  refine ⟨fun s h hst => ⟨fun d face unit k hd hp ht hlast => ?denom, fun f hf => ?float, fun f => ?station, fun f hf => ?slot,
    fun f hf => ?bad, fun f hslot hk hstop hface huse honly => ?last, fun f hslot hk hbooks => ?books⟩,
    fun role cfg p => ?state, fun cfg before after d n => ⟨capComposition_kept, fun hcap hover hnodup hwhole hmax =>
      capComposition_trims hcap hover ⟨hnodup, hwhole⟩ hmax⟩⟩
  case denom =>
    have hrun := setting_taken h hst writeDenomination { slot := d, face := face, kind := slotKindCode k, unit := unit }
    rw [writeDenomination_accepted (s := newSelect s)
      (f := { slot := d, face := face, kind := slotKindCode k, unit := unit }) hd (slotKindOfCode_slotKindCode k) hp ht
      hlast] at hrun
    obtain ⟨hcfg, heval, hframe⟩ := accepted_evaluate hst { s.cfg with
      denoms := s.cfg.denoms.setIfInBounds d { face := clamp 0 500000 face, kind := k, unit := clamp 1 1000 unit } }
    refine ⟨_, hrun, hcfg.trans ?_, heval, hframe⟩
    rw [clamp_zero]
    rfl
  case float =>
    have hrun := setting_taken h hst writeFloat f
    rw [writeFloat, if_neg (not_le.mpr hf)] at hrun
    obtain ⟨hcfg, heval, hframe⟩ := accepted_evaluate hst
      { s.cfg with floats := s.cfg.floats.setIfInBounds f.slot (floatSlotOf f) }
    refine ⟨_, hrun, hcfg.trans ?_, heval, hframe⟩
    rw [floatSlotOf, clamp_zero, clamp_zero, clamp_zero]
  case station =>
    obtain ⟨hcfg, heval, hframe⟩ := accepted_evaluate hst (floatStationOf f s.cfg)
    refine ⟨_, setting_taken h hst writeFloatStation f, hcfg.trans ?_, heval, hframe⟩
    have hmax : Config.valueMax = 2 ^ 40 - 1 := by norm_num
    rw [floatStationOf, clamp_zero, clamp_zero, hmax]
  case slot =>
    refine (setting_taken h hst writeFloat f).trans (congrArg _ ?_)
    exact if_pos hf
  case bad =>
    exact (setting_taken h hst writeDenomination f).trans
      (congrArg _ (writeDenomination_badLength (s := newSelect s) hf))
  case last =>
    exact (setting_taken h hst writeDenomination f).trans
      (congrArg _ (writeDenomination_last (s := newSelect s) hslot hk ⟨hstop, hface, huse, honly⟩))
  case books =>
    exact (setting_taken h hst writeDenomination f).trans
      (congrArg _ (writeDenomination_books (s := newSelect s) hslot hk hbooks))
  case state =>
    intro f unit note watched k q
    have hk : (fun d => pickupPieces cfg d (p d)) = k := by
      funext d
      simp only [k, note, pickupPieces, isNote_iff]
      rfl
    have hq : (fun d => topupPieces cfg d (p d)) = q := by
      funext d
      simp only [q, watched, topupPieces, monitored_iff]
      rfl
    have hlow : (fun d => isLow cfg d (p d)) = fun d => decide (watched d ∧ p d ≤ (cfg.floatSlot d).change) := by
      funext d
      simp only [isLow, watched, ← monitored_iff, Bool.decide_and, Bool.decide_eq_true]
    refine ⟨?_, ?_, ?_, ?_, rfl, rfl, ?_, floatStateOf_spec role cfg p⟩
    · rw [← hk]; rfl
    · rw [← hk]; exact valueOf_listed ..
    · rw [← hq]; rfl
    · rw [← hq]; exact valueOf_listed ..
    · rw [← hlow]; rfl

end Sys2Proof.Machine

/-! PROOFS. Leaving and joining the loop: STOP (O13), the timers of a join and REJOIN (O14), and what reaching ON_LOOP sends
(O15). -/

namespace Sys2Proof.Machine

/-! ### STOP (R55) -/

/-- Nothing is in flight (R55): what STOP asks for. -/
structure Idle (s : State) : Prop where
  table : ∀ c ∈ s.custody.table, inHandover c.state = false
  inbound : ∀ e ∈ s.custody.inbound, e.state ≠ .taking ∧ e.state ≠ .unsure
  requests : ∀ r ∈ s.service.requests, r.phase = .opened
  count : s.count.state.sessionOpen = false
  window : s.safe.window = none

theorem workInFlight_iff (s : State) : s.workInFlight = false ↔ Idle s := by
  simp only [State.workInFlight, Bool.or_eq_false_iff, List.any_eq_false, Option.isSome_eq_false_iff,
    Option.isNone_iff_eq_none, Bool.not_eq_true, bne_eq_false_iff_eq, beq_eq_false_iff_ne, and_assoc]
  exact ⟨fun ⟨h1, h2, h3, h4, h5⟩ => ⟨h1, h2, h3, h4, h5⟩, fun ⟨h1, h2, h3, h4, h5⟩ => ⟨h1, h2, h3, h4, h5⟩⟩

/-- An Inbound List entry but for a pending query. -/
def QueryCleared (e f : InboundEntry) : Prop := f = e ∨ f = clearQuery e

theorem QueryCleared.state {e f : InboundEntry} (h : QueryCleared e f) : f.state = e.state := by
  obtain rfl | rfl := h <;> rfl

theorem QueryCleared.clear {e f : InboundEntry} (h : QueryCleared e f) : QueryCleared e (clearQuery f) := by
  obtain rfl | rfl := h <;> exact .inr rfl

/-- Which event alarms are set. -/
def Attention.events (a : Attention) : Bool × Bool × Bool × Bool :=
  (a.duplicate, a.positionLimit, a.doorHeld, a.doorUnexpected)

/-- What the reports of an emptied queue change while nothing is in flight: pending queries, the Service List, attention
reasons (R40). -/
structure Emptied (s t : State) : Prop where
  within : Within [.inbound, .list, .attn] s t
  inbound : List.Forall₂ QueryCleared s.custody.inbound t.custody.inbound
  events : t.attn.events = s.attn.events

theorem Emptied.refl (s : State) : Emptied s s :=
  ⟨.refl _ s, List.forall₂_same.mpr fun _ _ => .inl rfl, rfl⟩

theorem Emptied.table {s t : State} (h : Emptied s t) : t.custody.table = s.custody.table := h.within .table (by simp)

/-- An entry of the emptied list has the state of an entry of the first. -/
theorem Emptied.inbound_state {s t : State} (h : Emptied s t) {e : InboundEntry} (he : e ∈ t.custody.inbound) :
    ∃ d ∈ s.custody.inbound, e.state = d.state := by
  obtain ⟨i, hi, rfl⟩ := List.mem_iff_getElem.mp he
  have hlen := h.inbound.length_eq
  exact ⟨s.custody.inbound[i]'(by omega), List.getElem_mem _, (List.Forall₂.get h.inbound (by omega) hi).state⟩

theorem Emptied.raise {s t : State} (h : Emptied s t) (r : Reason) : Emptied s (raise r t) :=
  ⟨(within_raise (by simp) r).mpr h.within, h.inbound, h.events⟩

/-- The report of a lost OFFER finds no container that is OFFERING. -/
theorem offerReported_idle {s : State} (h : ∀ c ∈ s.custody.table, inHandover c.state = false) (tag number : Nat)
    (ack : Bool) : offerReported tag number ack s = s := by
  unfold offerReported
  split
  · rfl
  · next c hc =>
    have hstate := h c (mem_of_container? hc)
    split
    · next hoffering _ => simp [hoffering, inHandover] at hstate
    · rfl

/-- The report of a lost TAKEN finds no entry that is TAKING. -/
theorem takenReported_idle {s : State} (h : ∀ e ∈ s.custody.inbound, e.state ≠ .taking) (tag : Nat) (ack : Bool) :
    takenReported tag ack s = s := by
  unfold takenReported
  split
  · rfl
  · next e he => exact if_pos (h e (List.mem_of_find?_eq_some he))

theorem Emptied.queryReported {s t : State} (h : Emptied s t) (hs : ∀ e ∈ s.custody.inbound, e.state ≠ .unsure)
    (tag number : Nat) : Emptied s (queryReported tag number false t) := by
  unfold Machine.queryReported
  split
  · exact h
  · next e he =>
    split
    · obtain ⟨d, hd, hstate⟩ := h.inbound_state (List.mem_of_find?_eq_some he)
      have hunsure : e.state ≠ .unsure := hstate ▸ hs d hd
      have hcleared : Emptied s (updateInbound e.tag clearQuery t) := by
        refine ⟨(within_setInbound (by simp) _).mpr h.within, ?_, h.events⟩
        refine List.forall₂_map_right_iff.mpr (h.inbound.imp fun a b hab => ?_)
        split
        · exact hab.clear
        · exact hab
      simp only [Bool.false_eq_true, if_false, queryUnanswered, beq_eq_false_iff_ne.mpr hunsure, Bool.false_and]
      exact hcleared.raise .queryUnanswered
    · exact h

theorem Emptied.claimReported {s t : State} (h : Emptied s t) (requester id : Nat) :
    Emptied s (claimReported requester id false t) := by
  unfold Machine.claimReported
  split
  · exact h
  · split
    · exact h
    · refine Emptied.raise ?_ .claimLost
      exact ⟨(within_setServiceList (by simp) _).mpr h.within, h.inbound, h.events⟩

theorem Emptied.report {s t : State} (h : Emptied s t) (hs : Idle s) (f : QueuedFrame) : Emptied s (report f false t) := by
  unfold Machine.report
  split
  · rw [offerReported_idle (by rw [h.table]; exact hs.table)]
    exact h
  · rw [takenReported_idle]
    · exact h
    · intro e he
      obtain ⟨d, hd, hstate⟩ := h.inbound_state he
      exact hstate ▸ (hs.inbound d hd).1
  · exact h.queryReported (fun e he => (hs.inbound e he).2) _ _
  · exact h.claimReported _ _
  all_goals exact h

/-- The queue of a station with nothing in flight, emptied with its reports. -/
theorem emptyQueue_idle {s : State} (h : Idle s) : Emptied (setQueue [] s) (emptyQueue s) := by
  have hidle : Idle (setQueue [] s) := ⟨h.table, h.inbound, h.requests, h.count, h.window⟩
  exact foldl_keeps (P := fun t => Emptied (setQueue [] s) t) (fun _ f ht => ht.report hidle f) _ (.refl _)

/-- A list of entries and its emptied one have an UNRESOLVED entry alike. -/
theorem any_unresolved {l m : List InboundEntry} (h : List.Forall₂ QueryCleared l m) :
    m.any (fun e => e.state == .unresolved) = l.any (fun e => e.state == .unresolved) := by
  induction h with
  | nil => rfl
  | cons hab _ ih => simp only [List.any_cons, hab.state, ih]

/-- The alarms that are set, from the event flags, the books and the Inbound List. -/
theorem alarmSet_congr {s t : State} (hevents : t.attn.events = s.attn.events) (htable : t.custody.table = s.custody.table)
    (hinbound : t.custody.inbound.any (fun e => e.state == .unresolved) = s.custody.inbound.any (fun e => e.state == .unresolved))
    (hsaturated : t.custody.saturated = s.custody.saturated) (k : AlarmKind) : t.alarmSet k = s.alarmSet k := by
  simp only [Attention.events, Prod.mk.injEq] at hevents
  obtain ⟨h1, h2, h3, h4⟩ := hevents
  cases k <;> simp only [State.alarmSet, h1, h2, h3, h4, htable, hinbound, hsaturated]

theorem exec_stop {s : State} (h : Ready s) (huc : s.member.state ≠ .unconfigured) (hst : s.member.state ≠ .stopped) :
    exec (.stop (.fields ())) s =
      .next (if s.workInFlight then refused .badState s else answer .ok [] (enterStopped (newSelect s))) := by
  refine (request_fields h () (fun _ => stopRequest)).trans (congrArg _ ?_)
  exact if_neg (not_or.mpr ⟨huc, hst⟩)

/-- The state in which STOP empties the queue. -/
def stopping (s : State) : State := releaseSlot (quietLoop { s with member := stationAt .stopped s.member })

/-- Settles O13: STOP empties the queue of a station with nothing in flight, by `emptyQueue_idle`. -/
theorem stopLeavesTheLoop : Obligations.StopLeavesTheLoop := by
  intro s h huc hst
  refine ⟨fun ⟨htable, hinbound, hrequests, hcount, hwindow⟩ => ?_, fun hwork => ?_⟩
  · have hidle : Idle s := ⟨htable, hinbound, hrequests, hcount, hwindow⟩
    have hstop : Idle (stopping (newSelect s)) := ⟨htable, hinbound, hrequests, hcount, hwindow⟩
    have hempty := emptyQueue_idle hstop
    have hframe := hempty.within.overlay
    have hreach : enterStopped (newSelect s) = setServiceList [] (emptyQueue (stopping (newSelect s))) := rfl
    refine ⟨answer .ok [] (enterStopped (newSelect s)), ?_, rfl, ?_, ?_, ?_, ?_, fun k => ?_, ?_⟩
    · rw [exec_stop h huc hst, (workInFlight_iff s).mpr hidle]
      rfl
    · rw [hreach, hframe]; rfl
    · rw [hreach, hframe]; rfl
    · rw [hreach, hframe]; rfl
    · exact hempty.inbound
    · exact alarmSet_congr (s := s) hempty.events hempty.table (any_unresolved hempty.inbound)
        (congrArg Prod.snd (hempty.within .totals (by simp))) k
    · rw [hreach, hframe]; rfl
  · rw [exec_stop h huc hst, if_pos]
    by_contra hflight
    obtain ⟨htable, hinbound, hrequests, hcount, hwindow⟩ := (workInFlight_iff s).mp (by simpa using hflight)
    exact hwork ⟨htable, hinbound, hrequests, hcount, hwindow⟩

end Sys2Proof.Machine

/-! PROOFS. The timers of a join, REJOIN and auto-rejoin (O14), and what a station that reaches ON_LOOP sends (O15). -/

namespace Sys2Proof.Machine

/-! ### REJOIN and the join timers -/

theorem exec_rejoin {s : State} (h : Ready s) :
    exec (.rejoin (.fields ())) s = .next (rejoinRequest (newSelect s)) :=
  request_fields h () (fun _ => rejoinRequest)

theorem exec_announceWaitEnd {s : State} (h : s.unit.power = .running) (hst : s.member.state = .announcing) {w : Nat}
    (hends : s.member.announceWaitEnds = some w) (hw : w ≤ s.clock) : exec .announceWaitEnd s = .next (enterOnLoop s) := by
  refine (event_running h _).trans (congrArg _ (if_pos ?_))
  simp [State.waitOver, hst, timeUp, hends, hw]

/-- The state from which a station that reaches ON_LOOP sends. -/
def reaching (s : State) : State :=
  let m := { stationAt .onLoop s.member with beaconDue := some (s.clock + beaconPeriod s.member.mInForce) }
  let t := quietLoop { s with member := m }
  { t with loop := { t.loop with beaconReady := true } }

theorem enterOnLoop_eq (s : State) : enterOnLoop s = resendAlarms (resendNeeds (reaching s)) := rfl

theorem within_resends (s : State) : Within [.queue, .attn] s (resendAlarms (resendNeeds s)) := by
  simp

/-- Settles O14: each timer by the branch of its command that its time selects. -/
theorem joiningTimersAndRejoin : Obligations.JoiningTimersAndRejoin := by
  refine ⟨fun s => ⟨fun h hst => ?_, fun h hst => ?_, fun hp hst hauto w hw => ⟨fun hle => ?_, fun hlt => ?_⟩,
    fun hp hst hauto => ?_⟩,
    fun s hp => ⟨fun w hst hw => ⟨fun hlt => ?_, fun hle => ?_⟩, fun w hst hw => ⟨fun hlt => ?_, fun hle => ?_⟩,
      fun w hst hw => ⟨fun hlt => ?_, fun hle => ?_⟩⟩⟩
  · exact (exec_rejoin h).trans (congrArg _ (if_pos hst))
  · exact (exec_rejoin h).trans (congrArg _ (if_neg hst))
  · exact (event_running hp _).trans (congrArg _ (if_pos ((rejoinOver_iff s).mpr ⟨hst, hauto, w, hw, hle⟩)))
  · refine (event_running hp _).trans (congrArg _ (if_neg (mt (rejoinOver_iff s).mp ?_)))
    rintro ⟨-, -, v, hv, hle⟩
    rw [hw, Option.some.injEq] at hv
    omega
  · refine (event_running hp _).trans (congrArg _ (if_neg (mt (rejoinOver_iff s).mp ?_)))
    rintro ⟨-, hon, -⟩
    simp [hauto] at hon
  · refine (event_running hp _).trans (congrArg _ (if_neg ?_))
    simpa [State.listeningOver, hw, timeUp] using fun _ => hlt
  · refine (event_running hp _).trans (congrArg _ (if_pos ?_))
    simp [State.listeningOver, hst, hw, timeUp, hle]
  · refine (event_running hp _).trans (congrArg _ (if_neg ?_))
    simpa [State.waitOver, hw, timeUp] using fun _ => hlt
  · have hframe := (within_resends (reaching s)).overlay
    rw [← enterOnLoop_eq] at hframe
    refine ⟨enterOnLoop s, exec_announceWaitEnd hp hst hw hle, ?_, ?_⟩ <;> rw [hframe] <;> rfl
  · refine (event_running hp _).trans (congrArg _ (if_neg ?_))
    simpa [State.beaconOver, hw, timeUp] using fun _ => hlt
  · refine (event_running hp _).trans (congrArg _ ((if_pos ?_).trans ?_))
    · simp [State.beaconOver, hst, hw, timeUp, hle]
    · rw [hw]; rfl

/-! ### Frames that join (R37, R38) -/

theorem mem_insertFrame {f g : QueuedFrame} {q : List QueuedFrame} : g ∈ insertFrame f q ↔ g = f ∨ g ∈ q := by
  rw [(insertFrame_perm f q).mem_iff, List.mem_cons]

theorem insertFrame_length (f : QueuedFrame) (q : List QueuedFrame) : (insertFrame f q).length = q.length + 1 :=
  (insertFrame_perm f q).length_eq

/-- A chip frame joins a queue that takes frames and has room (R38). -/
theorem chipFrame_joins {s : State} (htakes : s.queueTakes = true) (hroom : s.loop.queue.length < 12) (target : Nat)
    (p : Payload) : chipFrame target p s = enqueue false target p s := by
  simp [chipFrame, htakes, State.chipRoom, hroom]

theorem queueTakes_of_joining {s : State} (h : joiningOrJoined s.member.state = true) : s.queueTakes = true := by
  unfold State.queueTakes
  cases hst : s.member.state <;> simp_all [joiningOrJoined]

/-! ### A NEED that waits (R134) -/

theorem isWaitingNeed_iff (id : Nat) (f : QueuedFrame) :
    isWaitingNeed id f = true ↔ f.onLine = false ∧ ∃ p, f.payload = .need p ∧ p.id = id := by
  cases hp : f.payload <;> simp [isWaitingNeed, hp]

theorem refreshNeed_onLine (r : OwnRequest) (f : QueuedFrame) : (refreshNeed r f).onLine = f.onLine := by
  unfold refreshNeed
  split <;> rfl

/-- A NEED brought up to date waits for the same request. -/
theorem isWaitingNeed_refreshNeed (id : Nat) (r : OwnRequest) (f : QueuedFrame) :
    isWaitingNeed id (refreshNeed r f) = isWaitingNeed id f := by
  unfold refreshNeed
  split
  · next p hp => simp [isWaitingNeed, hp]
  · rfl

/-- The NEED of a request as it joins the queue. -/
def needFrame (r : OwnRequest) : QueuedFrame :=
  { target := needTarget r.kind, payload := needPayload r, port := false, onLine := false }

theorem isWaitingNeed_needFrame (r : OwnRequest) : isWaitingNeed r.id (needFrame r) = true := by
  simp [isWaitingNeed, needFrame, needPayload]

/-- The queue in which the waiting NEEDs of a request have its urgency and mark (R134). -/
def refreshed (r : OwnRequest) (q : List QueuedFrame) : List QueuedFrame :=
  q.map (fun f => if isWaitingNeed r.id f then refreshNeed r f else f)

/-- All that sending a NEED can do while the queue has room: the one that waits is brought up to date, or one joins. -/
theorem sendNeed_cases {s : State} (hjoin : joiningOrJoined s.member.state = true) (hroom : s.loop.queue.length < 12)
    (r : OwnRequest) :
    ((∃ f ∈ s.loop.queue, isWaitingNeed r.id f = true) ∧ sendNeed r s = setQueue (refreshed r s.loop.queue) s) ∨
    ((∀ f ∈ s.loop.queue, isWaitingNeed r.id f = false) ∧
      sendNeed r s = setQueue (insertFrame (needFrame r) s.loop.queue) s) := by
  unfold sendNeed
  rw [hjoin, chipFrame_joins (queueTakes_of_joining hjoin) hroom]
  cases hany : s.loop.queue.any (isWaitingNeed r.id)
  · exact .inr ⟨by simpa using hany, rfl⟩
  · exact .inl ⟨by simpa using hany, rfl⟩

/-! ### Frames kept while others join -/

/-- From `s` to `t` at most `n` frames have joined; no frame has been lost but for the marks of a NEED, and every other part is
as it was. -/
structure Joined (n : Nat) (s t : State) : Prop where
  within : Within [.queue] s t
  length : t.loop.queue.length ≤ s.loop.queue.length + n
  kept : ∀ f ∈ s.loop.queue, (∀ p, f.payload ≠ .need p) → f ∈ t.loop.queue
  needs : ∀ id, (∃ f ∈ s.loop.queue, isWaitingNeed id f = true) → ∃ f ∈ t.loop.queue, isWaitingNeed id f = true

theorem Joined.refl (s : State) : Joined 0 s s := ⟨.refl _ s, le_rfl, fun _ h _ => h, fun _ h => h⟩

theorem Joined.trans {m n : Nat} {s t u : State} (h : Joined m s t) (k : Joined n t u) : Joined (m + n) s u :=
  ⟨h.within.trans k.within, by have := h.length; have := k.length; omega,
    fun f hf hp => k.kept f (h.kept f hf hp) hp, fun id hid => k.needs id (h.needs id hid)⟩

theorem Joined.member {n : Nat} {s t : State} (h : Joined n s t) : t.member = s.member := h.within.member

theorem joined_insert (f : QueuedFrame) (s : State) : Joined 1 s (setQueue (insertFrame f s.loop.queue) s) := by
  refine ⟨(within_setQueue (by simp) _).mpr (.refl _ s), (insertFrame_length ..).le, fun g hg _ => ?_, fun id hid => ?_⟩
  · exact mem_insertFrame.mpr (.inr hg)
  · obtain ⟨g, hg, hw⟩ := hid
    exact ⟨g, mem_insertFrame.mpr (.inr hg), hw⟩

theorem joined_refreshed (r : OwnRequest) (s : State) : Joined 1 s (setQueue (refreshed r s.loop.queue) s) := by
  refine ⟨(within_setQueue (by simp) _).mpr (.refl _ s), ?_, fun f hf hp => ?_, fun id hid => ?_⟩
  · change (List.map _ _).length ≤ _
    rw [List.length_map]
    omega
  · refine List.mem_map.mpr ⟨f, hf, if_neg ?_⟩
    rw [isWaitingNeed_iff]
    rintro ⟨-, p, hneed, -⟩
    exact hp p hneed
  · obtain ⟨f, hf, hw⟩ := hid
    refine ⟨_, List.mem_map_of_mem hf, ?_⟩
    split
    · rw [isWaitingNeed_refreshNeed, hw]
    · exact hw

/-- A NEED that has been sent waits, and nothing that was queued is lost. -/
theorem sendNeed_joined {s : State} (hjoin : joiningOrJoined s.member.state = true) (hroom : s.loop.queue.length < 12)
    (r : OwnRequest) : Joined 1 s (sendNeed r s) ∧ ∃ f ∈ (sendNeed r s).loop.queue, isWaitingNeed r.id f = true := by
  obtain ⟨hwaits, h⟩ | ⟨-, h⟩ := sendNeed_cases hjoin hroom r <;> rw [h]
  · exact ⟨joined_refreshed r s, (joined_refreshed r s).needs r.id hwaits⟩
  · exact ⟨joined_insert _ s, needFrame r, mem_insertFrame.mpr (.inl rfl), isWaitingNeed_needFrame r⟩

/-- NEEDs sent one after another, while the queue has room for all. -/
theorem sendNeeds_joined {s : State} (hjoin : joiningOrJoined s.member.state = true) (l : List OwnRequest)
    (hroom : s.loop.queue.length + l.length ≤ 12) :
    Joined l.length s (l.foldl (fun s r => sendNeed r s) s) ∧
    ∀ r ∈ l, ∃ f ∈ (l.foldl (fun s r => sendNeed r s) s).loop.queue, isWaitingNeed r.id f = true := by
  induction l generalizing s with
  | nil => exact ⟨.refl s, by simp⟩
  | cons r l ih =>
    simp only [List.length_cons] at hroom
    obtain ⟨hfirst, hwaits⟩ := sendNeed_joined hjoin (by omega) r
    have hlength := hfirst.length
    obtain ⟨hrest, hall⟩ := ih (s := sendNeed r s) (by rw [hfirst.member]; exact hjoin) (by omega)
    refine ⟨?_, fun q hq => ?_⟩
    · rw [List.length_cons, Nat.add_comm]
      exact hfirst.trans hrest
    · obtain rfl | hq := List.mem_cons.mp hq
      · exact hrest.needs q.id hwaits
      · exact hall q hq

/-- The ALARM RAISED of a set alarm as it joins the queue. -/
def alarmRaised (s : State) (a : AlarmKind × Nat) : QueuedFrame :=
  { target := 0, payload := .alarm { kind := a.1, action := .raised, active := s.activeAlarm, tag := a.2 }, port := false,
    onLine := false }

theorem Joined.alarmSet {n : Nat} {s t : State} (h : Joined n s t) : t.alarmSet = s.alarmSet := by
  funext k
  have hc := h.within.custody
  exact alarmSet_congr (by rw [h.within .attn (by simp)]) (by rw [hc]) (by rw [hc]) (by rw [hc]) k

theorem Joined.activeAlarm {n : Nat} {s t : State} (h : Joined n s t) : t.activeAlarm = s.activeAlarm := by
  unfold State.activeAlarm
  rw [h.alarmSet]

theorem Joined.alarmInstances {n : Nat} {s t : State} (h : Joined n s t) : alarmInstances t = alarmInstances s := by
  unfold Machine.alarmInstances
  rw [h.alarmSet, h.within.custody]

theorem alarmFrame_joins {s : State} (hst : s.member.state = .onLoop) (hroom : s.loop.queue.length < 12) (a : AlarmKind × Nat) :
    alarmFrame a.1 .raised a.2 s = setQueue (insertFrame (alarmRaised s a) s.loop.queue) s := by
  have htakes : s.queueTakes = true := by simp [State.queueTakes, hst]
  rw [alarmFrame, hst, beq_self_eq_true, if_pos rfl, chipFrame_joins htakes hroom]
  rfl

/-- ALARMs sent one after another, while the queue has room for all. -/
theorem sendAlarms_joined {s : State} (hst : s.member.state = .onLoop) (l : List (AlarmKind × Nat))
    (hroom : s.loop.queue.length + l.length ≤ 12) :
    Joined l.length s (l.foldl (fun t a => alarmFrame a.1 .raised a.2 t) s) ∧
    ∀ a ∈ l, alarmRaised s a ∈ (l.foldl (fun t a => alarmFrame a.1 .raised a.2 t) s).loop.queue := by
  induction l generalizing s with
  | nil => exact ⟨.refl s, by simp⟩
  | cons a l ih =>
    simp only [List.length_cons] at hroom
    have hfirst := joined_insert (alarmRaised s a) s
    rw [← alarmFrame_joins hst (by omega) a] at hfirst
    have hlength := hfirst.length
    obtain ⟨hrest, hall⟩ := ih (s := alarmFrame a.1 .raised a.2 s) (by rw [hfirst.member]; exact hst) (by omega)
    refine ⟨?_, fun b hb => ?_⟩
    · rw [List.length_cons, Nat.add_comm]
      exact hfirst.trans hrest
    · obtain rfl | hb := List.mem_cons.mp hb
      · refine hrest.kept _ ?_ nofun
        rw [alarmFrame_joins hst (by omega) b]
        exact mem_insertFrame.mpr (.inl rfl)
      · have halarm := hall b hb
        rwa [alarmRaised, hfirst.activeAlarm] at halarm

/-- Settles O15: the NEEDs join first (`sendNeeds_joined`), then the ALARMs (`sendAlarms_joined`). -/
theorem onLoopSendsNeedsAndAlarms : Obligations.OnLoopSendsNeedsAndAlarms := by
  intro s t w hp hst hends hw hexec hroom
  rw [exec_announceWaitEnd hp hst hends hw] at hexec
  obtain rfl : enterOnLoop s = t := by injection hexec
  have hlength : (s.service.requests.filter (fun r => r.phase == .opened)).length = s.openCount := rfl
  obtain ⟨hneeds, hwaiting⟩ := sendNeeds_joined (s := reaching s) rfl
    (s.service.requests.filter (fun r => r.phase == .opened))
    (by rw [hlength]; exact (Nat.le_add_right ..).trans hroom)
  have hinstances : alarmInstances (resendNeeds (reaching s)) = alarmInstances s := hneeds.alarmInstances
  have hqueue := hneeds.length
  have hstate : (resendNeeds (reaching s)).member.state = .onLoop :=
    congrArg Membership.state (hneeds.member : (resendNeeds (reaching s)).member = (reaching s).member)
  obtain ⟨halarms, hraised⟩ := sendAlarms_joined (s := resendNeeds (reaching s)) hstate (alarmInstances s)
    (le_trans (Nat.add_le_add_right hqueue _) hroom)
  have hreach : enterOnLoop s =
      (alarmInstances s).foldl (fun t a => alarmFrame a.1 .raised a.2 t) (resendNeeds (reaching s)) := by
    rw [enterOnLoop_eq, resendAlarms, hinstances]
  rw [← hreach] at halarms hraised
  refine ⟨fun r hr hopen => ?_, fun a ha => ⟨_, hraised a ha, rfl, rfl, ?_⟩, fun f hf hneed => ?_, ?_⟩
  · exact halarms.needs r.id (hwaiting r (List.mem_filter.mpr ⟨hr, by simp [hopen]⟩))
  · have hactive : (resendNeeds (reaching s)).activeAlarm = s.activeAlarm := hneeds.activeAlarm
    rw [alarmRaised, hactive]
  · exact halarms.kept f (hneeds.kept f hf hneed) hneed
  · exact Eq.trans (halarms.within .attn (by simp)) (hneeds.within .attn (by simp))

end Sys2Proof.Machine

/-! PROOFS. Peers that grow QUIET and GONE, and the claims that lapse at a departure (O16). -/

namespace Sys2Proof.Machine

/-! ### Reasons that stay raised -/

theorem raised_iff (r : Reason) (s : State) : Raised r s ↔ s.attn.reasons &&& reasonMask r = reasonMask r := Iff.rfl

/-- A raised reason stays while others are raised. -/
theorem Raised.raise {r : Reason} {s : State} (h : Raised r s) (q : Reason) : Raised r (raise q s) := by
  rw [raised_iff] at h ⊢
  change (s.attn.reasons ||| reasonMask q) &&& reasonMask r = reasonMask r
  ext i hi
  have hbit := congrArg (fun w : FlagWord => w[i]) h
  simp only [BitVec.getElem_and, BitVec.getElem_or] at hbit ⊢
  cases h1 : s.attn.reasons[i] <;> cases h2 : (reasonMask r)[i] <;> simp_all

theorem Raised.raiseIf {r : Reason} {s : State} (h : Raised r s) (c : Bool) (q : Reason) : Raised r (raiseIf c q s) := by
  cases c
  · exact h
  · exact h.raise q

theorem Raised.chipFrame {r : Reason} {s : State} (h : Raised r s) (target : Nat) (p : Payload) :
    Raised r (chipFrame target p s) := by
  obtain ⟨-, hs⟩ | ⟨-, -, hs⟩ | ⟨-, -, hs⟩ := chipFrame_cases target p s <;> rw [hs]
  · exact h
  · exact h
  · exact h.raise _

theorem Raised.sendNeed {r : Reason} {s : State} (h : Raised r s) (q : OwnRequest) : Raised r (sendNeed q s) := by
  unfold Machine.sendNeed
  split
  · exact h
  · split
    · exact h
    · exact h.chipFrame _ _

theorem Raised.lapseRequest {r : Reason} {s : State} (h : Raised r s) (q : OwnRequest) : Raised r (lapseRequest s q) :=
  Raised.raise (Raised.sendNeed (s := updateRequest q.id reopenRequest s) h (reopenRequest q)) .claimLapsed

/-! ### Claims that lapse (R139) -/

/-- The requests of which one has lapsed, by their ids. -/
def lapsedBy (ids : List Nat) (l : List OwnRequest) : List OwnRequest :=
  l.map (fun q => if q.id ∈ ids then reopenRequest q else q)

theorem requests_lapseRequest (s : State) (r : OwnRequest) :
    (lapseRequest s r).service.requests = lapsedBy [r.id] s.service.requests := by
  have hsent : (lapseRequest s r).service.requests = (updateRequest r.id reopenRequest s).service.requests :=
    (by simp [lapseRequest] : Within [.queue, .attn] (updateRequest r.id reopenRequest s) (lapseRequest s r)).requests.1
  rw [hsent]
  exact List.map_congr_left fun q _ => by simp

/-- The requests after the claims of a list have lapsed: those with an id of the list. -/
theorem lapses_requests (l : List OwnRequest) (s : State) :
    (l.foldl lapseRequest s).service.requests = lapsedBy (l.map (·.id)) s.service.requests := by
  induction l generalizing s with
  | nil => simp [lapsedBy]
  | cons r l ih =>
    rw [List.foldl_cons, ih, requests_lapseRequest]
    refine (List.map_map ..).trans (List.map_congr_left fun q _ => ?_)
    by_cases h1 : q.id = r.id <;> by_cases h2 : r.id ∈ l.map (·.id) <;> by_cases h3 : q.id ∈ l.map (·.id) <;>
      simp_all [reopenRequest]

/-- A NEED of the request waits with the reopened mark. -/
def ReopenedNeed (id : Nat) (q : List QueuedFrame) : Prop :=
  ∃ f ∈ q, f.onLine = false ∧ ∃ p, f.payload = .need p ∧ p.id = id ∧ p.reopened = true

theorem ReopenedNeed.insert {id : Nat} {q : List QueuedFrame} (h : ReopenedNeed id q) (f : QueuedFrame) :
    ReopenedNeed id (insertFrame f q) := by
  obtain ⟨g, hg, hneed⟩ := h
  exact ⟨g, mem_insertFrame.mpr (.inr hg), hneed⟩

/-- A waiting NEED that takes the mark of a reopened request. -/
theorem reopenedNeed_of_waiting {r : OwnRequest} (hr : r.reopened = true) {q : List QueuedFrame} {f : QueuedFrame}
    (hf : f ∈ q) (hw : isWaitingNeed r.id f = true) : ReopenedNeed r.id (refreshed r q) := by
  obtain ⟨hline, p, hp, hid⟩ := (isWaitingNeed_iff r.id f).mp hw
  refine ⟨refreshNeed r f, List.mem_map.mpr ⟨f, hf, if_pos hw⟩, (refreshNeed_onLine r f).trans hline,
    { p with urgency := r.urgency, reopened := r.reopened }, ?_, hid, hr⟩
  simp [refreshNeed, hp]

theorem ReopenedNeed.refreshed {id : Nat} {q : List QueuedFrame} (h : ReopenedNeed id q) {r : OwnRequest}
    (hr : r.reopened = true) : ReopenedNeed id (refreshed r q) := by
  obtain ⟨f, hf, hline, p, hp, hid, hre⟩ := h
  by_cases hw : isWaitingNeed r.id f = true
  · obtain ⟨-, p', hp', hid'⟩ := (isWaitingNeed_iff r.id f).mp hw
    obtain rfl : p = p' := by
      rw [hp] at hp'
      injection hp'
    have heq : r.id = id := hid'.symm.trans hid
    rw [← heq]
    exact reopenedNeed_of_waiting hr hf hw
  · exact ⟨f, List.mem_map.mpr ⟨f, hf, if_neg hw⟩, hline, p, hp, hid, hre⟩

/-- A lapse while the queue has room: the request's NEED waits with its mark, at most one frame has joined, and the marks of
other NEEDs stay. -/
theorem lapseRequest_queue {s : State} (hjoin : joiningOrJoined s.member.state = true) (hroom : s.loop.queue.length < 12)
    (r : OwnRequest) :
    ReopenedNeed r.id (lapseRequest s r).loop.queue ∧ (lapseRequest s r).loop.queue.length ≤ s.loop.queue.length + 1 ∧
    ∀ id, ReopenedNeed id s.loop.queue → ReopenedNeed id (lapseRequest s r).loop.queue := by
  have hcases := sendNeed_cases (s := updateRequest r.id reopenRequest s) hjoin hroom (reopenRequest r)
  have hqueue : (lapseRequest s r).loop.queue =
      (sendNeed (reopenRequest r) (updateRequest r.id reopenRequest s)).loop.queue := rfl
  rw [hqueue]
  obtain ⟨⟨f, hf, hw⟩, h⟩ | ⟨-, h⟩ := hcases <;> rw [h]
  · refine ⟨reopenedNeed_of_waiting rfl hf hw, ?_, fun id hid => hid.refreshed rfl⟩
    exact (List.length_map ..).trans_le (Nat.le_succ _)
  · exact ⟨⟨_, mem_insertFrame.mpr (.inl rfl), rfl, _, rfl, rfl, rfl⟩, (insertFrame_length ..).le,
      fun id hid => hid.insert _⟩

theorem lapses_queue {s : State} (hjoin : joiningOrJoined s.member.state = true) (l : List OwnRequest)
    (hroom : s.loop.queue.length + l.length ≤ 12) :
    (∀ r ∈ l, ReopenedNeed r.id (l.foldl lapseRequest s).loop.queue) ∧
    ∀ id, ReopenedNeed id s.loop.queue → ReopenedNeed id (l.foldl lapseRequest s).loop.queue := by
  induction l generalizing s with
  | nil => exact ⟨by simp, fun _ h => h⟩
  | cons r l ih =>
    simp only [List.length_cons] at hroom
    obtain ⟨hneed, hlength, hkept⟩ := lapseRequest_queue hjoin (by omega) r
    have hmember : (lapseRequest s r).member = s.member :=
      (by simp [lapseRequest] : Within [.requests, .queue, .attn] s (lapseRequest s r)).member
    obtain ⟨hall, hrest⟩ := ih (s := lapseRequest s r) (by rw [hmember]; exact hjoin) (by omega)
    refine ⟨fun q hq => ?_, fun id hid => hrest id (hkept id hid)⟩
    obtain rfl | hq := List.mem_cons.mp hq
    · exact hrest q.id hneed
    · exact hall q hq

theorem lapses_raised {s : State} {l : List OwnRequest} (h : l ≠ []) : Raised .claimLapsed (l.foldl lapseRequest s) := by
  cases l with
  | nil => exact absurd rfl h
  | cons r l => exact foldl_keeps (P := Raised .claimLapsed) (fun _ q hu => hu.lapseRequest q) l (raised_raise _ _)

/-! ### The departure of a peer (R60, R139, R147) -/

/-- The state in which the claims of a departing peer lapse. -/
def departing (n : Nat) (s : State) : State :=
  raise .peerChange (setPeer n { s.peer n with state := .gone, alarm := none } s)

theorem departing_service (n : Nat) (s : State) : (departing n s).service = s.service :=
  (by simp [departing] : Within [.peers, .attn] s (departing n s)).service

theorem departing_queue (n : Nat) (s : State) : (departing n s).loop.queue = s.loop.queue :=
  (by simp [departing] : Within [.peers, .attn] s (departing n s)) .queue (by simp)

/-- The claims that lapse with the departure, as the books stand. -/
theorem lapsesOnDeparture_departing (n : Nat) (s : State) (r : OwnRequest) :
    lapsesOnDeparture n (departing n s) r = lapsesOnDeparture n s r := by
  have hcustody : (departing n s).custody = s.custody :=
    (by simp [departing] : Within [.peers, .attn] s (departing n s)).custody
  unfold lapsesOnDeparture State.container?
  rw [hcustody]

theorem lapsesOnDeparture_eq (n : Nat) (s : State) (r : OwnRequest) : lapsesOnDeparture n s r =
    match r.phase with
    | .opened => false
    | .claimed c _ => c == n
    | .serving c _ g => c == n && r.kind == .pickup && (s.container? g).any (fun k => k.state == .held) := by
  have hgives : requesterGives r.kind = (r.kind == .pickup) := by cases r.kind <;> rfl
  cases hp : r.phase with
  | opened => simp [lapsesOnDeparture, hp]
  | claimed c a => simp [lapsesOnDeparture, hp]
  | serving c a g => cases hc : s.container? g <;> simp [lapsesOnDeparture, hp, hc, hgives]

/-- The requests whose claims lapse with the departure. -/
def departed (n : Nat) (s : State) : List OwnRequest := s.service.requests.filter (lapsesOnDeparture n s)

theorem peerDeparts_eq (n : Nat) (s : State) :
    peerDeparts n s = requesterDeparts n ((departed n s).foldl lapseRequest (departing n s)) := by
  change requesterDeparts n (claimantDeparts n (departing n s)) = _
  rw [claimantDeparts, departing_service, funext (lapsesOnDeparture_departing n s)]
  rfl

theorem Raised.requesterDeparts {r : Reason} {s : State} (h : Raised r s) (n : Nat) : Raised r (requesterDeparts n s) :=
  Raised.raiseIf (s := setServiceList (s.service.list.filter (fun e => e.requester != n)) s) h _ .claimLapsed

theorem exec_peerGone {n : Nat} {s : State} (hp : s.unit.power = .running) (hline : onTheLine s.member.state = true) :
    exec (.peerGone n) s = .next (if goneNow (s.peer n) then peerDeparts n s else s) := by
  refine (event_running hp _).trans (congrArg _ ?_)
  simp [peerGone, hline]

theorem within_lapses (l : List OwnRequest) (s : State) : Within [.requests, .queue, .attn] s (l.foldl lapseRequest s) :=
  within_foldl (fun _ _ => by simp) l s

/-- The Peer Table after a departure (R60). -/
theorem peer_peerDeparts (n m : Nat) (s : State) :
    (peerDeparts n s).peer m = (setPeer n { s.peer n with state := .gone, alarm := none } s).peer m := by
  have hlapses := (within_lapses (departed n s) (departing n s)).member
  have hrequester : (peerDeparts n s).member = ((departed n s).foldl lapseRequest (departing n s)).member := by
    rw [peerDeparts_eq]
    exact (by simp : Within [.list, .attn] ((departed n s).foldl lapseRequest (departing n s)) _).member
  unfold State.peer
  rw [hrequester, hlapses]
  rfl

/-- The Own Requests after a departure (R139). -/
theorem requests_peerDeparts (n : Nat) (s : State) :
    (peerDeparts n s).service.requests = lapsedBy ((departed n s).map (·.id)) s.service.requests := by
  have hrequester : (peerDeparts n s).service.requests =
      ((departed n s).foldl lapseRequest (departing n s)).service.requests := by
    rw [peerDeparts_eq]
    exact (by simp : Within [.list, .attn] ((departed n s).foldl lapseRequest (departing n s)) _).requests.1
  rw [hrequester, lapses_requests, departing_service]

/-- The Service List after a departure (R147). -/
theorem list_peerDeparts (n : Nat) (s : State) :
    (peerDeparts n s).service.list = s.service.list.filter (fun e => e.requester != n) := by
  have hlapses := (within_lapses (departed n s) (departing n s)).list
  rw [departing_service] at hlapses
  rw [peerDeparts_eq, ← hlapses]
  unfold requesterDeparts raiseIf
  split <;> rfl

theorem raised_peerDeparts_peerChange (n : Nat) (s : State) : Raised .peerChange (peerDeparts n s) := by
  rw [peerDeparts_eq]
  exact (foldl_keeps (P := Raised .peerChange) (fun _ q hu => hu.lapseRequest q) _ (raised_raise _ _)).requesterDeparts n

theorem raised_peerDeparts_lapsed {n : Nat} {s : State} {r : OwnRequest} (hr : r ∈ departed n s) :
    Raised .claimLapsed (peerDeparts n s) := by
  rw [peerDeparts_eq]
  exact (lapses_raised (List.ne_nil_of_mem hr)).requesterDeparts n

/-- The departure of a requester with a WON entry raises CLAIM_LAPSED (R147). -/
theorem raised_peerDeparts_won {n : Nat} {s : State} {e : ServiceEntry} (he : e ∈ s.service.list)
    (hn : e.requester = n) (hw : e.state = .won) : Raised .claimLapsed (peerDeparts n s) := by
  have hlapses := (within_lapses (departed n s) (departing n s)).list
  rw [departing_service] at hlapses
  rw [peerDeparts_eq]
  unfold requesterDeparts
  rw [hlapses, List.any_eq_true.mpr ⟨e, he, by simp [hn, hw]⟩]
  exact raised_raise _ _

/-- The NEED of a request whose claim has lapsed waits, while the queue has room for all. -/
theorem reopenedNeed_peerDeparts {n : Nat} {s : State} (hjoin : joiningOrJoined s.member.state = true)
    (hroom : s.loop.queue.length + (departed n s).length ≤ 12) {r : OwnRequest} (hr : r ∈ departed n s) :
    ReopenedNeed r.id (peerDeparts n s).loop.queue := by
  have hstate : (departing n s).member.state = s.member.state := by
    unfold departing setPeer
    split <;> rfl
  have hqueue : (peerDeparts n s).loop.queue = ((departed n s).foldl lapseRequest (departing n s)).loop.queue := by
    rw [peerDeparts_eq]
    exact (by simp : Within [.list, .attn] ((departed n s).foldl lapseRequest (departing n s)) _) .queue (by simp)
  rw [hqueue]
  exact (lapses_queue (s := departing n s) (by rw [hstate]; exact hjoin) (departed n s)
    (by rw [departing_queue]; exact hroom)).1 r hr

/-- A request is among those whose ids are listed exactly when it lapses, where no id is twice. -/
theorem mem_departed_ids {n : Nat} {s : State} (h : (s.service.requests.map (·.id)).Nodup) {r : OwnRequest}
    (hr : r ∈ s.service.requests) : r.id ∈ (departed n s).map (·.id) ↔ lapsesOnDeparture n s r = true := by
  constructor
  · intro hid
    obtain ⟨q, hq, heq⟩ := List.mem_map.mp hid
    obtain ⟨hq, hlapses⟩ := List.mem_filter.mp hq
    obtain rfl : q = r := List.inj_on_of_nodup_map h hq hr heq
    exact hlapses
  · exact fun hlapses => List.mem_map_of_mem (List.mem_filter.mpr ⟨hr, hlapses⟩)

theorem setPeer_eq_setIfInBounds {n : Nat} (h : 1 ≤ n) (e : PeerEntry) (s : State) : setPeer n e s =
    { s with member := { s.member with peers := s.member.peers.setIfInBounds (n - 1) e } } :=
  if_neg (by omega)

/-- Settles O16: QUIET is a plain update of the Peer Table; the departure by the lemmas about `peerDeparts`. -/
theorem peersGrowQuietAndGo : Obligations.PeersGrowQuietAndGo := by
  intro n s h1 h56 hp hline period lapses
  have hlapses (r : OwnRequest) : lapses r = lapsesOnDeparture n s r := (lapsesOnDeparture_eq n s r).symm
  have hdeparted : s.service.requests.filter lapses = departed n s := by
    rw [funext hlapses]
    rfl
  have hquiet : quietNow (s.peer n) = true ↔ (s.peer n).state = .live ∧ 2 * period ≤ (s.peer n).silence := quietNow_iff _
  have hgone : goneNow (s.peer n) = true ↔
      ((s.peer n).state = .live ∨ (s.peer n).state = .quiet) ∧ 8 * period ≤ (s.peer n).silence := goneNow_iff _
  refine ⟨fun hst hle => ?_, fun hnot => ?_, fun hst hle => ?_, fun hnot => ?_⟩
  · refine (event_running hp _).trans (congrArg _ ?_)
    rw [peerQuiet, hline, hquiet.mpr ⟨hst, hle⟩]
    exact setPeer_eq_setIfInBounds h1 _ s
  · refine (event_running hp _).trans (congrArg _ (if_neg ?_))
    rw [hline, Bool.true_and, hquiet]
    rintro ⟨hst, hle⟩
    exact hnot.elim (absurd hst) (not_lt.mpr hle)
  · refine ⟨peerDeparts n s, by rw [exec_peerGone hp hline, if_pos (hgone.mpr ⟨hst, hle⟩)], ?_, fun m hm => ?_,
      raised_peerDeparts_peerChange n s, list_peerDeparts n s, ?_, fun r hr a hclaimed => ?_, fun hnodup => ?_,
      fun r hr hl => ?_, ((within_peerDeparts (List.Subset.refl _) n).mpr (.refl _ s)).overlay⟩
    · rw [peer_peerDeparts, peer_setPeer_self h1 h56]
    · rw [peer_peerDeparts, peer_setPeer_of_ne hm]
    · rintro ⟨e, he, hn, hw⟩
      exact raised_peerDeparts_won he hn hw
    · rw [requests_peerDeparts] at hr
      obtain ⟨q, hq, rfl⟩ := List.mem_map.mp hr
      by_cases hid : q.id ∈ (departed n s).map (·.id)
      · rw [if_pos hid] at hclaimed
        cases hclaimed
      · rw [if_neg hid] at hclaimed
        refine hid (List.mem_map_of_mem (List.mem_filter.mpr ⟨hq, ?_⟩))
        simp [lapsesOnDeparture, hclaimed]
    · rw [requests_peerDeparts]
      refine List.map_congr_left fun q hq => ?_
      simp only [mem_departed_ids hnodup hq, ← hlapses]
      rfl
    · have hmem : r ∈ departed n s := List.mem_filter.mpr ⟨hr, (hlapses r).symm.trans hl⟩
      exact ⟨raised_peerDeparts_lapsed hmem, fun hjoin hroom =>
        reopenedNeed_peerDeparts hjoin (by rwa [← hdeparted]) hmem⟩
  · rw [exec_peerGone hp hline, if_neg]
    rw [hgone]
    rintro ⟨hst, hle⟩
    obtain h | h | h := hnot
    · simp [h] at hst
    · simp [h] at hst
    · exact absurd hle (not_le.mpr h)

end Sys2Proof.Machine

/-! PROOFS. A frame of a known peer that a station ON_LOOP delivers, and the answer to a QUERY (O29). -/

namespace Sys2Proof.Machine

/-! ### A delivered frame -/

/-- A frame whose kind says nothing of its sender's table entry beyond that it is there (R59). -/
def plain : Payload → Bool
  | .beacon _ => false
  | .announce _ => false
  | _ => true

theorem heardEntry_plain {p : Payload} (h : plain p = true) (e : PeerEntry) :
    heardEntry p e = { e with state := .live, silence := 0 } := by
  cases p <;> first | rfl | cases h

theorem isAnnounce_plain {p : Payload} (h : plain p = true) : isAnnounce p = false := by
  cases p <;> first | rfl | cases h

theorem Hears.sender_pos {s : State} {sender target : Nat} {p : Payload} (h : Hears s sender target p) : 1 ≤ sender := by
  have hform := h.form
  simp only [Frame.wellFormed, Bool.and_eq_true, decide_eq_true_eq] at hform
  exact hform.1.1.1

/-- The sender of a delivered frame is LIVE with silence 0 (R59). -/
theorem trackPeer_heard {s : State} {sender target : Nat} {p : Payload} (h : Hears s sender target p)
    (hp : plain p = true) :
    trackPeer { sender := sender, target := target, payload := p } (lineTaken s) = s.heard sender false := by
  have harrives : arrives p ((lineTaken s).peer sender) = false := by
    have hknown : ((lineTaken s).peer sender).state = .live ∨ ((lineTaken s).peer sender).state = .quiet := h.known
    obtain hk | hk := hknown <;> simp [arrives, hk, isAnnounce_plain hp]
  simp only [trackPeer, harrives, heardEntry_plain hp]
  exact setPeer_eq_setIfInBounds h.sender_pos _ _

/-- A delivered frame reaches the block that owns its kind, and the slot is driven when the block has acted (R34). -/
theorem receive_heard {s : State} {sender target : Nat} {p : Payload} (h : Hears s sender target p) (hp : plain p = true) :
    receive { sender := sender, target := target, payload := p } s =
      if (handle { sender := sender, target := target, payload := p } (s.heard sender false)).2 = true then
        driveSlot (handle { sender := sender, target := target, payload := p } (s.heard sender false)).1
      else (handle { sender := sender, target := target, payload := p } (s.heard sender false)).1 := by
  have hstate : (s.heard sender false).member.state = .onLoop := h.onLoop
  have htargeted : (s.heard sender false).targeted target = true := h.targeted
  rw [receive, if_neg (by rw [h.onLoop]; decide), if_neg (by rw [h.form]; decide), if_neg h.foreign, hearPeer,
    trackPeer_heard h hp, deliverTargeted]
  simp only [htargeted, hstate, deliveredIn, Bool.and_self, if_true, deliver, acknowledgedIn, Bool.and_true]

theorem driveSlot_heard (s : State) (sender : Nat) : driveSlot (s.heard sender false) = s.heard sender true := rfl

/-- The commands X_RECEIVED are the frame heard of kind X. -/
theorem event_heard {s : State} {sender target : Nat} {p : Payload} (h : Hears s sender target p) (hp : plain p = true)
    {r : Handled} (hr : handle { sender := sender, target := target, payload := p } (s.heard sender false) = r) :
    event s (receive { sender := sender, target := target, payload := p }) =
      .next (if r.2 = true then driveSlot r.1 else r.1) := by
  rw [event_running h.running, receive_heard h hp, hr]

/-! ### The answer to a QUERY (R74) -/

theorem heldAnswer_some {s : State} {asker : Nat} {p : TagNumber} {c : Container} {h : HandoverFields}
    (hc : s.container? p.tag = some c) (hh : c.handover = some h) (ht : inTransit c.state = true) (hpeer : h.peer = asker) :
    s.heldAnswer asker p = some { tag := p.tag, answer := .heldForYou, number := h.number,
                                  remaining := remainingMinutes s c h, value := 0 } := by
  simp [State.heldAnswer, hc, hh, ht, hpeer]

theorem heldAnswer_none {s : State} {asker : Nat} {p : TagNumber}
    (h : ∀ c h, s.container? p.tag = some c → c.handover = some h → inTransit c.state = false ∨ h.peer ≠ asker) :
    s.heldAnswer asker p = none := by
  unfold State.heldAnswer
  split
  · rfl
  · next c hc =>
    split
    · rfl
    · next k hk =>
      refine if_neg ?_
      obtain ht | hp := h c k hc hk
      · simp [ht]
      · simp [hp]

/-- The newest release that matches answers (R74). -/
theorem releaseFor_some {s : State} {asker : Nat} {p : TagNumber} {older newer : List ReleaseEntry} {r : ReleaseEntry}
    (hsplit : s.custody.releases = older ++ [r] ++ newer) (htag : r.tag = p.tag) (hreceiver : r.receiver = asker)
    (hnumber : p.number = 0 ∨ r.number = p.number)
    (hnewer : ∀ q ∈ newer, q.tag = p.tag → q.receiver = asker → p.number ≠ 0 ∧ q.number ≠ p.number) :
    s.releaseFor asker p = some r := by
  unfold State.releaseFor
  rw [hsplit, List.reverse_append, List.find?_append, List.find?_eq_none.mpr, List.reverse_append]
  · simpa [htag, hreceiver] using Or.inl hnumber
  · intro q hq
    have hne := hnewer q (List.mem_reverse.mp hq)
    simp only [Bool.and_eq_true, beq_iff_eq, Bool.or_eq_true, not_and, not_or]
    rintro ⟨h1, h2⟩
    exact hne h1 h2

theorem releaseFor_none {s : State} {asker : Nat} {p : TagNumber}
    (h : ∀ r ∈ s.custody.releases, r.tag = p.tag → r.receiver = asker → p.number ≠ 0 ∧ r.number ≠ p.number) :
    s.releaseFor asker p = none := by
  refine List.find?_eq_none.mpr fun q hq => ?_
  simp only [Bool.and_eq_true, beq_iff_eq, Bool.or_eq_true, not_and, not_or]
  rintro ⟨h1, h2⟩
  exact h q (List.mem_reverse.mp hq) h1 h2

theorem answerTo_held {s : State} {asker : Nat} {p : TagNumber} {a : AnswerPayload} (h : s.heldAnswer asker p = some a) :
    s.answerTo asker p = a := by
  simp [State.answerTo, h]

theorem answerTo_released {s : State} {asker : Nat} {p : TagNumber} {r : ReleaseEntry}
    (h : s.heldAnswer asker p = none) (hr : s.releaseFor asker p = some r) :
    s.answerTo asker p = { tag := p.tag, answer := .releasedToYou, number := r.number, remaining := 0, value := r.value } := by
  simp [State.answerTo, h, hr]

theorem answerTo_unknown {s : State} {asker : Nat} {p : TagNumber} (h : s.heldAnswer asker p = none)
    (hr : s.releaseFor asker p = none) :
    s.answerTo asker p = { tag := p.tag, answer := .notKnown, number := p.number, remaining := 0, value := 0 } := by
  simp [State.answerTo, h, hr]

theorem answerTo_tag (s : State) (asker : Nat) (p : TagNumber) : (s.answerTo asker p).tag = p.tag := by
  cases hh : s.heldAnswer asker p with
  | some a =>
    rw [answerTo_held hh]
    unfold State.heldAnswer at hh
    split at hh
    · cases hh
    · split at hh
      · cases hh
      · split at hh
        · injection hh with hh
          rw [← hh]
        · cases hh
  | none =>
    cases hr : s.releaseFor asker p with
    | some r => rw [answerTo_released hh hr]
    | none => rw [answerTo_unknown hh hr]

theorem yielded_length (s : State) : s.loop.yielded.queue.length = s.loop.queue.length := List.length_map ..

/-- Settles O29: the ANSWER is `answerTo`, row by row of R74, and joins the queue or is dropped from a full one. -/
theorem queryIsAnswered : Obligations.QueryIsAnswered := by
  intro sender target p s h
  have hstate : (s.heard sender false).member.state = .onLoop := h.onLoop
  have htakes : (s.heard sender false).queueTakes = true := by simp [State.queueTakes, hstate]
  have hexec := event_heard h rfl (r := hearQuery sender p (s.heard sender false)) rfl
  have hlength : (s.heard sender false).loop.queue.length = s.loop.queue.length := yielded_length s
  refine ⟨s.answerTo sender p, answerTo_tag s sender p, fun hroom => ?_, fun hfull => ?_,
    fun c k hc hk ht hpeer => ?_, fun hnot => ⟨fun older r newer hsplit htag hrec hnum hnew => ?_, fun hnone => ?_⟩⟩
  · have hchip : (s.heard sender false).chipRoom = true := by
      rw [State.chipRoom, hlength]
      simpa using hroom
    refine hexec.trans ?_
    rw [hearQuery, chipFrame_joins htakes (by rw [hlength]; exact hroom), State.chipJoins, htakes, hchip]
    rfl
  · have hchip : (s.heard sender false).chipRoom = false := by
      rw [State.chipRoom, hlength, hfull]
      rfl
    refine hexec.trans ?_
    simp only [hearQuery, chipFrame, State.chipJoins, htakes, hchip, Bool.and_false]
    rfl
  · exact answerTo_held (heldAnswer_some hc hk ht hpeer)
  · exact answerTo_released (heldAnswer_none hnot) (releaseFor_some hsplit htag hrec hnum hnew)
  · exact answerTo_unknown (heldAnswer_none hnot) (releaseFor_none hnone)

end Sys2Proof.Machine

/-! PROOFS. Sacks and their chains: NEST and UNNEST on the tags of a chain (O48), and how a sack is closed and leaves (O49). -/

namespace Sys2Proof.Machine

/-! ### Looking up in a changed table -/

/-- A change of the records that keeps the tags changes what a tag finds. -/
theorem container?_map {F : Container → Container} (hF : ∀ c, (F c).tag = c.tag) (s : State) (g : Nat) :
    (setTable (s.custody.table.map F) s).container? g = (s.container? g).map F := by
  have htag : (fun c : Container => c.tag == g) ∘ F = fun c => c.tag == g := by
    funext c
    simp [hF]
  change (s.custody.table.map F).find? _ = _
  rw [List.find?_map, htag]
  rfl

theorem container?_updateContainer {f : Container → Container} (hf : ∀ c, (f c).tag = c.tag) (tag : Nat) (s : State)
    (g : Nat) : (updateContainer tag f s).container? g = if g = tag then (s.container? g).map f else s.container? g := by
  have hkeeps (c : Container) : (if c.tag == tag then f c else c).tag = c.tag := by
    split
    · exact hf c
    · rfl
  refine (container?_map hkeeps s g).trans ?_
  cases hc : s.container? g with
  | none => simp
  | some c =>
    have hg := tag_of_container? hc
    by_cases h : g = tag <;> simp [hg, h]

/-- In a table without a tag twice a tag finds its container. -/
theorem Distinct.container? {s : State} (h : Distinct s) {c : Container} (hc : c ∈ s.custody.table) :
    s.container? c.tag = some c := by
  have hsome : (s.container? c.tag).isSome = true := List.find?_isSome.mpr ⟨c, hc, beq_self_eq_true _⟩
  obtain ⟨d, hd⟩ := Option.isSome_iff_exists.mp hsome
  rw [hd, h.eq_of_tag (mem_of_container? hd) hc (tag_of_container? hd)]

theorem table_tags_updateContainer {f : Container → Container} (hf : ∀ c, (f c).tag = c.tag) (tag : Nat) (s : State) :
    (updateContainer tag f s).custody.table.map (·.tag) = s.custody.table.map (·.tag) := by
  rw [updateContainer_table, List.map_map]
  refine List.map_congr_left fun c _ => ?_
  by_cases h : c.tag = tag <;> simp [h, hf]

/-! ### The tags of a chain -/

/-- The tag that the container of a tag names as its next member. -/
def State.nextOf (s : State) (g : Nat) : Option Nat := (s.container? g).bind Container.nextMember

/-- The tags lead from a first pointer through the table to an end pointer (R153). -/
def State.path (s : State) : List Nat → Option Nat → Option Nat → Prop
  | [], first, last => first = last
  | g :: l, first, last => first = some g ∧ (s.container? g).isSome = true ∧ s.path l (s.nextOf g) last

theorem path_append {s : State} {l m : List Nat} {first last : Option Nat} :
    s.path (l ++ m) first last ↔ ∃ mid, s.path l first mid ∧ s.path m mid last := by
  induction l generalizing first with
  | nil => simp [State.path]
  | cons g l ih =>
    simp only [List.cons_append, State.path, ih]
    constructor
    · rintro ⟨h1, h2, mid, h3, h4⟩
      exact ⟨mid, ⟨h1, h2, h3⟩, h4⟩
    · rintro ⟨mid, ⟨h1, h2, h3⟩, h4⟩
      exact ⟨h1, h2, mid, h3, h4⟩

/-- Where the next pointers of its tags are the same, a path is one in another table too. -/
theorem path_congr {s t : State} {l : List Nat} (hsome : ∀ g ∈ l, (s.container? g).isSome = true → (t.container? g).isSome = true)
    (hnext : ∀ g ∈ l, (s.container? g).isSome = true → t.nextOf g = s.nextOf g) {first last : Option Nat}
    (h : s.path l first last) : t.path l first last := by
  induction l generalizing first with
  | nil => exact h
  | cons g l ih =>
    obtain ⟨hfirst, hg, hrest⟩ := h
    refine ⟨hfirst, hsome g (by simp) hg, ?_⟩
    rw [hnext g (by simp) hg]
    exact ih (fun d hd => hsome d (by simp [hd])) (fun d hd => hnext d (by simp [hd])) hrest

/-- What a tag of a path names next is on the path or its end. -/
theorem nextOf_path {s : State} {l : List Nat} {first last : Option Nat} (h : s.path l first last) {g d : Nat} (hg : g ∈ l)
    (hd : s.nextOf g = some d) : d ∈ l ∨ last = some d := by
  induction l generalizing first with
  | nil => cases hg
  | cons a l ih =>
    obtain ⟨-, -, hrest⟩ := h
    obtain rfl | hg := List.mem_cons.mp hg
    · cases l with
      | nil => exact .inr (hrest.symm.trans hd)
      | cons b l =>
        obtain ⟨hb, -, -⟩ := hrest
        rw [hd, Option.some.injEq] at hb
        exact .inl (by simp [hb])
    · exact (ih hrest hg).imp (List.mem_cons_of_mem _) id

theorem path_isSome {s : State} {l : List Nat} {first last : Option Nat} (h : s.path l first last) {g : Nat} (hg : g ∈ l) :
    (s.container? g).isSome = true := by
  induction l generalizing first with
  | nil => cases hg
  | cons a l ih =>
    obtain ⟨-, hsome, hrest⟩ := h
    obtain rfl | hg := List.mem_cons.mp hg
    · exact hsome
    · exact ih hrest hg

/-- The chain that is read along a path that ends. -/
theorem chainFrom_of_path {s : State} {l : List Nat} {first : Option Nat} (h : s.path l first none) {n : Nat}
    (hn : l.length ≤ n) : (s.chainFrom n first).map (·.tag) = l := by
  induction l generalizing first n with
  | nil =>
    obtain rfl : first = none := h
    cases n <;> rfl
  | cons g l ih =>
    obtain ⟨rfl, hsome, hrest⟩ := h
    obtain ⟨c, hc⟩ := Option.isSome_iff_exists.mp hsome
    cases n with
    | zero => simp at hn
    | succ n =>
      have hnext : s.nextOf g = c.nextMember := by simp [State.nextOf, hc]
      rw [hnext] at hrest
      simp only [State.chainFrom, hc, List.map_cons, tag_of_container? hc,
        ih hrest (Nat.le_of_succ_le_succ hn)]

theorem chainFrom_length {s : State} (n : Nat) (first : Option Nat) : (s.chainFrom n first).length ≤ n := by
  induction n generalizing first with
  | zero => exact le_rfl
  | succ n ih =>
    cases first with
    | none => exact Nat.zero_le _
    | some g =>
      unfold State.chainFrom
      split
      · exact Nat.zero_le _
      · exact Nat.succ_le_succ (ih _)

/-- A chain is read from the table alone. -/
theorem chainFrom_congr {s t : State} (h : t.custody.table = s.custody.table) (n : Nat) (first : Option Nat) :
    t.chainFrom n first = s.chainFrom n first := by
  induction n generalizing first with
  | zero => rfl
  | succ n ih =>
    cases first with
    | none => rfl
    | some g =>
      have hg : t.container? g = s.container? g := by rw [State.container?, h]; rfl
      simp only [State.chainFrom, hg, ih]

theorem members_congr {s t : State} (h : t.custody.table = s.custody.table) (q : SackFields) : t.members q = s.members q :=
  chainFrom_congr h Config.sackCap q.first

/-- Every container of a chain is the one that its tag finds. -/
theorem container?_of_chainFrom {s : State} {n : Nat} {first : Option Nat} {c : Container} (h : c ∈ s.chainFrom n first) :
    s.container? c.tag = some c := by
  induction n generalizing first with
  | zero => cases h
  | succ n ih =>
    cases first with
    | none => cases h
    | some g =>
      unfold State.chainFrom at h
      split at h
      · cases h
      · next d hd =>
        obtain rfl | h := List.mem_cons.mp h
        · rw [tag_of_container? hd, hd]
        · exact ih h

/-- A chain whose last member names no other is a path that ends. -/
theorem path_of_chainFrom {s : State} {n : Nat} {first : Option Nat} (hne : s.chainFrom n first ≠ [])
    (hlast : ∀ c, (s.chainFrom n first).getLast? = some c → c.nextMember = none) :
    s.path ((s.chainFrom n first).map (·.tag)) first none := by
  induction n generalizing first with
  | zero => exact absurd rfl hne
  | succ n ih =>
    cases first with
    | none => exact absurd rfl hne
    | some g =>
      cases hc : s.container? g with
      | none => simp [State.chainFrom, hc] at hne
      | some c =>
        obtain rfl := tag_of_container? hc
        have hchain : s.chainFrom (n + 1) (some c.tag) = c :: s.chainFrom n c.nextMember := by
          simp [State.chainFrom, hc]
        have hnext : s.nextOf c.tag = c.nextMember := by simp [State.nextOf, hc]
        rw [hchain] at hlast ⊢
        refine ⟨rfl, by rw [hc]; rfl, ?_⟩
        rw [hnext]
        by_cases hrest : s.chainFrom n c.nextMember = []
        · rw [hrest] at hlast ⊢
          exact hlast c rfl
        · refine ih hrest fun d hd => hlast d ?_
          rw [List.getLast?_cons, hd]
          rfl

/-! ### Next pointers after an update -/

theorem isSome_updateContainer {f : Container → Container} (hf : ∀ c, (f c).tag = c.tag) (tag : Nat) (s : State) (g : Nat) :
    ((updateContainer tag f s).container? g).isSome = (s.container? g).isSome := by
  rw [container?_updateContainer hf]
  split <;> simp

theorem nextOf_updateContainer_ne {f : Container → Container} (hf : ∀ c, (f c).tag = c.tag) {tag g : Nat} (hne : g ≠ tag)
    (s : State) : (updateContainer tag f s).nextOf g = s.nextOf g := by
  rw [State.nextOf, container?_updateContainer hf, if_neg hne]
  rfl

theorem nextOf_updateContainer_self {f : Container → Container} (hf : ∀ c, (f c).tag = c.tag) {s : State} {c : Container}
    {tag : Nat} (hc : s.container? tag = some c) : (updateContainer tag f s).nextOf tag = (f c).nextMember := by
  rw [State.nextOf, container?_updateContainer hf, if_pos rfl, hc]
  rfl

/-- The last tag of a chain names the new member, every other what it did. -/
theorem nextOf_linkLast {s : State} {q : SackFields} {x : Nat} (hlinked : ∀ c ∈ s.members q, c.nesting.isSome = true) (g : Nat) :
    (linkLast q x s).nextOf g =
      if (s.members q).getLast?.map (·.tag) = some g then some x else s.nextOf g := by
  unfold linkLast
  cases hl : (s.members q).getLast? with
  | none => simp
  | some c =>
    have hc := container?_of_chainFrom (List.mem_of_getLast? hl)
    have hnesting := hlinked c (List.mem_of_getLast? hl)
    by_cases hg : g = c.tag
    · rw [hg]
      refine (nextOf_updateContainer_self (f := linkNext (some x)) (fun _ => rfl) hc).trans ?_
      obtain ⟨n, hn⟩ := Option.isSome_iff_exists.mp hnesting
      simp [linkNext, Container.nextMember, hn]
    · have hne : c.tag ≠ g := fun h => hg h.symm
      refine (nextOf_updateContainer_ne (f := linkNext (some x)) (fun _ => rfl) hg s).trans ?_
      simp [hne]

theorem isSome_linkLast (q : SackFields) (x : Nat) (s : State) (g : Nat) :
    ((linkLast q x s).container? g).isSome = (s.container? g).isSome := by
  unfold linkLast
  split
  · rfl
  · exact isSome_updateContainer (f := linkNext (some x)) (fun _ => rfl) _ s g

theorem table_tags_linkLast (q : SackFields) (x : Nat) (s : State) :
    (linkLast q x s).custody.table.map (·.tag) = s.custody.table.map (·.tag) := by
  unfold linkLast
  split
  · rfl
  · exact table_tags_updateContainer (f := linkNext (some x)) (fun _ => rfl) _ s

/-! ### NEST (R156) -/

/-- A chain of which the last member names no other, with a sack whose count is its length. -/
structure ChainOf (s : State) (q : SackFields) : Prop where
  length : (s.members q).length = q.count
  nodup : ((s.members q).map (·.tag)).Nodup
  empty : q.count = 0 → q.first = none
  linked : ∀ c ∈ s.members q, c.nesting.isSome = true
  last : ∀ c, (s.members q).getLast? = some c → c.nextMember = none

/-- The tags of such a chain are a path that ends. -/
theorem ChainOf.path {s : State} {q : SackFields} (h : ChainOf s q) :
    s.path ((s.members q).map (·.tag)) q.first none := by
  by_cases hne : s.members q = []
  · have hlength := h.length
    rw [hne] at hlength ⊢
    exact h.empty hlength.symm
  · exact path_of_chainFrom hne h.last

/-- A table in which the last tag of a path names a new one, that names none, and every other what it did. -/
theorem path_extended {s t : State} {l : List Nat} {first : Option Nat} {x : Nat} (h : s.path l first none) (hnodup : l.Nodup)
    (hx : x ∉ l) (hsome : ∀ g, (s.container? g).isSome = true → (t.container? g).isSome = true)
    (hxsome : (t.container? x).isSome = true) (hxnext : t.nextOf x = none)
    (hnext : ∀ g, g ≠ x → t.nextOf g = if l.getLast? = some g then some x else s.nextOf g) :
    t.path (l ++ [x]) (if l = [] then some x else first) none := by
  cases l using List.reverseRecOn with
  | nil => exact ⟨rfl, hxsome, hxnext⟩
  | append_singleton init z =>
    obtain ⟨mid, hinit, hz⟩ := path_append.mp h
    obtain ⟨rfl, hzsome, -⟩ := hz
    have hzx : z ≠ x := by
      rintro rfl
      exact hx (by simp)
    have hzinit : z ∉ init := by
      rw [List.nodup_append] at hnodup
      exact fun hmem => hnodup.2.2 z hmem z (by simp) rfl
    rw [if_neg (by simp)]
    refine path_append.mpr ⟨some x, path_append.mpr ⟨some z, ?_, rfl, hsome z hzsome, ?_⟩, rfl, hxsome, hxnext⟩
    · refine path_congr (fun g _ => hsome g) (fun g hg _ => ?_) hinit
      have hgz : z ≠ g := fun heq => hzinit (heq ▸ hg)
      have hgx : g ≠ x := by
        rintro rfl
        exact hx (by simp [hg])
      rw [hnext g hgx, if_neg (by simpa using hgz)]
    · rw [hnext z hzx, if_pos (by simp)]
      rfl

/-- The table of an accepted NEST. -/
def nested (k m : Container) (q : SackFields) (s : State) : State :=
  updateContainer k.tag (gainMember m.tag m.value q) (updateContainer m.tag (nestMember k.tag) (linkLast q m.tag s))

theorem nestAccepted_eq (k m : Container) (q : SackFields) (s : State) :
    nestAccepted k q m s = answer .ok (sackFigures (q.count + 1) (k.value + m.value)) (nested k m q s) := rfl

section Nest

variable {s : State} {k m : Container} {q : SackFields}

theorem linkLast_other {g : Nat} {c : Container} (hc : s.container? g = some c) (hg : g ∉ (s.members q).map (·.tag)) (x : Nat) :
    (linkLast q x s).container? g = some c := by
  unfold linkLast
  split
  · exact hc
  · next d hd =>
    have hne : g ≠ d.tag := fun heq => hg (heq ▸ List.mem_map_of_mem (List.mem_of_getLast? hd))
    rw [container?_updateContainer (f := linkNext (some x)) (fun _ => rfl), if_neg hne, hc]

/-- The sack and the member after a NEST. -/
theorem nested_records (hk : s.container? k.tag = some k) (hm : s.container? m.tag = some m) (hne : m.tag ≠ k.tag)
    (hkl : k.tag ∉ (s.members q).map (·.tag)) (hml : m.tag ∉ (s.members q).map (·.tag)) :
    (nested k m q s).container? k.tag = some (gainMember m.tag m.value q k) ∧
    (nested k m q s).container? m.tag = some (nestMember k.tag m) := by
  unfold nested
  rw [container?_updateContainer (f := gainMember m.tag m.value q) (fun _ => rfl),
    container?_updateContainer (f := gainMember m.tag m.value q) (fun _ => rfl),
    container?_updateContainer (f := nestMember k.tag) (fun _ => rfl),
    container?_updateContainer (f := nestMember k.tag) (fun _ => rfl), linkLast_other hk hkl, linkLast_other hm hml]
  simp [hne, hne.symm]

/-- The chain after a NEST ends with the member. -/
theorem members_nested (h : ChainOf s q) (hk : s.container? k.tag = some k) (hm : s.container? m.tag = some m)
    (hml : m.tag ∉ (s.members q).map (·.tag)) (hroom : q.count < 24) :
    ((nested k m q s).members
      { q with first := if q.count = 0 then some m.tag else q.first, count := q.count + 1 }).map (·.tag) =
      (s.members q).map (·.tag) ++ [m.tag] := by
  have hlinked : ((linkLast q m.tag s).container? m.tag) = some m := linkLast_other hm hml m.tag
  have hsome (g : Nat) : ((nested k m q s).container? g).isSome = (s.container? g).isSome := by
    unfold nested
    rw [isSome_updateContainer (f := gainMember m.tag m.value q) (fun _ => rfl),
      isSome_updateContainer (f := nestMember k.tag) (fun _ => rfl), isSome_linkLast]
  have hkeeps (g : Nat) : (nested k m q s).nextOf g =
      (updateContainer m.tag (nestMember k.tag) (linkLast q m.tag s)).nextOf g := by
    unfold nested
    by_cases hg : g = k.tag
    · subst hg
      obtain ⟨c, hc⟩ : ∃ c, (updateContainer m.tag (nestMember k.tag) (linkLast q m.tag s)).container? k.tag = some c := by
        rw [← Option.isSome_iff_exists, isSome_updateContainer (f := nestMember k.tag) (fun _ => rfl), isSome_linkLast, hk]
        rfl
      rw [nextOf_updateContainer_self (f := gainMember m.tag m.value q) (fun _ => rfl) hc, State.nextOf, hc]
      rfl
    · exact nextOf_updateContainer_ne (f := gainMember m.tag m.value q) (fun _ => rfl) hg _
  have hmnext : (nested k m q s).nextOf m.tag = none := by
    rw [hkeeps, nextOf_updateContainer_self (f := nestMember k.tag) (fun _ => rfl) hlinked]
    rfl
  have hnext (g : Nat) (hg : g ≠ m.tag) : (nested k m q s).nextOf g =
      if ((s.members q).map (·.tag)).getLast? = some g then some m.tag else s.nextOf g := by
    rw [hkeeps, nextOf_updateContainer_ne (f := nestMember k.tag) (fun _ => rfl) hg, nextOf_linkLast h.linked,
      List.getLast?_map]
  have hpath := path_extended h.path h.nodup hml (fun g hg => (hsome g).trans hg) (by rw [hsome, hm]; rfl) hmnext hnext
  have hempty : (s.members q).map (·.tag) = [] ↔ q.count = 0 := by
    rw [List.map_eq_nil_iff, ← h.length, List.length_eq_zero_iff]
  simp only [hempty] at hpath
  refine chainFrom_of_path hpath ?_
  rw [List.length_append, List.length_map, h.length]
  exact hroom

end Nest

/-! ### UNNEST (R157) -/

/-- The table of an accepted UNNEST. -/
def unnested (m k : Container) (q : SackFields) (s : State) : State :=
  let t := updateContainer m.tag freeMember s
  updateContainer k.tag (loseMember m q) (setTable (t.custody.table.map (bridge m.tag m.nextMember)) t)

theorem unnestAccepted_eq (m k : Container) (q : SackFields) (s : State) :
    unnestAccepted m k q s = answer .ok (sackFigures (q.count - 1) (k.value - m.value)) (unnested m k q s) := rfl

theorem bridge_tag (tag : Nat) (next : Option Nat) (c : Container) : (bridge tag next c).tag = c.tag := by
  unfold bridge
  split <;> rfl

/-- The member before a gap names what the gap named, every other what it did. -/
theorem nextMember_bridge (tag : Nat) (next : Option Nat) (c : Container) :
    (bridge tag next c).nextMember = if c.nextMember = some tag then next else c.nextMember := by
  unfold bridge
  split
  · next h =>
    cases hn : c.nesting with
    | none => simp [Container.nextMember, hn] at h
    | some n => simp [linkNext, Container.nextMember, hn]
  · rfl

/-- A path from which one tag is taken: what named it names what it named. -/
theorem path_bridged {s t : State} {before after : List Nat} {first : Option Nat} {x : Nat}
    (h : s.path (before ++ [x] ++ after) first none) (hnodup : (before ++ [x] ++ after).Nodup)
    (hsome : ∀ g, (s.container? g).isSome = true → (t.container? g).isSome = true)
    (hnext : ∀ g, g ≠ x → t.nextOf g = if s.nextOf g = some x then s.nextOf x else s.nextOf g) :
    t.path (before ++ after) (if first = some x then s.nextOf x else first) none := by
  obtain ⟨mid, hthrough, hafter⟩ := path_append.mp h
  obtain ⟨start, hbefore, hstart, -, hmid⟩ := path_append.mp hthrough
  subst hstart
  obtain rfl : s.nextOf x = mid := hmid
  rw [List.append_assoc, List.nodup_append] at hnodup
  obtain ⟨-, hnodupRest, hapart⟩ := hnodup
  have hxbefore : x ∉ before := fun hmem => hapart x hmem x (by simp) rfl
  have hxafter : x ∉ after := by simpa using (List.nodup_cons.mp hnodupRest).1
  have hrest : t.path after (s.nextOf x) none := by
    refine path_congr (fun g _ => hsome g) (fun g hg _ => ?_) hafter
    have hgx : g ≠ x := fun heq => hxafter (heq ▸ hg)
    refine (hnext g hgx).trans (if_neg fun hgap => ?_)
    obtain hmem | hend := nextOf_path hafter hg hgap
    · exact hxafter hmem
    · cases hend
  cases before using List.reverseRecOn with
  | nil =>
    obtain rfl : first = some x := hbefore
    rw [if_pos rfl]
    exact hrest
  | append_singleton init b =>
    obtain ⟨tip, hinit, htip, hb, hbx⟩ := path_append.mp hbefore
    subst htip
    have hbx : s.nextOf b = some x := hbx
    have hbne : b ≠ x := fun heq => hxbefore (by simp [heq])
    have hfirst : first ≠ some x := by
      rintro rfl
      cases init with
      | nil =>
        have hxb : some x = some b := hinit
        exact hbne (Option.some.inj hxb).symm
      | cons a init =>
        obtain ⟨hxa, -, -⟩ := hinit
        exact hxbefore (by simp [Option.some.inj hxa])
    rw [if_neg hfirst]
    refine path_append.mpr ⟨s.nextOf x, path_append.mpr ⟨some b, ?_, rfl, hsome b hb, ?_⟩, hrest⟩
    · refine path_congr (fun g _ => hsome g) (fun g hg _ => ?_) hinit
      have hgx : g ≠ x := fun heq => hxbefore (heq ▸ by simp [hg])
      refine (hnext g hgx).trans (if_neg fun hgap => ?_)
      obtain hmem | hend := nextOf_path hinit hg hgap
      · exact hxbefore (by simp [hmem])
      · exact hbne (Option.some.inj hend)
    · exact (hnext b hbne).trans (if_pos hbx)

section Unnest

variable {s : State} {k m : Container} {q : SackFields}

/-- What a tag finds after an UNNEST, but for the sack. -/
theorem unnested_container? {g : Nat} (hg : g ≠ k.tag) : (unnested m k q s).container? g =
    ((updateContainer m.tag freeMember s).container? g).map (bridge m.tag m.nextMember) := by
  unfold unnested
  rw [container?_updateContainer (f := loseMember m q) (fun _ => rfl), if_neg hg]
  exact container?_map (bridge_tag _ _) _ g

/-- The sack and the former member after an UNNEST. -/
theorem unnested_records (hk : s.container? k.tag = some k) (hm : s.container? m.tag = some m) (hne : m.tag ≠ k.tag) :
    (unnested m k q s).container? k.tag = some (loseMember m q (bridge m.tag m.nextMember k)) ∧
    (unnested m k q s).container? m.tag = some (freeMember m) := by
  constructor
  · unfold unnested
    rw [container?_updateContainer (f := loseMember m q) (fun _ => rfl), if_pos rfl]
    rw [container?_map (bridge_tag _ _), container?_updateContainer (f := freeMember) (fun _ => rfl), if_neg hne.symm, hk]
    rfl
  · rw [unnested_container? hne, container?_updateContainer (f := freeMember) (fun _ => rfl), if_pos rfl, hm]
    rfl

/-- The chain after an UNNEST is the former one without the member. -/
theorem members_unnested (h : ChainOf s q) (hk : s.container? k.tag = some k) (hm : s.container? m.tag = some m)
    (hne : m.tag ≠ k.tag) {before after : List Nat} (hsplit : (s.members q).map (·.tag) = before ++ [m.tag] ++ after) :
    ((unnested m k q s).members
      { q with first := if q.first = some m.tag then m.nextMember else q.first, count := q.count - 1 }).map (·.tag) =
      before ++ after := by
  have hmnext : s.nextOf m.tag = m.nextMember := by simp [State.nextOf, hm]
  have hsome (g : Nat) : ((unnested m k q s).container? g).isSome = (s.container? g).isSome := by
    unfold unnested
    rw [isSome_updateContainer (f := loseMember m q) (fun _ => rfl)]
    rw [container?_map (bridge_tag _ _), Option.isSome_map, isSome_updateContainer (f := freeMember) (fun _ => rfl)]
  have hnext (g : Nat) (hg : g ≠ m.tag) : (unnested m k q s).nextOf g =
      if s.nextOf g = some m.tag then s.nextOf m.tag else s.nextOf g := by
    cases hc : s.container? g with
    | none =>
      have hgone : (unnested m k q s).container? g = none := by
        have hnot := hsome g
        rw [hc] at hnot
        exact Option.not_isSome_iff_eq_none.mp (by rw [hnot]; exact Bool.false_ne_true)
      simp [State.nextOf, hgone, hc]
    | some c =>
      have hnextMember : (unnested m k q s).nextOf g = (bridge m.tag m.nextMember c).nextMember := by
        by_cases hgk : g = k.tag
        · subst hgk
          obtain rfl : k = c := Option.some.inj (hk.symm.trans hc)
          rw [State.nextOf, (unnested_records hk hm hne).1]
          rfl
        · rw [State.nextOf, unnested_container? hgk, container?_updateContainer (f := freeMember) (fun _ => rfl), if_neg hg,
            hc]
          rfl
      have hgnext : s.nextOf g = c.nextMember := by simp [State.nextOf, hc]
      rw [hnextMember, nextMember_bridge, hgnext, hmnext]
  have hpath := h.path
  have hnodup := h.nodup
  rw [hsplit] at hpath hnodup
  have hbridged := path_bridged hpath hnodup (fun g hg => (hsome g).trans hg) hnext
  rw [hmnext] at hbridged
  refine chainFrom_of_path hbridged ?_
  have hlength : (s.members q).length ≤ 24 := chainFrom_length 24 q.first
  have htags := congrArg List.length hsplit
  simp only [List.length_map, List.length_append, List.length_singleton] at htags ⊢
  change _ ≤ 24
  omega

end Unnest

/-! ### The requests NEST and UNNEST -/

theorem table_tags_nested (k m : Container) (q : SackFields) (s : State) :
    (nested k m q s).custody.table.map (·.tag) = s.custody.table.map (·.tag) := by
  unfold nested
  rw [table_tags_updateContainer (f := gainMember m.tag m.value q) (fun _ => rfl),
    table_tags_updateContainer (f := nestMember k.tag) (fun _ => rfl), table_tags_linkLast]

theorem table_tags_unnested (m k : Container) (q : SackFields) (s : State) :
    (unnested m k q s).custody.table.map (·.tag) = s.custody.table.map (·.tag) := by
  have hbridge : (s : State) → (s.custody.table.map (bridge m.tag m.nextMember)).map (·.tag) = s.custody.table.map (·.tag) := by
    intro s
    rw [List.map_map]
    exact List.map_congr_left fun c _ => bridge_tag _ _ c
  unfold unnested
  rw [table_tags_updateContainer (f := loseMember m q) (fun _ => rfl)]
  exact (hbridge _).trans (table_tags_updateContainer (f := freeMember) (fun _ => rfl) _ s)

/-- The checks of R156 all pass. -/
theorem nest_accepted {s : State} {k m : Container} {q : SackFields} (hk : s.container? k.tag = some k)
    (hm : s.container? m.tag = some m) (hcls : k.cls = .courierSack) (hq : k.sack = some q) (hopen : q.state = .assembling)
    (hbag : m.cls = .depositBag) (hheld : m.state = .held) (hfair : m.disputed = false)
    (hcounted : m.counted.isSome = true ∨ s.cfg.uncounted = true) (hroom : q.count < 24)
    (hvalue : k.value + m.value < 2 ^ 40) :
    nest { sack := k.tag, member := m.tag } s = nestAccepted k q m s := by
  have hnotUncounted : (m.counted.isNone && !s.cfg.uncounted) = false := by
    obtain h | h := hcounted
    · rw [Option.isNone_eq_false_iff.mpr h, Bool.false_and]
    · rw [h, Bool.not_true, Bool.and_false]
  have hfound : nest { sack := k.tag, member := m.tag } s = nestFound k m s := by
    simp only [nest, hk, hm]
  have hchecked : nestFound k m s = nestChecked k q m s := by
    simp only [nestFound, hcls, hq]
  have hcap : ¬Config.sackCap ≤ q.count := Nat.not_le.mpr hroom
  have hmax : ¬Config.valueMax < k.value + m.value := by
    unfold Config.valueMax
    omega
  rw [hfound, hchecked]
  simp [nestChecked, hopen, hbag, hheld, hfair, hnotUncounted, hcap, hmax]

/-- The checks of R157 all pass. -/
theorem unnest_accepted {s : State} {k m : Container} {q : SackFields} {n : NestingFields} (hk : s.container? k.tag = some k)
    (hm : s.container? m.tag = some m) (hq : k.sack = some q) (hopen : q.state = .assembling) (hnested : m.state = .nested)
    (hn : m.nesting = some n) (hparent : n.parent = k.tag) : unnest m.tag s = unnestAccepted m k q s := by
  have hsack : s.parentSack m = some (k, q) := by
    simp [State.parentSack, hn, hparent, hk, hq]
  simp [unnest, hm, unnestFound, hnested, hsack, hopen]

/-- Settles O48: the checks of NEST and UNNEST, and the chain read along the next pointers before and after. -/
theorem nestAndUnnestKeepTheChain : Obligations.NestAndUnnestKeepTheChain := by
  intro k m q l s hbooks hready hconf hrole hkmem hmmem hcls hq hopen hl hlength hnodup hempty hkl hlinked hlast
  have hl : (newSelect s).members q = l := (members_congr (s := s) (t := newSelect s) rfl q).trans hl
  subst hl
  have hchain : ChainOf (newSelect s) q := ⟨hlength, hnodup, hempty, hlinked, hlast⟩
  have hk : (newSelect s).container? k.tag = some k := hbooks.distinct.container? hkmem
  have hm : (newSelect s).container? m.tag = some m := hbooks.distinct.container? hmmem
  refine ⟨fun hbag hheld hfair hcounted hml hroom hvalue => ?_, fun before after n hnested hn hparent hsplit => ?_⟩
  · have hne : m.tag ≠ k.tag := by
      intro htag
      rw [htag, hk, Option.some.injEq] at hm
      rw [← hm, hcls] at hbag
      cases hbag
    have hexec : exec (.nest (.fields { sack := k.tag, member := m.tag })) s = .next (nestAccepted k q m (newSelect s)) := by
      refine (request_fields hready _ (fun f => atSafe (nest f))).trans ?_
      rw [atSafe_configured (s := newSelect s) hconf hrole,
        nest_accepted hk hm hcls hq hopen hbag hheld hfair hcounted hroom hvalue]
    obtain ⟨hsack, hmember⟩ := nested_records (q := q) hk hm hne hkl hml
    exact ⟨_, _, _, _, hexec, rfl, hsack, rfl, rfl, rfl, hopen, hmember, rfl, rfl,
      (congrArg _ (members_congr (s := nested k m q (newSelect s)) (t := nestAccepted k q m (newSelect s)) rfl _)).trans (members_nested hchain hk hm hml hroom), table_tags_nested k m q (newSelect s)⟩
  · have hne : m.tag ≠ k.tag := by
      intro htag
      refine hkl ?_
      rw [hsplit, htag]
      simp
    have hexec : exec (.unnest (.fields m.tag)) s = .next (unnestAccepted m k q (newSelect s)) := by
      refine (request_fields hready m.tag (fun tag => atSafe (unnest tag))).trans ?_
      rw [atSafe_configured (s := newSelect s) hconf hrole, unnest_accepted hk hm hq hopen hnested hn hparent]
    obtain ⟨hsack, hmember⟩ := unnested_records (q := q) hk hm hne
    have hvalue : (bridge m.tag m.nextMember k).value = k.value := by
      unfold bridge
      split <;> rfl
    exact ⟨_, _, _, _, hexec, rfl, hsack, rfl, by rw [← hvalue]; rfl, rfl, hmember, rfl, rfl,
      (congrArg _ (members_congr (s := unnested m k q (newSelect s)) (t := unnestAccepted m k q (newSelect s)) rfl _)).trans (members_unnested hchain hk hm hne hsplit),
      table_tags_unnested m k q (newSelect s)⟩

/-! ### Closing, abandoning and dispatching (R158, R160 to R162) -/

theorem weightedTags_eq (i : Nat) (l : List Container) :
    weightedTags i l = ((l.zipIdx i).map (fun c => c.2 * (c.1.tag % 1000000))).sum := by
  induction l generalizing i with
  | nil => rfl
  | cons c l ih => simp [weightedTags, ih]

theorem isMember_eq (l : List Container) (c : Container) :
    isMember (l.map (·.tag)) c = (l.any (fun d => d.tag == c.tag) && c.state == .nested) := by
  have hany : (l.map (·.tag)).contains c.tag = l.any (fun d => d.tag == c.tag) := by
    induction l with
    | nil => rfl
    | cons d l ih => rw [List.map_cons, List.contains_cons, ih, List.any_cons, BEq.comm]
  rw [isMember, hany]

/-- A total that does not saturate changes alone. -/
theorem changeTotal_within {k : TotalName} {d : Int} {s : State} (h : saturates (s.custody.totals.get k + d) = false) :
    changeTotal k d s = { s with custody := { s.custody with totals := s.totalsWith k d } } := by
  simp [changeTotal, h, boundTotal_eq h, State.totalsWith]

/-- Settles O49: the checks that the requests naming a sack share, then each effect as the model writes it. -/
theorem sacksCloseAndLeave : Obligations.SacksCloseAndLeave := by
  intro k q s hready hconf hrole hk hcls hq l check listed
  have hl : (newSelect s).members q = l := members_congr (s := s) (t := newSelect s) rfl q
  have hon (run : Container → SackFields → State → State) :
      request (.fields k.tag) s (onSack run) = .next (run k q (newSelect s)) := by
    refine (request_fields hready k.tag (onSack run)).trans ?_
    rw [onSack_sack (s := newSelect s) run hconf hrole hk hcls hq]
  have hcheck : manifestCheck l = check % 10000000 := by
    rw [manifestCheck, weightedTags_eq]
  have hmember : isMember (l.map (·.tag)) = listed := funext fun c => isMember_eq l c
  refine ⟨fun hopen hsome => ?_, fun hno => ?_, ?_, fun hshut => ?_, fun hwin hopen => ?_,
    fun x hwin hclosed hx hsat => ?_⟩
  · refine (hon sackClose).trans ?_
    rw [sackClose, if_neg (not_not.mpr hopen), if_neg hsome, closeSack, hl, hcheck, updateContainer_eq]
    rfl
  · refine (hon sackClose).trans ?_
    have hrefused : sackClose k q (newSelect s) = refuse .badState (newSelect s) := by
      by_cases hopen : q.state = .assembling
      · rw [sackClose, if_neg (not_not.mpr hopen), if_pos (hno.resolve_left (not_not.mpr hopen))]
      · rw [sackClose, if_pos hopen]
    rw [hrefused, refuse_newSelect]
  · refine (hon sackAbandon).trans ?_
    rw [sackAbandon, hl, removeContainer_eq, freeMembers, hmember, List.flatMap_map]
    rfl
  · refine (hon dispatch).trans ?_
    rw [dispatch, if_pos (by simp [hshut]), refuse_newSelect]
  · refine (hon dispatch).trans ?_
    rw [dispatch, if_neg (by simpa using Option.isSome_iff_ne_none.mp hwin), if_pos hopen, refuse_newSelect]
  · refine (hon dispatch).trans ?_
    rw [dispatch, if_neg (by simpa using Option.isSome_iff_ne_none.mp hwin), if_neg (not_not.mpr hclosed), dispatchAccepted,
      removeSack, hl, hmember, removeContainer_eq, changeTotal_within hsat]
    simp [setTable, dispatchRecord, raise, answer, answered, newSelect, hx, optNat, List.filter_filter, Attention.with, State.totalsWith]

end Sys2Proof.Machine

/-! PROOFS. Arbitration (O55), and what a receiver reads from the characters of a frame and of a count record (O54). -/

namespace Sys2Proof.Machine

/-! ### Contending bit by bit (R30) -/

/-- Bits that win decide, whatever follows. -/
theorem bitsWin_append {a b : List Bool} (h : bitsWin a b = true) (r q : List Bool) : bitsWin (a ++ r) (b ++ q) = true := by
  induction a generalizing b with
  | nil => cases h
  | cons x a ih =>
    cases b with
    | nil => cases h
    | cons y b =>
      simp only [List.cons_append, bitsWin] at h ⊢
      split
      · next heq => exact ih (by simpa [heq] using h)
      · next hne => simpa [hne] using h

/-- Equal bits leave the decision to what follows. -/
theorem bitsWin_common (a r q : List Bool) : bitsWin (a ++ r) (a ++ q) = bitsWin r q := by
  induction a with
  | nil => rfl
  | cons x a ih => simpa [bitsWin] using ih

/-- At most one of two contenders wins. -/
theorem bitsWin_asymm {a b : List Bool} (h : bitsWin a b = true) : bitsWin b a = false := by
  induction a generalizing b with
  | nil => cases h
  | cons x a ih =>
    cases b with
    | nil => cases h
    | cons y b =>
      cases x <;> cases y <;> simp_all [bitsWin]

/-- The number of bits sent most significant first. -/
def bitNumber : List Bool → Nat
  | [] => 0
  | b :: l => b.toNat * 2 ^ l.length + bitNumber l

theorem bitNumber_lt (l : List Bool) : bitNumber l < 2 ^ l.length := by
  induction l with
  | nil => exact Nat.one_pos
  | cons b l ih =>
    have hb : b.toNat * 2 ^ l.length ≤ 1 * 2 ^ l.length := Nat.mul_le_mul_right _ (Bool.toNat_le b)
    simp only [bitNumber, List.length_cons, Nat.pow_succ]
    omega

theorem bitNumber_append (l m : List Bool) : bitNumber (l ++ m) = bitNumber l * 2 ^ m.length + bitNumber m := by
  induction l with
  | nil => simp [bitNumber]
  | cons b l ih =>
    simp only [List.cons_append, bitNumber, ih, List.length_append, Nat.pow_add]
    ring

/-- Of two numbers sent most significant bit first the lower wins: its first differing bit is dominant. -/
theorem bitsWin_of_lt {a b : List Bool} (hlength : a.length = b.length) (h : bitNumber a < bitNumber b) :
    bitsWin a b = true := by
  induction a generalizing b with
  | nil =>
    obtain rfl := List.length_eq_zero_iff.mp hlength.symm
    simp at h
  | cons x a ih =>
    cases b with
    | nil => cases hlength
    | cons y b =>
      have hrest : a.length = b.length := Nat.succ.inj hlength
      have hb := bitNumber_lt b
      simp only [bitNumber, hrest] at h
      cases x <;> cases y
      · exact ih hrest (by simpa using h)
      · rfl
      · simp only [Bool.toNat_true, Bool.toNat_false] at h
        omega
      · exact ih hrest (by simpa using h)

theorem bitNumber_mirror (b : Byte) : bitNumber (lineBits (mirror b)) = b.toNat := by
  revert b; decide

/-! ### The arbitration field of a frame -/

/-- The kind characters in the order of the catalogue (R27). -/
def kindCatalogue : List Byte :=
  [0x00#8, 0x24#8, 0x34#8, 0x2C#8, 0x3C#8, 0x42#8, 0x52#8, 0x4A#8, 0x66#8, 0x76#8, 0x81#8, 0x91#8, 0xA5#8, 0xB5#8, 0xC3#8]

theorem kindCharacter_mem (p : Payload) : kindCharacter p ∈ kindCatalogue := by
  cases p <;> simp [kindCharacter, frameClass, frameIndex, reverse3, kindCatalogue]

/-- A kind listed earlier wins by character 0. -/
theorem bitsWin_of_listedFirst :
    ∀ x ∈ kindCatalogue, ∀ y ∈ kindCatalogue, kindCatalogue.idxOf x < kindCatalogue.idxOf y →
      bitsWin (lineBits x) (lineBits y) = true := by
  decide

/-- The class stands in the three high bits of character 0 (R27). -/
theorem frameClass_eq (p : Payload) : frameClass p = (kindCharacter p).toNat / 32 := by
  cases p <;> simp [kindCharacter, frameClass, frameIndex, reverse3]

theorem bitsWin_of_lowerClass :
    ∀ x ∈ kindCatalogue, ∀ y ∈ kindCatalogue, x.toNat / 32 < y.toNat / 32 → bitsWin (lineBits x) (lineBits y) = true := by
  decide

/-- A station number stands in character 1 with its most significant bit first. -/
theorem bitsWin_of_lowerSender {m n : Nat} (hn : n < 256) (h : m < n) :
    bitsWin (lineBits (mirror (BitVec.ofNat 8 m))) (lineBits (mirror (BitVec.ofNat 8 n))) = true := by
  refine bitsWin_of_lt rfl ?_
  rw [bitNumber_mirror, bitNumber_mirror, BitVec.toNat_ofNat, BitVec.toNat_ofNat, Nat.mod_eq_of_lt hn, Nat.mod_eq_of_lt (h.trans hn)]
  exact h

/-- The four characters of a serial are its bits, most significant first. -/
theorem bitNumber_serial (x : BitVec 32) : bitNumber ((serialCharacters x).flatMap lineBits) = x.toNat := by
  have hx : x.toNat < 2 ^ 32 := x.isLt
  simp only [serialCharacters, numBytes, List.map_cons, List.map_nil, List.flatMap_cons, List.flatMap_nil, bitNumber_append,
    bitNumber_mirror, List.length_append, lineBits_length, List.length_nil, bitNumber, BitVec.toNat_ofNat]
  omega

theorem bitsWin_of_lowerSerial {x y : BitVec 32} (h : x.toNat < y.toNat) :
    bitsWin ((serialCharacters x).flatMap lineBits) ((serialCharacters y).flatMap lineBits) = true := by
  refine bitsWin_of_lt rfl ?_
  rw [bitNumber_serial, bitNumber_serial]
  exact h

/-- A frame wins by character 0. -/
theorem wins_of_kind {a b : Frame} (h : bitsWin (lineBits (kindCharacter a.payload)) (lineBits (kindCharacter b.payload)) = true) :
    Frame.wins a b = true := by
  unfold Frame.wins Frame.arbitration
  rw [List.append_assoc, List.append_assoc]
  exact bitsWin_append h _ _

/-- Settles O55: character 0 decides by class and catalogue, character 1 by sender, the serial field between ANNOUNCEs. -/
theorem arbitrationOrdersFrames : Obligations.ArbitrationOrdersFrames := by
  intro a b _ _ _ hb
  refine ⟨fun hcls => ?_, ⟨kindCharacter_mem _, fun hidx => ?_⟩, fun hkind hsender => ?_, fun p q hp hq hsender hserial => ?_,
    bitsWin_asymm⟩
  · rw [frameClass_eq, frameClass_eq] at hcls
    exact wins_of_kind (bitsWin_of_lowerClass _ (kindCharacter_mem _) _ (kindCharacter_mem _) hcls)
  · exact wins_of_kind (bitsWin_of_listedFirst _ (kindCharacter_mem _) _ (kindCharacter_mem _) hidx)
  · unfold Frame.wins Frame.arbitration
    rw [hkind, List.append_assoc, List.append_assoc, bitsWin_common]
    exact bitsWin_append (bitsWin_of_lowerSender (by omega) hsender) _ _
  · unfold Frame.wins Frame.arbitration
    rw [hp, hq, hsender]
    exact (bitsWin_common _ _ _).trans (bitsWin_of_lowerSerial hserial)

/-! ### Reading numbers back (R178) -/

theorem readNum_numBytes_append (k n : Nat) (l : List Byte) : readNum k (numBytes k n ++ l) = some (n % 256 ^ k, l) := by
  induction k with
  | zero => simp [readNum, numBytes, Nat.mod_one]
  | succ k ih =>
    simp only [numBytes, List.cons_append, readNum, ih, BitVec.toNat_ofNat, Option.some.injEq, Prod.mk.injEq, and_true]
    rw [Nat.mod_pow_succ (x := n) (b := 256) (k := k), Nat.mul_comm, Nat.add_comm]

theorem readNum_bind {α : Type} (k n : Nat) (l : List Byte) (g : Nat × List Byte → Option α) :
    (readNum k (numBytes k n ++ l) >>= g) = g (n % 256 ^ k, l) := by
  rw [readNum_numBytes_append]
  rfl

theorem readNum_numBytes (k n : Nat) : readNum k (numBytes k n) = some (n % 256 ^ k, []) := by
  simpa using readNum_numBytes_append k n []

theorem numBytes_length (k n : Nat) : (numBytes k n).length = k := by
  induction k with
  | zero => rfl
  | succ k ih => simp [numBytes, ih]

theorem isByte_mod {n : Nat} (h : isByte n = true) : n % 256 = n := Nat.mod_eq_of_lt (by simpa [isByte] using h)

theorem isPair_mod {n : Nat} (h : isPair n = true) : n % 65536 = n := Nat.mod_eq_of_lt (by simpa [isPair] using h)

theorem isTag_mod {n : Nat} (h : isTag n = true) : n % 4294967296 = n := Nat.mod_eq_of_lt (by simpa [isTag] using h)

theorem isValue_mod {n : Nat} (h : isValue n = true) : n % 1099511627776 = n := by
  refine Nat.mod_eq_of_lt ?_
  simp [isValue, Config.valueMax] at h
  omega

theorem isByte_of_isId {n : Nat} (h : isId n = true) : isByte n = true := by
  simp [isId, isByte] at h ⊢
  omega

theorem isByte_of_isStation {n : Nat} (h : isStation n = true) : isByte n = true := by
  simp [isStation, isByte, Config.maxStation] at h ⊢
  omega

/-! ### Reading compositions back -/

theorem readPairs_flatMap (c : Composition) (h : ∀ p ∈ c, p.1 < 256 ∧ p.2 < 65536) (l : List Byte) :
    readPairs c.length (c.flatMap (fun p => numBytes 1 p.1 ++ numBytes 2 p.2) ++ l) = some (c, l) := by
  induction c with
  | nil => rfl
  | cons p c ih =>
    obtain ⟨hslot, hcount⟩ := h p (by simp)
    have hrest := ih fun q hq => h q (by simp [hq])
    simp only [List.length_cons, readPairs, List.flatMap_cons, List.append_assoc, readNum_numBytes_append, Option.bind_eq_bind,
      Option.bind_some, hrest]
    rw [Nat.mod_eq_of_lt (b := 256 ^ 1) hslot, Nat.mod_eq_of_lt (b := 256 ^ 2) hcount]

/-- A composition that a frame can carry. -/
def Carried (c : Composition) : Prop := c.length ≤ 12 ∧ ∀ p ∈ c, p.1 < 256 ∧ p.2 < 65536

theorem carried_of_proper {c : Composition} (hlength : c.length ≤ 12) (h : compProper c = true) : Carried c := by
  refine ⟨hlength, fun p hp => ?_⟩
  simp only [compProper, Bool.and_eq_true, List.all_eq_true, decide_eq_true_eq] at h
  obtain ⟨⟨hslot, -⟩, hcount⟩ := h.1 p hp
  exact ⟨hslot.trans (by decide), hcount.trans_lt (by decide)⟩

theorem readComp_compBytes_append {c : Composition} (h : Carried c) (l : List Byte) :
    readComp (compBytes c ++ l) = some (c, l) := by
  have hlength : c.length % 256 ^ 1 = c.length := Nat.mod_eq_of_lt (by have := h.1; omega)
  simp only [readComp, compBytes, List.append_assoc, readNum_numBytes_append, Option.bind_eq_bind, Option.bind_some, hlength]
  exact readPairs_flatMap c h.2 l

theorem readComp_compBytes {c : Composition} (h : Carried c) : readComp (compBytes c) = some (c, []) := by
  simpa using readComp_compBytes_append h []

/-! ### Codes read back -/

theorem roleOfCode_roleCode (r : Role) : roleOfCode (roleCode r % 256) = some r := by cases r <;> rfl

theorem classOfCode_classCode (c : ContainerClass) : classOfCode (classCode c % 256) = some c := by cases c <;> rfl

theorem needOfCode_needCode (k : NeedKind) : needOfCode (needCode k % 256) = some k := by cases k <;> rfl

theorem urgencyOfCode_urgencyCode (u : Urgency) : urgencyOfCode (urgencyCode u % 256) = some u := by cases u <;> rfl

theorem refuseOfCode_refuseCode {r : RefuseReason} (h : r ≠ .countBlocked) : refuseOfCode (refuseCode r % 256) = some r := by
  cases r with
  | countBlocked => exact absurd rfl h
  | _ => rfl

theorem answerOfCode_answerCode (a : AnswerKind) : answerOfCode (answerCode a % 256) = some a := by cases a <;> rfl

theorem withdrawOfCode_withdrawCode (w : WithdrawReason) : withdrawOfCode (withdrawCode w % 256) = some w := by
  cases w <;> rfl

theorem alarmOfCode_alarmCode (k : AlarmKind) : alarmOfCode (alarmCode k % 256) = some k := by cases k <;> rfl

theorem alarmActionOfCode_alarmActionCode (a : AlarmAction) : alarmActionOfCode (alarmActionCode a % 256) = some a := by
  cases a <;> rfl

theorem readActive_alarmOptCode (o : Option AlarmKind) : readActive (alarmOptCode o % 256) = some o := by
  cases o with
  | none => rfl
  | some k => cases k <;> rfl

theorem readFlags_beaconFlagByte (f : BeaconFlags) : readFlags (beaconFlagByte f % 256) = f := by
  obtain ⟨a, b, c, d, e, g⟩ := f
  revert a b c d e g
  decide

theorem mirror_mirror (b : Byte) : mirror (mirror b) = b := by
  revert b; decide

theorem ended_nil {α : Type} (a : α) : ended [] a = some a := rfl

/-! ### Payloads read back (11.2) -/

section Payloads

theorem readAlarm_alarm {p : AlarmPayload} (h : (Payload.alarm p).wellFormed = true) :
    readAlarm (payloadBytes (.alarm p)) = some (.alarm p) := by
  have htag := isTag_mod h
  simp [readAlarm, payloadBytes, readNum_numBytes_append, readNum_numBytes, alarmOfCode_alarmCode,
    alarmActionOfCode_alarmActionCode, readActive_alarmOptCode, ended_nil, htag]

theorem readTaken_taken {p : TakenPayload} (h : (Payload.taken p).wellFormed = true) :
    readTaken (payloadBytes (.taken p)) = some (.taken p) := by
  simp only [Payload.wellFormed, Bool.and_eq_true] at h
  obtain ⟨⟨htag, hnumber⟩, hvalue⟩ := h
  simp [readTaken, payloadBytes, readNum_numBytes_append, readNum_numBytes, ended_nil, isTag_mod htag, isPair_mod hnumber,
    isValue_mod hvalue]

theorem readTagNumber_bytes (make : TagNumber → Payload) {p : TagNumber} (h : (isTag p.tag && isPair p.number) = true) :
    readTagNumber make (numBytes 4 p.tag ++ numBytes 2 p.number) = some (make p) := by
  simp only [Bool.and_eq_true] at h
  obtain ⟨htag, hnumber⟩ := h
  simp [readTagNumber, readNum_numBytes_append, readNum_numBytes, ended_nil, isTag_mod htag, isPair_mod hnumber]

theorem readRefuse_refuse {p : RefusePayload} (h : (Payload.refuse p).wellFormed = true) (hok : payloadOk (.refuse p) = true) :
    readRefuse (payloadBytes (.refuse p)) = some (.refuse p) := by
  simp only [Payload.wellFormed, Bool.and_eq_true] at h
  obtain ⟨htag, hnumber⟩ := h
  have hreason : p.reason ≠ .countBlocked := by simpa [payloadOk] using hok
  simp [readRefuse, payloadBytes, readNum_numBytes_append, readNum_numBytes, ended_nil, isTag_mod htag, isPair_mod hnumber,
    refuseOfCode_refuseCode hreason]

theorem readAnswerFrame_answer {p : AnswerPayload} (h : (Payload.answer p).wellFormed = true) :
    readAnswerFrame (payloadBytes (.answer p)) = some (.answer p) := by
  simp only [Payload.wellFormed, Bool.and_eq_true, decide_eq_true_eq] at h
  obtain ⟨⟨⟨htag, hnumber⟩, hremaining⟩, hvalue⟩ := h
  have hremaining : p.remaining % 256 = p.remaining := Nat.mod_eq_of_lt (by omega)
  simp [readAnswerFrame, payloadBytes, readNum_numBytes_append, readNum_numBytes, ended_nil, isTag_mod htag, isPair_mod hnumber,
    isValue_mod hvalue, hremaining, answerOfCode_answerCode]

theorem readClaim_claim {p : ClaimPayload} (h : (Payload.claim p).wellFormed = true) :
    readClaim (payloadBytes (.claim p)) = some (.claim p) := by
  have hid := isByte_mod (isByte_of_isId h)
  simp [readClaim, payloadBytes, readNum_numBytes_append, readNum_numBytes, ended_nil, hid, needOfCode_needCode,
    roleOfCode_roleCode]

theorem carried_of_required {c : Composition} (h : compRequired c = true) : Carried c := by
  simp only [compRequired, Bool.and_eq_true, decide_eq_true_eq] at h
  obtain ⟨⟨-, hlength⟩, hproper⟩ := h
  exact carried_of_proper hlength hproper

theorem readAward_award {p : AwardPayload} (h : (Payload.award p).wellFormed = true) :
    readAward (payloadBytes (.award p)) = some (.award p) := by
  simp only [Payload.wellFormed, Bool.and_eq_true] at h
  obtain ⟨⟨⟨hid, hclaimant⟩, hvalue⟩, hcomp⟩ := h
  simp [readAward, payloadBytes, readNum_numBytes_append, ended_nil, isByte_mod (isByte_of_isId hid),
    isByte_mod (isByte_of_isStation hclaimant), isValue_mod hvalue, needOfCode_needCode, urgencyOfCode_urgencyCode,
    readComp_compBytes (carried_of_required hcomp)]

/-- The flag byte of a NEED carries the urgency in bit 0 and the reopened mark in bit 1. -/
theorem needFlags_back (u : Urgency) (b : Bool) :
    urgencyOfCode ((urgencyCode u + 2 * b.toNat) % 256 % 2) = some u ∧ ((urgencyCode u + 2 * b.toNat) % 256 / 2 % 2 == 1) = b := by
  cases u <;> cases b <;> decide

theorem readNeed_need {p : NeedPayload} (h : (Payload.need p).wellFormed = true) :
    readNeed (payloadBytes (.need p)) = some (.need p) := by
  simp only [Payload.wellFormed, Bool.and_eq_true] at h
  obtain ⟨⟨hid, hvalue⟩, hcomp⟩ := h
  obtain ⟨hurgency, hreopened⟩ := needFlags_back p.urgency p.reopened
  simp only [readNeed, payloadBytes, List.append_assoc, readNum_numBytes_append, Option.bind_eq_bind, Option.bind_some,
    readComp_compBytes (carried_of_required hcomp), pow_one, needOfCode_needCode, hurgency, hreopened, ended_nil,
    isByte_mod (isByte_of_isId hid)]
  rw [show p.value % 256 ^ 5 = p.value from isValue_mod hvalue]

theorem readWithdraw_withdraw {p : WithdrawPayload} (h : (Payload.withdraw p).wellFormed = true) :
    readWithdraw (payloadBytes (.withdraw p)) = some (.withdraw p) := by
  have hid := isByte_mod (isByte_of_isId h)
  simp [readWithdraw, payloadBytes, readNum_numBytes_append, readNum_numBytes, ended_nil, hid, needOfCode_needCode,
    withdrawOfCode_withdrawCode]

theorem readSerial_serialCharacters (x : BitVec 32) (l : List Byte) :
    readSerial (serialCharacters x ++ l) = some (x, l) := by
  have hback : (serialCharacters x ++ l).map mirror = numBytes 4 x.toNat ++ l.map mirror := by
    have hid : mirror ∘ mirror = id := funext mirror_mirror
    rw [List.map_append, serialCharacters, List.map_map, hid, List.map_id]
  have hdrop : (serialCharacters x ++ l).drop 4 = l := rfl
  have hserial : BitVec.ofNat 32 (x.toNat % 256 ^ 4) = x := by
    rw [Nat.mod_eq_of_lt (b := 256 ^ 4) x.isLt, BitVec.ofNat_toNat, BitVec.setWidth_eq]
  simp only [readSerial, hback, readNum_numBytes_append, Option.bind_eq_bind, Option.bind_some, hdrop, hserial]

theorem readAnnounce_announce {p : AnnouncePayload} (h : (Payload.announce p).wellFormed = true) :
    readAnnounce (payloadBytes (.announce p)) = some (.announce p) := by
  have hm : p.m ≤ 15 := of_decide_eq_true h
  have hm : p.m % 256 = p.m := Nat.mod_eq_of_lt (by omega)
  simp [readAnnounce, payloadBytes, readSerial_serialCharacters, readNum_numBytes_append, readNum_numBytes, ended_nil, hm,
    roleOfCode_roleCode]

theorem readConflict_conflict (p : ConflictPayload) : readConflict (payloadBytes (.conflict p)) = some (.conflict p) := by
  have hback (x : BitVec 32) : BitVec.ofNat 32 (x.toNat % 4294967296) = x := by
    rw [Nat.mod_eq_of_lt x.isLt, BitVec.ofNat_toNat, BitVec.setWidth_eq]
  simp [readConflict, payloadBytes, readNum_numBytes_append, readNum_numBytes, ended_nil, hback]

theorem readBeacon_beacon {p : BeaconPayload} (h : (Payload.beacon p).wellFormed = true) (hok : payloadOk (.beacon p) = true) :
    readBeacon (payloadBytes (.beacon p)) = some (.beacon p) := by
  simp only [Payload.wellFormed, Bool.and_eq_true, decide_eq_true_eq, Config.custodyCap, Config.requestCap] at h
  obtain ⟨⟨⟨hm, hcustody⟩, houtbound⟩, hrequests⟩ := h
  have hcode : p.stationCode = 4 := by simpa [payloadOk] using hok
  have hm : p.m % 256 = p.m := Nat.mod_eq_of_lt (by omega)
  have hcustody : p.custodyCount % 256 = p.custodyCount := Nat.mod_eq_of_lt (by omega)
  have houtbound : p.outbound % 256 = p.outbound := Nat.mod_eq_of_lt (by omega)
  have hrequests : p.openRequests % 256 = p.openRequests := Nat.mod_eq_of_lt (by omega)
  have hcode : p.stationCode % 256 = p.stationCode := Nat.mod_eq_of_lt (by omega)
  simp only [readBeacon, payloadBytes, List.append_assoc, readNum_numBytes_append, readNum_numBytes, Option.bind_eq_bind,
    Option.bind_some, pow_one, ended_nil, roleOfCode_roleCode, readFlags_beaconFlagByte, hcode, hm, hcustody, houtbound, hrequests]

/-- The flag byte of an OFFER says which of its optional parts are present. -/
theorem offerFlags_back (a b : Bool) :
    ((a.toNat + 2 * b.toNat) % 256 % 2 = 1 ↔ a = true) ∧ ((a.toNat + 2 * b.toNat) % 256 / 2 % 2 = 1 ↔ b = true) := by
  cases a <;> cases b <;> decide

/-- The bytes of the composition that ends an OFFER. -/
def offerCompBytes : Option Composition → List Byte
  | none => []
  | some c => compBytes c

theorem offerTail_eq (p : OfferPayload) :
    offerTail p = numBytes 1 (p.comp.isSome.toNat + 2 * p.counted.isSome.toNat) ++ offerCompBytes p.comp := by
  unfold offerTail
  cases p.comp <;> rfl

theorem readOfferComp_offerCompBytes {flags : Nat} {o : Option Composition} (hflag : flags % 2 = 1 ↔ o.isSome = true)
    (h : optComp o = true) : readOfferComp flags (offerCompBytes o) = some (o, []) := by
  cases o with
  | none => simp [readOfferComp, offerCompBytes, hflag]
  | some c =>
    simp only [optComp, Bool.and_eq_true, decide_eq_true_eq] at h
    obtain ⟨⟨hsome, hlength⟩, hproper⟩ := h
    have hne : c ≠ [] := List.length_pos_iff.mp hsome
    simp [readOfferComp, offerCompBytes, hflag, readComp_compBytes (carried_of_proper hlength hproper), hne]

/-- An absent counted value is read as 0 and left out. -/
theorem counted_back {o : Option Nat} (h : optValue o = true) :
    (if o.isSome = true then some (optNat o % 256 ^ 5) else none) = o := by
  cases o with
  | none => rfl
  | some v => exact congrArg some (isValue_mod h)

theorem readOffer_offer {p : OfferPayload} (h : (Payload.offer p).wellFormed = true) :
    readOffer (payloadBytes (.offer p)) = some (.offer p) := by
  simp only [Payload.wellFormed, Bool.and_eq_true, decide_eq_true_eq] at h
  obtain ⟨⟨⟨⟨⟨⟨⟨⟨⟨-, hnumber⟩, -⟩, htag⟩, hvalue⟩, hcounted⟩, horigin⟩, hpurpose⟩, hremaining⟩, hcomp⟩ := h
  obtain ⟨hcompFlag, hcountedFlag⟩ := offerFlags_back p.comp.isSome p.counted.isSome
  have hremaining : p.remaining % 256 = p.remaining := Nat.mod_eq_of_lt (by omega)
  have hnumber : p.number % 256 ^ 2 = p.number := isPair_mod hnumber
  have htag : p.tag % 256 ^ 4 = p.tag := isTag_mod htag
  have hvalue : p.value % 256 ^ 5 = p.value := isValue_mod hvalue
  simp only [readOffer, payloadBytes, offerTail_eq, List.append_assoc, ↓readNum_bind]
  simp only [Option.bind_eq_bind, Option.bind_some, pow_one, ended_nil, readOfferComp_offerCompBytes hcompFlag hcomp, roleOfCode_roleCode,
    classOfCode_classCode, hcountedFlag, counted_back hcounted, hnumber, htag, hvalue, isByte_mod (isByte_of_isStation horigin),
    isByte_mod hpurpose, hremaining]

/-- The reader of a kind. -/
def kindReader : Payload → List Byte → Option Payload
  | .alarm _ => readAlarm
  | .taken _ => readTaken
  | .recallOk _ => readTagNumber .recallOk
  | .refuse _ => readRefuse
  | .answer _ => readAnswerFrame
  | .offer _ => readOffer
  | .recall _ => readTagNumber .recall
  | .query _ => readTagNumber .query
  | .claim _ => readClaim
  | .award _ => readAward
  | .need _ => readNeed
  | .withdraw _ => readWithdraw
  | .announce _ => readAnnounce
  | .conflict _ => readConflict
  | .beacon _ => readBeacon

/-- Character 0 finds the reader of its kind (R27). -/
theorem readPayload_kindCharacter (p : Payload) (l : List Byte) : readPayload (kindCharacter p) l = kindReader p l := by
  cases p <;> simp [readPayload, kindCharacter, frameClass, frameIndex, reverse3, kindReader]

/-- The payload of every kind reads back from its bytes. -/
theorem readPayload_payloadBytes {p : Payload} (h : p.wellFormed = true) (hok : payloadOk p = true) :
    readPayload (kindCharacter p) (payloadBytes p) = some p := by
  rw [readPayload_kindCharacter]
  cases p with
  | alarm p => exact readAlarm_alarm h
  | taken p => exact readTaken_taken h
  | recallOk p => exact readTagNumber_bytes .recallOk h
  | refuse p => exact readRefuse_refuse h hok
  | answer p => exact readAnswerFrame_answer h
  | offer p => exact readOffer_offer h
  | query p => exact readTagNumber_bytes .query h
  | claim p => exact readClaim_claim h
  | award p => exact readAward_award h
  | need p => exact readNeed_need h
  | withdraw p => exact readWithdraw_withdraw h
  | announce p => exact readAnnounce_announce h
  | conflict p => exact readConflict_conflict p
  | beacon p => exact readBeacon_beacon h hok
  -- RECALL, whose constructor's name is a keyword of Mathlib and cannot stand in a pattern.
  | _ p => exact readTagNumber_bytes .recall h

end Payloads

/-! ### Frames read back (R26, R32) -/

theorem compBytes_length (c : Composition) : (compBytes c).length = 1 + 3 * c.length := by
  have hpairs : (c.flatMap (fun p => numBytes 1 p.1 ++ numBytes 2 p.2)).length = 3 * c.length := by
    induction c with
    | nil => rfl
    | cons p c ih =>
      simp only [List.flatMap_cons, List.length_append, numBytes_length, ih, List.length_cons]
      omega
  rw [compBytes, List.length_append, numBytes_length, hpairs]

theorem offerCompBytes_length {o : Option Composition} (h : optComp o = true) : (offerCompBytes o).length ≤ 37 := by
  cases o with
  | none => exact Nat.zero_le _
  | some c =>
    simp only [optComp, Bool.and_eq_true, decide_eq_true_eq] at h
    have hlength : c.length ≤ 12 := h.1.2
    rw [offerCompBytes, compBytes_length]
    omega

/-- A payload has at most 64 characters (R26). -/
theorem payloadBytes_length {p : Payload} (h : p.wellFormed = true) : (payloadBytes p).length ≤ 64 := by
  cases p with
  | offer p =>
    simp only [Payload.wellFormed, Bool.and_eq_true] at h
    have hcomp := offerCompBytes_length h.2
    simp only [payloadBytes, offerTail_eq, List.length_append, numBytes_length]
    omega
  | award p =>
    simp only [Payload.wellFormed, Bool.and_eq_true] at h
    have hlength := (carried_of_required h.2).1
    simp only [payloadBytes, compBytes_length, List.length_append, numBytes_length]
    omega
  | need p =>
    simp only [Payload.wellFormed, Bool.and_eq_true] at h
    have hlength := (carried_of_required h.2).1
    simp only [payloadBytes, compBytes_length, List.length_append, numBytes_length]
    omega
  | announce p => simp [payloadBytes, serialCharacters, numBytes_length]
  | _ => simp [payloadBytes, numBytes_length]

theorem target_lt {p : Payload} {target : Nat} (h : targetForm p target = true) : target < 256 := by
  cases p <;> simp [targetForm] at h <;> omega

section ReadBack

variable {f : Frame}

/-- What a frame that can be sent satisfies, part by part. -/
theorem frameOk_iff : frameOk f.sender f.target f.payload = true ↔
    (1 ≤ f.sender ∧ f.sender ≤ 56) ∧ targetForm f.payload f.target = true ∧ payloadOk f.payload = true ∧
      f.payload.wellFormed = true := by
  simp [frameOk, Frame.wellFormed, Config.maxStation, and_assoc]

/-- The characters of a frame: header, payload, check. -/
theorem characters_eq : Frame.characters f = kindCharacter f.payload :: mirror (BitVec.ofNat 8 f.sender) ::
    BitVec.ofNat 8 f.target :: BitVec.ofNat 8 (payloadBytes f.payload).length ::
      (payloadBytes f.payload ++ numBytes 2 (crc16 (Frame.covered f)).toNat) := rfl

theorem characters_length : (Frame.characters f).length = (payloadBytes f.payload).length + 6 := by
  rw [characters_eq]
  simp [numBytes_length]

theorem frameWith_characters (h : frameOk f.sender f.target f.payload = true) :
    frameWith (kindCharacter f.payload) (mirror (BitVec.ofNat 8 f.sender)) (BitVec.ofNat 8 f.target) (payloadBytes f.payload) =
      some f := by
  obtain ⟨⟨hlow, hhigh⟩, htarget, hok, hwf⟩ := frameOk_iff.mp h
  have hs : (mirror (mirror (BitVec.ofNat 8 f.sender))).toNat = f.sender := by
    rw [mirror_mirror, BitVec.toNat_ofNat, Nat.mod_eq_of_lt (by omega)]
  have ht : (BitVec.ofNat 8 f.target).toNat = f.target := by
    rw [BitVec.toNat_ofNat, Nat.mod_eq_of_lt (target_lt htarget)]
  have hformed : Frame.wellFormed f = true := by
    rw [frameOk, Bool.and_eq_true] at h
    exact h.1
  simp only [frameWith, readPayload_payloadBytes hwf hok, Option.bind_eq_bind, Option.bind_some, hs, ht]
  exact if_pos hformed

theorem readFrame_characters (h : frameOk f.sender f.target f.payload = true) : readFrame (Frame.characters f) = some f := by
  obtain ⟨-, -, -, hwf⟩ := frameOk_iff.mp h
  have hlength := payloadBytes_length hwf
  have hn : (BitVec.ofNat 8 (payloadBytes f.payload).length).toNat = (payloadBytes f.payload).length := by
    rw [BitVec.toNat_ofNat, Nat.mod_eq_of_lt (by omega)]
  rw [characters_eq]
  simp only [readFrame, hn, List.take_left', List.drop_left']
  refine (if_pos ⟨hlength, by simp [numBytes_length], rfl⟩).trans (frameWith_characters h)

/-- A part of a frame is neither the whole of it nor too long. -/
theorem taken_of_prefix (h : f.payload.wellFormed = true) {cs rest : List Byte} (hsplit : Frame.characters f = cs ++ rest) :
    (rest ≠ [] → lastCharacter cs = false) ∧ tooLong cs = false := by
  have hlength := payloadBytes_length h
  have htotal := congrArg List.length hsplit
  rw [characters_length, List.length_append] at htotal
  have hn : 4 ≤ cs.length → (cs.getD 3 0).toNat = (payloadBytes f.payload).length := by
    intro hfour
    have hget : cs.getD 3 0 = (Frame.characters f).getD 3 0 := by
      rw [hsplit, List.getD_append _ _ _ _ (by omega)]
    rw [hget, characters_eq]
    simp only [List.getD_cons_succ, List.getD_cons_zero, BitVec.toNat_ofNat]
    exact Nat.mod_eq_of_lt (by omega)
  constructor
  · intro hrest
    have hpos := List.length_pos_iff.mpr hrest
    rw [lastCharacter, Bool.and_eq_false_imp]
    intro hfour
    rw [hn (of_decide_eq_true hfour)]
    simp only [beq_eq_false_iff_ne]
    omega
  · rw [tooLong, Bool.and_eq_false_imp]
    intro hfour
    rw [hn (of_decide_eq_true hfour)]
    exact decide_eq_false (by simpa [Config.payloadMax] using hlength)

/-- A receiver takes the characters of a frame one by one. -/
theorem takeBits_characters (h : f.payload.wellFormed = true) (cs rest : List Byte) {before : List Byte}
    (hsplit : Frame.characters f = before ++ (cs ++ rest)) :
    (cs.flatMap characterBits).foldl LineReceiver.takeBit { bits := [], idle := 0, taken := before, discarded := false } =
      { bits := [], idle := 0, taken := before ++ cs, discarded := false } := by
  induction cs generalizing before with
  | nil => simp
  | cons c cs ih =>
    have hopen := (taken_of_prefix h hsplit).1 (by simp)
    have hsplit' : Frame.characters f = (before ++ [c]) ++ (cs ++ rest) := by simpa using hsplit
    have hfits := (taken_of_prefix h hsplit').2
    rw [List.flatMap_cons, List.foldl_append, takeBit_character c rfl rfl hopen]
    simp only [hfits]
    simpa using ih hsplit'

theorem readLine_lineLevels (h : frameOk f.sender f.target f.payload = true) : readLine (Frame.lineLevels f) = some f := by
  obtain ⟨-, -, -, hwf⟩ := frameOk_iff.mp h
  have htaken := takeBits_characters hwf (Frame.characters f) [] (before := []) (by simp)
  simp only [readLine, Frame.lineLevels, noFrame, htaken, List.nil_append]
  exact readFrame_characters h

/-! ### A stop bit read dominant (R25, R32) -/

/-- A bad stop bit discards the frame. -/
theorem takeBit_badStop {r : LineReceiver} (b : Byte) (hb : r.bits = []) (hd : r.discarded = false)
    (hl : lastCharacter r.taken = false) : (((characterBits b).set 9 false).foldl LineReceiver.takeBit r).discarded = true := by
  have hbits : (characterBits b).set 9 false = [false, b.getLsbD 0, b.getLsbD 1, b.getLsbD 2, b.getLsbD 3, b.getLsbD 4,
      b.getLsbD 5, b.getLsbD 6, b.getLsbD 7, false] := rfl
  simp [hbits, LineReceiver.takeBit, LineReceiver.stopBit, hb, hd, hl]

theorem flatMap_characterBits_length (cs : List Byte) : (cs.flatMap characterBits).length = 10 * cs.length := by
  induction cs with
  | nil => rfl
  | cons c cs ih =>
    rw [List.flatMap_cons, List.length_append, ih, characterBits_length, List.length_cons]
    omega

/-- The stop bit of a character is changed within that character. -/
theorem set_stopBit (before rest : List Byte) (c : Byte) :
    ((before ++ c :: rest).flatMap characterBits).set (10 * before.length + 9) false =
      before.flatMap characterBits ++ ((characterBits c).set 9 false ++ rest.flatMap characterBits) := by
  rw [List.flatMap_append, List.flatMap_cons, List.set_append_right _ _ (by rw [flatMap_characterBits_length]; omega),
    flatMap_characterBits_length, Nat.add_sub_cancel_left, List.set_append_left _ _ (by rw [characterBits_length]; omega)]

theorem readLine_badStop (h : f.payload.wellFormed = true) {k : Nat} (hk : k < (Frame.characters f).length) :
    readLine ((Frame.lineLevels f).set (10 * k + 9) false) = none := by
  obtain ⟨before, c, rest, hsplit, hlength⟩ : ∃ before c rest, Frame.characters f = before ++ c :: rest ∧ before.length = k :=
    ⟨(Frame.characters f).take k, (Frame.characters f)[k], (Frame.characters f).drop (k + 1),
      by rw [List.getElem_cons_drop, List.take_append_drop], by rw [List.length_take]; omega⟩
  have htaken := takeBits_characters h before (c :: rest) (before := []) hsplit
  have hopen := (taken_of_prefix h hsplit).1 (by simp)
  have hbad := takeBit_badStop (r := { bits := [], idle := 0, taken := before, discarded := false }) c rfl rfl hopen
  rw [Frame.lineLevels, hsplit, ← hlength, set_stopBit]
  simp only [readLine, List.foldl_append, noFrame, htaken, List.nil_append, takeBit_discarded _ hbad]
  exact if_pos hbad

end ReadBack

/-! ### Characters and count records (R25, R87, R179) -/

theorem readCharacter_characterBits (b : Byte) : readCharacter (characterBits b) = some b :=
  congrArg some (dataByte_lineBits b)

theorem readCharacter_badStop (b : Byte) : readCharacter ((characterBits b).set 9 false) = none := rfl

/-- A record whose check holds is read by its type and figure. -/
theorem readRecord_checked (a b c : Byte) : readRecord a b c (a ^^^ b ^^^ c) =
    (if a.toNat / 64 = 0 then .dropped .format
     else if a.toNat / 64 = 1 then
       if b.toNat % 16 * 256 + c.toNat = 0 then .dropped .format
       else .count (a.toNat % 16) (a.getLsbD 5) (b.toNat % 16 * 256 + c.toNat)
     else if a.toNat / 64 = 2 then .endOfRun (b.toNat % 16 * 256 + c.toNat) else .halt) :=
  if_neg (not_not.mpr rfl)

/-- The figure of a record reads back from its two characters. -/
theorem figure_back {n : Nat} (h : n ≤ 4095) :
    (BitVec.ofNat 8 (n / 256)).toNat % 16 * 256 + (BitVec.ofNat 8 (n % 256)).toNat = n := by
  rw [BitVec.toNat_ofNat, BitVec.toNat_ofNat]
  omega

theorem suspectBit_back : ∀ slot < 16, ∀ suspect : Bool,
    (BitVec.ofNat 8 (1 * 64 + (slot + 32 * suspect.toNat))).getLsbD 5 = suspect := by
  decide

theorem readRecord_count {slot n : Nat} (suspect : Bool) (hslot : slot < 16) (hone : 1 ≤ n) (hn : n ≤ 4095) :
    let a := BitVec.ofNat 8 (1 * 64 + (slot + 32 * suspect.toNat))
    let b := BitVec.ofNat 8 (n / 256)
    let c := BitVec.ofNat 8 (n % 256)
    readRecord a b c (a ^^^ b ^^^ c) = .count slot suspect n := by
  intro a b c
  have hsuspect := Bool.toNat_le suspect
  have ha : a.toNat = 64 + slot + 32 * suspect.toNat := by
    rw [BitVec.toNat_ofNat]
    omega
  rw [readRecord_checked, figure_back hn, suspectBit_back slot hslot, if_neg (by omega), if_pos (by omega), if_neg (by omega)]
  congr 1
  omega

theorem readRecord_endOfRun {n : Nat} (hn : n ≤ 4095) :
    let a := BitVec.ofNat 8 (2 * 64 + 0)
    let b := BitVec.ofNat 8 (n / 256)
    let c := BitVec.ofNat 8 (n % 256)
    readRecord a b c (a ^^^ b ^^^ c) = .endOfRun n := by
  intro a b c
  have ha : a.toNat = 128 := BitVec.toNat_ofNat _ _
  rw [readRecord_checked, figure_back hn, if_neg (by omega), if_neg (by omega), if_pos (by omega)]

/-- Settles O54: the payload of each kind from its bytes, the frame from its characters, the characters from their bits, and the
records of the count line. -/
theorem framesAndRecordsReadBack : Obligations.FramesAndRecordsReadBack := by
  refine ⟨fun f h => ?_, fun b => ⟨rfl, readCharacter_characterBits b, readCharacter_badStop b⟩,
    fun slot n suspect hslot hone hn => readRecord_count suspect hslot hone hn, fun n hn => readRecord_endOfRun hn,
    fun a b c d hd => if_pos hd, fun b c a ha => ?_, fun b c a ha => ?_⟩
  · obtain ⟨-, -, -, hwf⟩ := frameOk_iff.mp h
    have hlength := payloadBytes_length hwf
    refine ⟨?_, readFrame_characters h, readLine_lineLevels h, fun k hk => readLine_badStop hwf hk⟩
    rw [characters_length]
    omega
  · rw [readRecord_checked, if_pos (by omega)]
  · rw [readRecord_checked, if_neg (by omega), if_neg (by omega), if_neg (by omega)]

end Sys2Proof.Machine

/-! PROOFS. A completed handover closes the requests that it serves (O33). -/

namespace Sys2Proof.Machine

/-! ### ALARM frames beside other work (R171) -/

/-- From `s` to `t` at most `n` ALARM frames have joined, or been dropped from a full queue. -/
structure Signals (n : Nat) (s t : State) : Prop where
  service : t.service = s.service
  state : t.member.state = s.member.state
  raised : ∀ r, Raised r s → Raised r t
  silent : s.member.state ≠ .onLoop → t.loop.queue = s.loop.queue ∧ t.attn = s.attn
  room : s.loop.queue.length + n ≤ 12 →
    t.attn = s.attn ∧ (∀ f ∈ s.loop.queue, f ∈ t.loop.queue) ∧ t.loop.queue.length ≤ s.loop.queue.length + n

theorem Signals.of_same {s t : State} (hservice : t.service = s.service) (hstate : t.member.state = s.member.state)
    (hqueue : t.loop.queue = s.loop.queue) (hattn : t.attn = s.attn) (n : Nat) : Signals n s t :=
  ⟨hservice, hstate, fun r hr => by rw [Raised, hattn]; exact hr, fun _ => ⟨hqueue, hattn⟩,
    fun _ => ⟨hattn, by rw [hqueue]; exact fun _ hf => hf, by rw [hqueue]; exact Nat.le_add_right ..⟩⟩

theorem Signals.trans {m n : Nat} {s t u : State} (h : Signals m s t) (k : Signals n t u) : Signals (m + n) s u := by
  refine ⟨k.service.trans h.service, k.state.trans h.state, fun r hr => k.raised r (h.raised r hr), fun hoff => ?_,
    fun hroom => ?_⟩
  · obtain ⟨hq, ha⟩ := h.silent hoff
    obtain ⟨kq, ka⟩ := k.silent (by rw [h.state]; exact hoff)
    exact ⟨kq.trans hq, ka.trans ha⟩
  · obtain ⟨ha, hmem, hlength⟩ := h.room (by omega)
    obtain ⟨ka, kmem, klength⟩ := k.room (by omega)
    exact ⟨ka.trans ha, fun f hf => kmem f (hmem f hf), by omega⟩

/-- An ALARM frame is placed while ON_LOOP only (R171). -/
theorem signals_alarmFrame (k : AlarmKind) (a : AlarmAction) (tag : Nat) (s : State) : Signals 1 s (alarmFrame k a tag s) := by
  unfold alarmFrame
  split
  · next hon =>
    have hst : s.member.state = .onLoop := by simpa using hon
    have hwithin : Within [.queue, .attn] s (chipFrame 0 (.alarm { kind := k, action := a, active := s.activeAlarm, tag := tag }) s) := by
      simp
    refine ⟨hwithin.service, congrArg _ hwithin.member, fun r hr => hr.chipFrame _ _, fun hoff => absurd hst hoff, fun hroom => ?_⟩
    rw [chipFrame_joins (queueTakes_of_joining (by rw [hst]; rfl)) (by omega)]
    exact ⟨rfl, fun f hf => mem_insertFrame.mpr (.inr hf), (insertFrame_length ..).le⟩
  · exact .of_same rfl rfl rfl rfl 1

theorem signals_overdueCleared (c : Container) (s : State) : Signals 1 s (overdueCleared c s) := by
  unfold overdueCleared
  split
  · exact signals_alarmFrame ..
  · exact .of_same rfl rfl rfl rfl 1

theorem signals_unresolvedCleared (e : InboundEntry) (s : State) : Signals 1 s (unresolvedCleared e s) := by
  unfold unresolvedCleared
  split
  · exact signals_alarmFrame ..
  · exact .of_same rfl rfl rfl rfl 1

theorem signals_changeTotal (k : TotalName) (d : Int) (s : State) : Signals 1 s (changeTotal k d s) := by
  have hframe : Signals 0 s { s with custody := { s.custody with
      totals := s.custody.totals.put k (boundTotal (s.custody.totals.get k + d)),
      saturated := s.custody.saturated || saturates (s.custody.totals.get k + d) } } := by
    refine .of_same ?_ ?_ ?_ ?_ 0 <;> rfl
  unfold changeTotal
  dsimp only
  split
  · exact hframe.trans (signals_alarmFrame ..)
  · exact hframe.trans (.of_same rfl rfl rfl rfl 1)

/-- A total that saturates no further places no ALARM. -/
theorem changeTotal_steady {k : TotalName} {d : Int} {s : State}
    (h : saturates (s.custody.totals.get k + d) = true → s.custody.saturated = true) :
    (changeTotal k d s).loop.queue = s.loop.queue := by
  unfold changeTotal
  dsimp only
  rw [if_neg (by
    rw [Bool.and_eq_true, Bool.not_eq_true']
    rintro ⟨hsat, hno⟩
    rw [h hsat] at hno
    cases hno)]

/-! ### Requests closed (R141) -/

/-- The WITHDRAW(SERVED) of a request as it joins the queue. -/
def servedFrame (r : OwnRequest) : QueuedFrame :=
  { target := if r.kind = .change then 59 else 58, payload := .withdraw { id := r.id, kind := r.kind, reason := .served },
    port := false, onLine := false }

theorem needTarget_eq (k : NeedKind) : needTarget k = if k = .change then 59 else 58 := by cases k <;> rfl

theorem raised_raise_self (r : Reason) (s : State) : Raised r (raise r s) := raised_raise r s

theorem with_with (a : Attention) (r : Reason) : (a.with r).with r = a.with r := by
  simp [Attention.with, BitVec.or_assoc, BitVec.and_assoc]

/-- The reasons after the requests of a list have closed. -/
def servedAttn (l : List OwnRequest) (a : Attention) : Attention := if l = [] then a else a.with .requestServed

theorem servedAttn_cons (r : OwnRequest) (l : List OwnRequest) (a : Attention) :
    servedAttn l (servedAttn [r] a) = servedAttn (r :: l) a := by
  cases l with
  | nil => rfl
  | cons q l => exact with_with a .requestServed

/-- What closing the requests of a list does to the service unit, the queue and the reasons. -/
structure ClosedAll (l : List OwnRequest) (s t : State) : Prop where
  service : t.service = { s.service with requests := s.service.requests.filter (fun q => decide (q.id ∉ l.map (·.id))) }
  state : t.member.state = s.member.state
  raised : ∀ r, Raised r s → Raised r t
  served : l ≠ [] → Raised .requestServed t
  off : joiningOrJoined s.member.state = false →
    t.loop.queue = s.loop.queue ∧ t.attn = servedAttn l s.attn
  on : joiningOrJoined s.member.state = true → s.loop.queue.length + l.length ≤ 12 →
    t.loop.queue = l.foldl (fun q r => insertFrame (servedFrame r) q) s.loop.queue ∧
      t.attn = servedAttn l s.attn

/-- One request closed. -/
theorem closedAll_one (r : OwnRequest) (s : State) : ClosedAll [r] s (closeRequest s r) := by
  have hmid : Raised .requestServed (raise .requestServed (removeRequest r.id s)) := raised_raise _ _
  have hfilter : (removeRequest r.id s).service =
      { s.service with requests := s.service.requests.filter (fun q => decide (q.id ∉ [r].map (·.id))) } := by
    simp [removeRequest, setRequests, Bool.beq_eq_decide_eq, bne]
  unfold closeRequest sendWithdraw
  split
  · next hjoin =>
    have hwithin : Within [.queue, .attn] (raise .requestServed (removeRequest r.id s))
        (chipFrame (needTarget r.kind) (withdrawPayload r .served) (raise .requestServed (removeRequest r.id s))) := by
      simp
    refine ⟨hwithin.service.trans hfilter, congrArg _ hwithin.member,
      fun q hq => Raised.chipFrame (Raised.raise (s := removeRequest r.id s) hq _) _ _, fun _ => hmid.chipFrame _ _,
      fun hoff => ?_, fun _ hroom => ?_⟩
    · have hjoin : joiningOrJoined s.member.state = true := hjoin
      rw [hoff] at hjoin
      cases hjoin
    · simp only [List.length_singleton] at hroom
      rw [chipFrame_joins (queueTakes_of_joining hjoin) (Nat.lt_of_succ_le hroom)]
      refine ⟨?_, rfl⟩
      rw [needTarget_eq]
      rfl
  · next hoff =>
    exact ⟨hfilter, rfl, fun q hq => Raised.raise (s := removeRequest r.id s) hq _, fun _ => hmid, fun _ => ⟨rfl, rfl⟩,
      fun hjoin => absurd hjoin hoff⟩

theorem closedAll_cons {r : OwnRequest} {l : List OwnRequest} {s t u : State} (h : ClosedAll [r] s t) (k : ClosedAll l t u) :
    ClosedAll (r :: l) s u := by
  refine ⟨?_, k.state.trans h.state, fun q hq => k.raised q (h.raised q hq), fun _ => k.raised _ (h.served (by simp)),
    fun hoff => ?_, fun hon hroom => ?_⟩
  · rw [k.service, h.service]
    simp only [List.filter_filter, List.map_cons, List.map_nil, List.mem_cons, List.not_mem_nil, or_false, not_or]
    congr 1
    refine List.filter_congr fun q _ => ?_
    rw [Bool.and_comm, Bool.decide_and]
  · obtain ⟨hq, ha⟩ := h.off hoff
    obtain ⟨kq, ka⟩ := k.off (by rw [h.state]; exact hoff)
    exact ⟨kq.trans hq, by rw [ka, ha, servedAttn_cons]⟩
  · simp only [List.length_cons] at hroom
    obtain ⟨hq, ha⟩ := h.on hon (by simp only [List.length_singleton]; omega)
    have hlength : t.loop.queue.length = s.loop.queue.length + 1 := by
      rw [hq]
      exact insertFrame_length ..
    obtain ⟨kq, ka⟩ := k.on (by rw [h.state]; exact hon) (by omega)
    exact ⟨by rw [kq, hq]; rfl, by rw [ka, ha, servedAttn_cons]⟩

theorem closedAll_foldl (l : List OwnRequest) (s : State) : ClosedAll l s (l.foldl closeRequest s) := by
  induction l generalizing s with
  | nil =>
    refine ⟨?_, rfl, fun _ h => h, fun h => absurd rfl h, fun _ => ⟨rfl, rfl⟩, fun _ _ => ⟨rfl, rfl⟩⟩
    simp
  | cons r l ih => exact closedAll_cons (closedAll_one r s) (ih _)

theorem mem_foldl_insertFrame {g : QueuedFrame} (l : List OwnRequest) (q : List QueuedFrame) :
    g ∈ l.foldl (fun q r => insertFrame (servedFrame r) q) q ↔ g ∈ q ∨ ∃ r ∈ l, g = servedFrame r := by
  induction l generalizing q with
  | nil => simp
  | cons r l ih =>
    rw [List.foldl_cons, ih, mem_insertFrame]
    simp only [List.mem_cons, exists_eq_or_imp]
    tauto

theorem foldl_insertFrame_length (l : List OwnRequest) (q : List QueuedFrame) :
    (l.foldl (fun q r => insertFrame (servedFrame r) q) q).length = q.length + l.length := by
  induction l generalizing q with
  | nil => rfl
  | cons r l ih =>
    rw [List.foldl_cons, ih, insertFrame_length, List.length_cons]
    omega

/-! ### A handover completed (R141, R147) -/

theorem requesterGives_eq (k : NeedKind) : requesterGives k = (k == .pickup) := by cases k <;> rfl

/-- The request that a completed handover of the tag with the peer serves (R141). -/
def servedBy (gives : Bool) (peer tag : Nat) (r : OwnRequest) : Bool :=
  linkedTo tag r && requesterGives r.kind == gives && claimantOf r.phase == some peer

/-- With no id twice the served requests are those with the id of one. -/
theorem mem_served_ids {l : List OwnRequest} (hids : (l.map (·.id)).Nodup) {p : OwnRequest → Bool} {r : OwnRequest} (hr : r ∈ l) :
    r.id ∈ (l.filter p).map (·.id) ↔ p r = true := by
  constructor
  · intro hmem
    obtain ⟨q, hq, hid⟩ := List.mem_map.mp hmem
    obtain ⟨hq, hp⟩ := List.mem_filter.mp hq
    rwa [← List.inj_on_of_nodup_map hids hq hr hid]
  · exact fun hp => List.mem_map_of_mem (List.mem_filter.mpr ⟨hr, hp⟩)

/-- The service unit told of a completed handover, at either end. -/
def tellCompleted (gives : Bool) (peer tag : Nat) (won : ServiceEntry → Bool) (s : State) : State :=
  let t := closeServed gives tag peer s
  let u := if gives then toldSetback true tag t else t
  setServiceList (u.service.list.filter (fun e => !won e)) u

/-- A request that a completed handover of the tag with the peer serves, by its phase. -/
def servedRow (gives : Bool) (peer tag : Nat) (r : OwnRequest) : Bool :=
  match r.phase with
  | .serving n _ g => n == peer && g == tag && (r.kind == .pickup) == gives
  | _ => false

theorem servedBy_eq (gives : Bool) (peer tag : Nat) : servedBy gives peer tag = servedRow gives peer tag := by
  funext r
  unfold servedBy servedRow linkedTo
  rw [requesterGives_eq]
  cases r.phase with
  | opened => rfl
  | claimed c a => rfl
  | serving c a g =>
    simp only [claimantOf, Option.some_beq_some]
    rw [Bool.and_comm, Bool.and_assoc]

/-- What a completed handover leaves: from the queue `q` and the reasons `a` the requests it serves are closed and the rest of the
service unit is as it was. -/
def Settled (s : State) (gives : Bool) (peer tag : Nat) (won : ServiceEntry → Bool) (q : List QueuedFrame) (a : Attention)
    (outcome : NoteOutcome) (noAlarm : Prop) (t : State) : Prop :=
  let closed := s.service.requests.filter (servedRow gives peer tag)
  let told := (if closed = [] then a else a.with .requestServed).withResult tag (if gives then .giver else .receiver) outcome
  t.service = { s.service with
    requests := (s.service.requests.filter (fun r => !servedRow gives peer tag r)).map (fun r =>
      if gives = true ∧ linkedTo tag r = true ∧ r.kind = .pickup then { r with phase := backToClaimed r.phase } else r),
    list := s.service.list.filter (fun e => !won e) } ∧
  (closed ≠ [] → Raised .requestServed t) ∧
  (joiningOrJoined s.member.state = false → t.loop.queue = q ∧ t.attn = told) ∧
  (joiningOrJoined s.member.state = true → q.length + closed.length + 2 ≤ 12 →
    t.attn = told ∧ (∀ r ∈ closed, servedFrame r ∈ t.loop.queue) ∧ (∀ f ∈ q, f ∈ t.loop.queue) ∧
    (s.member.state ≠ .onLoop ∨ noAlarm → t.loop.queue = closed.foldl (fun l r => insertFrame (servedFrame r) l) q))

/-- The service unit after it has been told: the requests served are gone, and at the giver the others of the tag are CLAIMED. -/
theorem tellCompleted_service {s : State} (hids : (s.service.requests.map (·.id)).Nodup) (gives : Bool) (peer tag : Nat)
    (won : ServiceEntry → Bool) :
    (tellCompleted gives peer tag won s).service = { s.service with
      requests := (s.service.requests.filter (fun r => !servedRow gives peer tag r)).map (fun r =>
        if gives = true ∧ linkedTo tag r = true ∧ r.kind = .pickup then { r with phase := backToClaimed r.phase } else r),
      list := s.service.list.filter (fun e => !won e) } := by
  have hclosed := (closedAll_foldl (s.service.requests.filter (servedBy gives peer tag)) s).service
  have hkept : s.service.requests.filter
      (fun q => decide (q.id ∉ (s.service.requests.filter (servedBy gives peer tag)).map (·.id))) =
      s.service.requests.filter (fun r => !servedRow gives peer tag r) := by
    refine List.filter_congr fun r hr => ?_
    have hiff := mem_served_ids hids hr (p := servedBy gives peer tag)
    rw [← servedBy_eq]
    cases hserved : servedBy gives peer tag r <;> simp [hiff, hserved]
  rw [hkept] at hclosed
  have hservice : (closeServed gives tag peer s).service =
      { s.service with requests := s.service.requests.filter (fun r => !servedRow gives peer tag r) } := hclosed
  cases gives with
  | false =>
    simp only [tellCompleted, setServiceList, Bool.false_eq_true, if_false, false_and, List.map_id', hservice]
  | true =>
    simp only [tellCompleted, setServiceList, toldSetback, setRequests, if_true, true_and, hservice, requesterGives_eq,
      Bool.and_eq_true, beq_iff_eq]

theorem onLoop_of_off {st : StationState} (h : joiningOrJoined st = false) : st ≠ .onLoop := by
  rintro rfl
  cases h

theorem raiseResult_attn (tag : Nat) (side : Side) (outcome : NoteOutcome) (s : State) :
    (raiseResult tag side outcome s).attn = s.attn.withResult tag side outcome := rfl

/-- A completion from the queue `q` and the reasons `a`: before and after the requests close ALARMs may join. -/
theorem settled_of {s b u t : State} {m k : Nat} {gives : Bool} {peer tag : Nat} {won : ServiceEntry → Bool} {outcome : NoteOutcome}
    {noAlarm : Prop} (hids : (s.service.requests.map (·.id)).Nodup) (hservice : b.service = s.service)
    (hstate : b.member.state = s.member.state) (hbefore : Signals m b u)
    (hafter : Signals k (raiseResult tag (if gives then .giver else .receiver) outcome (tellCompleted gives peer tag won u)) t)
    (hmk : m + k ≤ 2)
    (hquiet : noAlarm → u.loop.queue = b.loop.queue ∧ t.loop.queue = (raiseResult tag (if gives then .giver else .receiver)
      outcome (tellCompleted gives peer tag won u)).loop.queue) :
    Settled s gives peer tag won b.loop.queue b.attn outcome noAlarm t := by
  have hu : u.service = s.service := hbefore.service.trans hservice
  have hus : u.member.state = s.member.state := hbefore.state.trans hstate
  have hids' : (u.service.requests.map (·.id)).Nodup := by rw [hu]; exact hids
  have hclosed := closedAll_foldl (u.service.requests.filter (servedBy gives peer tag)) u
  rw [hu, servedBy_eq] at hclosed
  generalize hl : s.service.requests.filter (servedRow gives peer tag) = l at hclosed
  have htold : (tellCompleted gives peer tag won u).loop = (l.foldl closeRequest u).loop ∧
      (tellCompleted gives peer tag won u).attn = (l.foldl closeRequest u).attn ∧
      (tellCompleted gives peer tag won u).member = (l.foldl closeRequest u).member := by
    rw [← hl, ← servedBy_eq, ← hu]
    cases gives <;> exact ⟨rfl, rfl, rfl⟩
  obtain ⟨hloop, hattn, hmember⟩ := htold
  unfold Settled
  rw [hl]
  refine ⟨?_, fun hne => ?_, fun hoff => ?_, fun hon hroom => ?_⟩
  · rw [hafter.service, ← hu]
    exact tellCompleted_service hids' gives peer tag won
  · refine hafter.raised _ (Raised.raise (s := tellCompleted gives peer tag won u) ?_ .handoverResult)
    rw [Raised, hattn]
    exact hclosed.served hne
  · obtain ⟨huq, hua⟩ := hbefore.silent (by rw [hstate]; exact onLoop_of_off hoff)
    obtain ⟨hcq, hca⟩ := hclosed.off (by rw [hus]; exact hoff)
    obtain ⟨htq, hta⟩ := hafter.silent (by
      change (tellCompleted gives peer tag won u).member.state ≠ _
      rw [hmember, hclosed.state, hus]
      exact onLoop_of_off hoff)
    refine ⟨?_, ?_⟩
    · rw [htq, ← huq, ← hcq, ← hloop]
      rfl
    · rw [hta, raiseResult_attn, hattn, hca, hua]
      rfl
  · have hbu := hbefore.room (by omega)
    obtain ⟨hua, humem, hulength⟩ := hbu
    obtain ⟨hcq, hca⟩ := hclosed.on (by rw [hus]; exact hon) (by omega)
    have hlength := foldl_insertFrame_length l u.loop.queue
    have htold : (raiseResult tag (if gives then .giver else .receiver) outcome
        (tellCompleted gives peer tag won u)).loop.queue = l.foldl (fun q r => insertFrame (servedFrame r) q) u.loop.queue := by
      rw [← hcq, ← hloop]
      rfl
    obtain ⟨hta, htmem, -⟩ := hafter.room (by rw [htold, hlength]; omega)
    rw [htold] at htmem
    refine ⟨?_, fun r hr => ?_, fun f hf => ?_, fun hno => ?_⟩
    · rw [hta, raiseResult_attn, hattn, hca, hua]
      rfl
    · exact htmem _ ((mem_foldl_insertFrame _ _).mpr (.inr ⟨r, hr, rfl⟩))
    · exact htmem _ ((mem_foldl_insertFrame _ _).mpr (.inl (humem f hf)))
    · have hqueues : u.loop.queue = b.loop.queue ∧ t.loop.queue = (raiseResult tag (if gives then .giver else .receiver)
          outcome (tellCompleted gives peer tag won u)).loop.queue := by
        obtain hoff | hno := hno
        · refine ⟨(hbefore.silent (by rw [hstate]; exact hoff)).1, (hafter.silent ?_).1⟩
          change (tellCompleted gives peer tag won u).member.state ≠ _
          rw [hmember, hclosed.state, hus]
          exact hoff
        · exact hquiet hno
      rw [hqueues.2, htold, hqueues.1]

/-! ### The four completions -/

theorem tag_of_inbound? {s : State} {tag : Nat} {e : InboundEntry} (h : s.inbound? tag = some e) : e.tag = tag := by
  have := List.find?_some h
  simpa using this

theorem releaseContainer_eq (c : Container) (h : HandoverFields) (s : State) :
    ∃ u, releaseContainer c h s = raiseResult c.tag .giver (.taken (c.state == .overdue)) (tellCompleted true h.peer c.tag
        (fun k => k.requester == h.peer && k.id == h.purpose && k.state == .won && k.kind != .pickup) u) ∧
      Signals 2 s u ∧
      (c.overdueAlarm = false → (saturates (s.custody.totals.released + c.value) = true → s.custody.saturated = true) →
        u.loop.queue = s.loop.queue) := by
  have hkind : (fun k : ServiceEntry => k.requester == h.peer && k.id == h.purpose && k.state == .won && k.kind != .pickup) =
      fun k => k.requester == h.peer && k.id == h.purpose && k.state == .won && !requesterGives k.kind := by
    funext k
    rw [requesterGives_eq]
    rfl
  rw [hkind]
  let t := removeContainer c.tag (changeTotal .released c.value s)
  let entry : ReleaseEntry := { tag := c.tag, receiver := h.peer, number := h.number, value := c.value }
  let w : State := { t with custody := { t.custody with releases := keepLast Config.releaseCap (t.custody.releases ++ [entry]) } }
  refine ⟨overdueCleared c w, rfl, ?_, fun hno hsteady => ?_⟩
  · have hbooks : Signals 0 (changeTotal .released c.value s) w := by
      refine .of_same ?_ ?_ ?_ ?_ 0 <;> rfl
    exact ((signals_changeTotal ..).trans hbooks).trans (signals_overdueCleared c w)
  · rw [overdueCleared, hno]
    exact changeTotal_steady (k := .released) hsteady

/-- The entries of the Service List that an entered pouch serves (R147). -/
def wonFrom (e : InboundEntry) (k : ServiceEntry) : Bool :=
  k.requester == e.giver && k.id == e.purpose && k.state == .won && k.kind == .pickup && e.cls == .pickupPouch

theorem completeEntry_eq (e : InboundEntry) (s : State) :
    ∃ u, completeEntry e s = raiseResult e.tag .receiver (.taken false) (tellCompleted false e.giver e.tag (wonFrom e) u) ∧
      Signals 1 s u ∧
      ((saturates (s.custody.totals.received + e.value) = true → s.custody.saturated = true) →
        u.loop.queue = s.loop.queue) := by
  have hwon : wonFrom e = fun k => k.requester == e.giver && k.id == e.purpose && k.state == .won &&
      (requesterGives k.kind && e.cls == .pickupPouch) := by
    funext k
    rw [requesterGives_eq, wonFrom, Bool.and_assoc]
  rw [hwon]
  let b := appendContainer (enteringContainer s.cfg e) s
  refine ⟨removeInbound e.tag (changeTotal .received e.value b), rfl, ?_, fun hsteady => ?_⟩
  · have hentered : Signals 0 s b := by
      refine .of_same ?_ ?_ ?_ ?_ 0 <;> rfl
    have hremoved : Signals 0 (changeTotal .received e.value b) (removeInbound e.tag (changeTotal .received e.value b)) := by
      refine .of_same ?_ ?_ ?_ ?_ 0 <;> rfl
    exact (hentered.trans (signals_changeTotal ..)).trans hremoved
  · exact changeTotal_steady (k := .received) (s := b) hsteady

section Completions

variable {s : State} (hids : (s.service.requests.map (·.id)).Nodup)

include hids

theorem settled_release {sender : Nat} {c : Container} {h : HandoverFields} {tag : Nat} (htag : c.tag = tag) :
    Settled s true h.peer tag (fun k => k.requester == h.peer && k.id == h.purpose && k.state == .won && k.kind != .pickup)
      s.loop.yielded.queue s.attn (.taken (c.state == .overdue))
      (c.overdueAlarm = false ∧ (saturates (s.custody.totals.released + c.value) = true → s.custody.saturated = true))
      (driveSlot (releaseContainer c h (s.heard sender false))) := by
  subst htag
  obtain ⟨u, heq, hbefore, hquiet⟩ := releaseContainer_eq c h (s.heard sender false)
  refine settled_of (b := s.heard sender false) (k := 0) hids rfl rfl hbefore ?_ le_rfl (fun hno => ⟨hquiet hno.1 hno.2, ?_⟩)
  · rw [heq]
    refine .of_same ?_ ?_ ?_ ?_ 0 <;> rfl
  · rw [heq]
    rfl

/-- An entry completes from a state with the service unit and the books of `s`. -/
theorem settled_entry {b : State} (hservice : b.service = s.service) (hstate : b.member.state = s.member.state)
    (hcustody : b.custody = s.custody) (e : InboundEntry) :
    Settled s false e.giver e.tag (wonFrom e) b.loop.queue b.attn (.taken false)
      (saturates (s.custody.totals.received + e.value) = true → s.custody.saturated = true) (completeEntry e b) := by
  obtain ⟨u, heq, hbefore, hquiet⟩ := completeEntry_eq e b
  rw [hcustody] at hquiet
  refine settled_of (b := b) (k := 0) hids hservice hstate hbefore ?_ (by omega) (fun hno => ⟨hquiet hno, ?_⟩)
  · rw [heq]
    exact .of_same rfl rfl rfl rfl 0
  · rw [heq]
    rfl

/-- An entry completes after which its UNRESOLVED alarm clears. -/
theorem settled_resolve {b t : State} (hservice : b.service = s.service) (hstate : b.member.state = s.member.state)
    (hcustody : b.custody = s.custody) (e : InboundEntry) (ht : Signals 0 (resolveEntry e b) t)
    (hqueue : t.loop.queue = (resolveEntry e b).loop.queue) :
    Settled s false e.giver e.tag (wonFrom e) b.loop.queue b.attn (.taken false)
      (e.state = .unsure ∧ (saturates (s.custody.totals.received + e.value) = true → s.custody.saturated = true)) t := by
  obtain ⟨u, heq, hbefore, hquiet⟩ := completeEntry_eq e b
  rw [hcustody] at hquiet
  have hcleared := signals_unresolvedCleared e (completeEntry e b)
  rw [heq] at hcleared
  have hresolved : resolveEntry e b = unresolvedCleared e (completeEntry e b) := rfl
  rw [hresolved, heq] at ht hqueue
  refine settled_of (b := b) (k := 1) hids hservice hstate hbefore (hcleared.trans ht) le_rfl
    (fun hno => ⟨hquiet hno.2, hqueue.trans ?_⟩)
  rw [unresolvedCleared, hno.1]
  rfl

end Completions

theorem Settled.mono {s t : State} {gives : Bool} {peer tag : Nat} {won : ServiceEntry → Bool} {q : List QueuedFrame}
    {a : Attention} {outcome : NoteOutcome} {p p' : Prop} (h : Settled s gives peer tag won q a outcome p t) (hp : p' → p) :
    Settled s gives peer tag won q a outcome p' t := by
  obtain ⟨hservice, hraised, hoff, hon⟩ := h
  refine ⟨hservice, hraised, hoff, fun hjoin hroom => ?_⟩
  obtain ⟨hattn, hserved, hkept, hqueue⟩ := hon hjoin hroom
  exact ⟨hattn, hserved, hkept, fun hno => hqueue (hno.imp_right hp)⟩

/-- The books and the service unit from which a clean frame is reported (R36, R41). -/
theorem exec_takenReport {s : State} {target : Nat} {p : TakenPayload} (h : OnLine s target (.taken p)) :
    ∃ b, exec (.takenReport true) s = .next (takenReported p.tag true b) ∧ b.loop = s.loop.ended ∧ b.attn = s.attn ∧
      b.service = s.service ∧ b.member = s.member ∧ b.custody = s.custody := by
  obtain ⟨q, hq, -, hpayload⟩ := h.line
  refine ⟨{ s with loop := s.loop.ended }, ?_, rfl, rfl, rfl, rfl, rfl⟩
  refine (event_running h.running _).trans ?_
  simp [sentOf, h.sending, isTaken, finishFrame, reportLine, State.lineFrame, hq, report, hpayload, startWait, isAnnounce,
    setScore, leaveLine, LoopInterface.ended]

/-- Settles O33: each completion tells the service unit by `tellCompleted`, with at most two ALARMs beside it. -/
theorem completedHandoversCloseRequests : Obligations.CompletedHandoversCloseRequests := by
  intro s hids withdraw settles steady won
  refine ⟨fun target p c h hhears hc hh ht hnumber hvalue => ?_, fun target p e hline he htaking => ?_,
    fun target p e hhears he hstate hnumber hanswer hvalue hroom => ?_, fun tag e hready hconf he hstate hroom => ?_⟩
  · have hreleased : (s.heard h.peer false).releasedBy h.peer p = some (c, h) := by
      have hc' : (s.heard h.peer false).container? p.tag = some c := hc
      have hfits : releases h.peer p c h = true := by
        simp [releases, ht, hvalue, hnumber]
      simp only [State.releasedBy, hc', hh, hfits, if_true]
    have hhandled : handle { sender := h.peer, target := target, payload := .taken p } (s.heard h.peer false) =
        acted (releaseContainer c h (s.heard h.peer false)) := by
      simp only [handle, hearTaken, hreleased]
    exact ⟨_, event_heard hhears rfl hhandled, settled_release hids (tag_of_container? hc)⟩
  · obtain ⟨b, hexec, hloop, hattn, hservice, hmember, hcustody⟩ := exec_takenReport hline
    have he' : b.inbound? p.tag = some e := by rw [State.inbound?, hcustody]; exact he
    have hreported : takenReported p.tag true b = completeEntry e b := by
      simp [takenReported, he', htaking]
    have hsettled := settled_entry hids hservice (congrArg _ hmember) hcustody e
    rw [hloop, hattn, tag_of_inbound? he] at hsettled
    exact ⟨_, by rw [hexec, hreported], hsettled⟩
  · have hanswers : answersEntry e.giver p e = true := by
      simp [answersEntry, hstate, hnumber]
    have hfound : ((s.heard e.giver false).inbound? p.tag).filter (answersEntry e.giver p) = some e := by
      have he' : (s.heard e.giver false).inbound? p.tag = some e := he
      rw [he', Option.filter_some, if_pos hanswers]
    have hplace : ¬(e.state = .unresolved ∧ (s.heard e.giver false).tableFull = true) := by
      rintro ⟨hun, hfull⟩
      exact absurd (hroom hun) (Nat.not_lt.mpr (of_decide_eq_true hfull))
    have hhandled : handle { sender := e.giver, target := target, payload := .answer p } (s.heard e.giver false) =
        acted (resolveEntry e (s.heard e.giver false)) := by
      simp only [handle, hearAnswer, hfound, hanswer, answerReleased, hvalue, ne_eq, not_true_eq_false, if_false, if_neg hplace]
    refine ⟨_, event_heard hhears rfl hhandled, ?_⟩
    have hsettled := settled_resolve (b := s.heard e.giver false) (t := driveSlot (resolveEntry e (s.heard e.giver false)))
      hids rfl rfl rfl e (by refine .of_same ?_ ?_ ?_ ?_ 0 <;> rfl) rfl
    rw [tag_of_inbound? he] at hsettled
    exact hsettled
  · have hplace : ¬(newSelect s).tableFull = true := fun hfull =>
      absurd hroom (Nat.not_lt.mpr (of_decide_eq_true hfull))
    have hexec : exec (.takeResolve (.fields tag)) s = .next (answer .ok [] (resolveEntry e (newSelect s))) := by
      refine (request_fields hready tag takeResolve).trans ?_
      have he' : (newSelect s).inbound? tag = some e := he
      have hconf' : (newSelect s).member.state ≠ .unconfigured := hconf
      rw [takeResolve, if_neg hconf', he']
      simp only [hstate, ne_eq, not_true_eq_false, if_false, if_neg hplace]
    refine ⟨_, hexec, ?_⟩
    have hsettled := settled_resolve (b := newSelect s) (t := answer .ok [] (resolveEntry e (newSelect s)))
      hids rfl rfl rfl e (by refine .of_same ?_ ?_ ?_ ?_ 0 <;> rfl) rfl
    rw [tag_of_inbound? he] at hsettled
    exact hsettled.mono False.elim

end Sys2Proof.Machine

/-! PROOFS. The reads: their bodies byte by byte, the pages and the codes (O53). -/

namespace Sys2Proof.Machine

/-! ### Fields in bytes (R178) -/

/-- A number in one byte, and so on, high byte first. -/
def one (n : Nat) : List Byte := [BitVec.ofNat 8 n]
def two (n : Nat) : List Byte := [BitVec.ofNat 8 (n / 256), BitVec.ofNat 8 n]
def three (n : Nat) : List Byte := BitVec.ofNat 8 (n / 65536) :: two n
def four (n : Nat) : List Byte := BitVec.ofNat 8 (n / 16777216) :: three n
def five (n : Nat) : List Byte := BitVec.ofNat 8 (n / 4294967296) :: four n
def six (v : Int) : List Byte :=
  BitVec.ofNat 8 ((v % 281474976710656).toNat / 1099511627776) :: five (v % 281474976710656).toNat

/-- A yes or no. -/
def mark (b : Bool) : List Byte := if b = true then [1] else [0]

/-- Flags in one byte, the first in bit 0. -/
def bits (l : List Bool) : List Byte := one (l.mapIdx (fun i b => if b = true then 2 ^ i else 0)).sum

/-- The pairs of a composition behind their number. -/
def comp (k : Composition) : List Byte := one k.length ++ k.flatMap (fun x => one x.1 ++ two x.2)

theorem numBytes_one : numBytes 1 = one := by
  funext n
  simp [numBytes, one]

theorem numBytes_two : numBytes 2 = two := by
  funext n
  simp [numBytes, two]

theorem numBytes_three : numBytes 3 = three := by
  funext n
  simp [numBytes, three, two]

theorem numBytes_four : numBytes 4 = four := by
  funext n
  simp [numBytes, four, three, two]

theorem tagBytes_eq : tagBytes = four := numBytes_four

theorem valueBytes_eq : valueBytes = five := by
  funext n
  simp [valueBytes, numBytes, five, four, three, two]

theorem signedBytes_eq : signedBytes = six := by
  funext v
  simp [signedBytes, numBytes, six, five, four, three, two]

theorem boolByte_eq : boolByte = mark := by
  funext b
  cases b <;> rfl

theorem compBytes_eq : compBytes = comp := by
  funext c
  simp only [compBytes, comp, numBytes_one, numBytes_two]

theorem remainingBytes_eq (s : State) : remainingBytes s = fun w => four ((w - s.clock + 99) / 100) := by
  funext w
  rw [remainingBytes, numBytes_four]
  rfl

theorem ageBytes_eq : ageBytes = fun n => four (n / 100) := by
  funext n
  rw [ageBytes, numBytes_four]
  rfl

theorem serialBytes_eq : serialBytes = fun x => four x.toNat := by
  funext x
  rw [serialBytes, numBytes_four]

theorem slotListBytes_eq : slotListBytes = fun l => one l.length ++ l.flatMap one := by
  funext l
  rw [slotListBytes, numBytes_one]

section Fields

/-- The fields whose bytes the bodies are made of. -/
theorem custodyEntry_eq (c : Container) : custodyEntry c = four c.tag ++ one (classCode c.cls) ++ one (containerStateCode c.state) ++
    five c.value ++ mark c.disputed ++ four (parentTag c) := by
  simp only [custodyEntry, tagBytes_eq, valueBytes_eq, boolByte_eq, numBytes_one]

theorem custodyEntry_length (c : Container) : (custodyEntry c).length = 16 := by
  rw [custodyEntry_eq]
  cases c.disputed <;> rfl

theorem inboundEntryBytes_eq (s : State) (e : InboundEntry) : inboundEntryBytes s e = one e.giver ++ two e.number ++ four e.tag ++
    one (classCode e.cls) ++ one (inboundStateCode e.state) ++ five e.value ++ five (e.counted.getD 0) ++
    one ((if e.counted.isSome = true then 1 else 0) + (if e.queryPending = true then 2 else 0)) ++ one e.purpose ++
    one e.origin ++ four ((e.lapse - s.clock + 99) / 100) ++
    (match e.comp with
      | none => one 0
      | some k => comp k) := by
  have hflags : e.counted.isSome.toNat + 2 * e.queryPending.toNat =
      (if e.counted.isSome = true then 1 else 0) + (if e.queryPending = true then 2 else 0) := by
    cases e.counted.isSome <;> cases e.queryPending <;> rfl
  simp only [inboundEntryBytes, tagBytes_eq, valueBytes_eq, numBytes_one, numBytes_two, remainingBytes_eq, hflags, optCompBytes,
    compBytes_eq, optNat]
  rfl

theorem releaseBytes_eq (r : ReleaseEntry) : releaseBytes r = four r.tag ++ one r.receiver ++ two r.number ++ five r.value := by
  simp only [releaseBytes, tagBytes_eq, valueBytes_eq, numBytes_one, numBytes_two]

theorem dispatchBytes_eq (d : DispatchRecord) :
    dispatchBytes d = four d.tag ++ five d.value ++ one d.count ++ four d.check ++ two d.window := by
  simp only [dispatchBytes, tagBytes_eq, valueBytes_eq, numBytes_one, numBytes_two, numBytes_four]

theorem windowBody_eq (s : State) : windowBody s = (match s.safe.window with
    | none => one 0 ++ two s.safe.windowNumber ++ one 0
    | some w => one 1 ++ two s.safe.windowNumber ++ one 1 ++ four ((s.clock - w.opened) / 100) ++
        four ((w.ends - s.clock + 99) / 100)) := by
  cases hw : s.safe.window with
  | none =>
    simp only [windowBody, hw, numBytes_two]
    rfl
  | some w =>
    simp only [windowBody, hw, numBytes_two, partBytes, windowBytes, ageBytes_eq, remainingBytes_eq]
    simp [boolByte_eq, mark, one]

theorem totalsBytes_eq (t : Totals) : totalsBytes t = six t.opening ++ six t.intake ++ six t.payout ++ six t.received ++
    six t.released ++ six t.admitted ++ six t.dispatched ++ six t.difference := by
  simp only [totalsBytes, signedBytes_eq]

theorem totalsBody_eq (s : State) :
    totalsBody s = totalsBytes s.custody.totals ++ six s.accountable ++ mark s.custody.saturated := by
  simp only [totalsBody, signedBytes_eq, boolByte_eq]

theorem dayTotalsBody_eq (s : State) : dayTotalsBody s = two s.custody.day.day ++ totalsBytes s.custody.day.totals ++
    six s.custody.day.accountable ++ mark s.custody.day.saturated := by
  simp only [dayTotalsBody, signedBytes_eq, boolByte_eq, numBytes_two]

end Fields

/-! ### Attention, station, loop and peers -/

theorem alarmByte_eq (s : State) : one s.alarmByte =
    bits [s.alarmSet .duplicateStation, s.alarmSet .overdue, s.alarmSet .unresolved, s.alarmSet .totalsSaturated,
      s.alarmSet .positionLimit, s.alarmSet .doorHeld, s.alarmSet .doorUnexpected] := by
  have hbit (b : Bool) (i : Nat) : b.toNat * 2 ^ i = if b = true then 2 ^ i else 0 := by
    cases b <;> simp
  simp [State.alarmByte, bits, alarmOrder, alarmCode, hbit, List.mapIdx_cons]

theorem noteOutcomeBytes_eq (o : NoteOutcome) : noteOutcomeBytes o = (match o with
    | .taken late => one 1 ++ one 0 ++ mark late
    | .refused r => one 2 ++ one (refuseCode r) ++ one 0
    | .noAnswer => one 3 ++ one 0 ++ one 0
    | .recalled => one 4 ++ one 0 ++ one 0
    | .declined => one 5 ++ one 0 ++ one 0
    | .outbound => one 6 ++ one 0 ++ one 0) := by
  cases o <;> simp [noteOutcomeBytes, boolByte_eq, numBytes_one, one]

theorem noteBytes_eq : noteBytes = fun n => four n.tag ++ one (sideCode n.side) ++ noteOutcomeBytes n.outcome := by
  funext n
  simp only [noteBytes, tagBytes_eq, numBytes_one]

theorem allowanceBytes_eq (s : State) : four (allowanceLeft s) = (match s.door.allowanceEnds with
    | none => four 0
    | some w => four ((w - s.clock + 99) / 100)) := by
  unfold allowanceLeft
  cases s.door.allowanceEnds <;> rfl

theorem attentionBody_eq (s : State) : attentionBody s = four s.attn.reasons.toNat ++ one s.alarmByte ++ one s.overdueCount ++
    one s.unresolvedCount ++ partBytes s.attn.note noteBytes ++ four s.attn.mask.toNat ++ mark s.door.isOpen ++
    four (allowanceLeft s) := by
  simp only [attentionBody, numBytes_four, numBytes_one, boolByte_eq]

/-- The peers of a state are counted over the station numbers. -/
theorem peersIn_eq (s : State) (st : PeerState) :
    s.peersIn st = ((List.range' 1 56).filter (fun n => (s.peer n).state = st)).length := by
  have hpeers : s.member.peers.toList = (List.range' 1 56).map s.peer := by
    refine List.ext_getElem (by simp) fun i h1 h2 => ?_
    have hi : i < 56 := by simpa using h1
    simp [State.peer, hi]
  rw [State.peersIn, hpeers, List.filter_map, List.length_map]
  congr 1

theorem roleByte_eq (r : Option Role) : roleByte r = (match r with
    | none => one 3
    | some r => one (roleCode r)) := by
  cases r with
  | none => rfl
  | some r => simp [roleByte, numBytes_one]

theorem duplicateBytes_eq (s : State) : duplicateBytes s = fun d => one (duplicateCauseCode d.cause) ++
    four ((s.clock - d.time) / 100) ++ partBytes d.serial (fun x => four x.toNat) := by
  funext d
  simp only [duplicateBytes, numBytes_one, ageBytes_eq, serialBytes_eq]

theorem announcePart_eq (s : State) : partBytes (during (s.member.state == .announcing) s) announceBytes =
    (if s.member.state = .announcing then
      one 1 ++ mark s.loop.announceReady ++ partBytes s.member.announceWaitEnds (fun w => four ((w - s.clock + 99) / 100))
    else one 0) := by
  by_cases h : s.member.state = .announcing
  · simp [h, during, partBytes, announceBytes, boolByte_eq, remainingBytes_eq, one]
  · simp [h, during, partBytes, one]

theorem rejoinPart_eq (s : State) : partBytes s.rejoinAt (remainingBytes s) =
    (if s.member.state = .withdrawn ∧ s.cfg.autoRejoin = true then
      partBytes s.member.withdrawnAt (fun w => four ((w + 500 - s.clock + 99) / 100)) else one 0) := by
  by_cases h : s.member.state = .withdrawn ∧ s.cfg.autoRejoin = true
  · rw [if_pos h, State.rejoinAt, h.1, h.2]
    cases s.member.withdrawnAt <;> simp [partBytes, remainingBytes_eq]
  · have hnone : s.rejoinAt = none := by
      refine if_neg ?_
      simpa using h
    rw [if_neg h, hnone]
    rfl

theorem stationBody_eq (s : State) : stationBody s = one (stationStateCode s.member.state) ++ partBytes s.cfg.number one ++
    roleByte s.unit.role ++ four s.unit.serial.toNat ++ one s.member.mInForce ++
    partBytes s.member.listeningEnds (remainingBytes s) ++ partBytes (during (s.member.state == .announcing) s) announceBytes ++
    partBytes s.rejoinAt (remainingBytes s) ++ partBytes s.member.duplicate (duplicateBytes s) ++ one (s.peersIn .live) ++
    one (s.peersIn .quiet) ++ one (s.peersIn .gone) := by
  simp only [stationBody, numBytes_one, serialBytes_eq]

theorem queuedBytes_eq : queuedBytes = fun f => [kindCharacter f.payload] ++ one f.target ++ mark f.port ++ mark f.onLine := by
  funext f
  simp only [queuedBytes, numBytes_one, boolByte_eq]

theorem readyByte_eq (l : LoopInterface) : readyByte l = bits [l.beaconReady, l.announceReady, l.conflictReady.isSome] := by
  rw [readyByte, numBytes_one]
  cases l.beaconReady <;> cases l.announceReady <;> cases l.conflictReady.isSome <;> rfl

theorem loopBody_eq (s : State) : loopBody s = one (stationStateCode s.member.state) ++ one s.unit.rate.toNat ++
    one s.loop.faultScore ++ mark s.cfg.autoRejoin ++ one s.loop.queue.length ++ one (s.loop.queue.filter (·.port)).length ++
    s.loop.queue.flatMap queuedBytes ++ bits [s.loop.beaconReady, s.loop.announceReady, s.loop.conflictReady.isSome] := by
  simp only [loopBody, numBytes_one, boolByte_eq, readyByte_eq, portFrames]

theorem summaryBytes_eq (p : Option PeerSummary) : summaryBytes p = (match p with
    | none => four 0
    | some p => bits [p.flags.pickupNeed, p.flags.topupNeed, p.flags.changeNeed, p.flags.windowOpen, p.flags.alarmActive,
        p.flags.countBusy] ++ one p.custodyCount ++ one p.outbound ++ one p.openRequests) := by
  cases p with
  | none => rfl
  | some p =>
    have hflags : one (beaconFlagByte p.flags) = bits [p.flags.pickupNeed, p.flags.topupNeed, p.flags.changeNeed,
        p.flags.windowOpen, p.flags.alarmActive, p.flags.countBusy] := by
      obtain ⟨a, b, c, d, e, f⟩ := p.flags
      cases a <;> cases b <;> cases c <;> cases d <;> cases e <;> cases f <;> rfl
    simp only [summaryBytes, numBytes_one, hflags]

theorem optRoleByte_eq (r : Option Role) : optRoleByte r = one (match r with
    | none => 0
    | some r => roleCode r) := by
  cases r with
  | none => rfl
  | some r => simp only [optRoleByte, numBytes_one]

theorem alarmOptCode_eq (o : Option AlarmKind) : alarmOptCode o = (match o with
    | none => 0
    | some k => alarmCode k) := by
  cases o <;> rfl

theorem peerPresence_eq (e : PeerEntry) :
    one (peerPresence e) = bits [e.role.isSome, e.summary.isSome, e.serial.isSome, e.alarm.isSome] := by
  rw [peerPresence]
  cases e.role.isSome <;> cases e.summary.isSome <;> cases e.serial.isSome <;> cases e.alarm.isSome <;> rfl

theorem peerBytes_eq (n : Nat) (e : PeerEntry) : peerBytes n e = one n ++ one (peerStateCode e.state) ++
    bits [e.role.isSome, e.summary.isSome, e.serial.isSome, e.alarm.isSome] ++ optRoleByte e.role ++ one (e.m.getD 0) ++
    summaryBytes e.summary ++ four (e.serial.getD 0).toNat ++ one (alarmOptCode e.alarm) ++ two e.silence := by
  simp only [peerBytes, numBytes_one, numBytes_two, serialBytes_eq, optNat, peerPresence_eq]

theorem peerBytes_length (n : Nat) (e : PeerEntry) : (peerBytes n e).length = 16 := by
  rw [peerBytes_eq, optRoleByte_eq, summaryBytes_eq]
  cases e.summary <;> rfl

/-! ### Containers and the count -/

theorem lastResultBytes_eq (r : LastResult) : lastResultBytes r = (match r with
    | .none => one 0 ++ one 0 ++ one 0
    | .taken => one 1 ++ one 0 ++ one 0
    | .refused r => one 2 ++ one (refuseCode r) ++ one 0
    | .noAnswer => one 3 ++ one 0 ++ one 0
    | .recalled => one 4 ++ one 0 ++ one 0
    | .declined => one 5 ++ one 0 ++ one 0) := by
  cases r <;> simp [lastResultBytes, numBytes_one, one]

theorem countedBytes_eq : countedBytes = fun g => five g.value ++ partBytes g.comp comp ++ three g.suspect ++ six g.variance ++
    one (varianceCode g.cls) := by
  funext g
  simp only [countedBytes, valueBytes_eq, compBytes_eq, numBytes_three, signedBytes_eq, numBytes_one]

theorem handoverBytes_eq (s : State) (c : Container) : handoverBytes s c = fun h => one h.peer ++ two h.number ++
    (if c.state = .overdue then four 0 else four ((h.deadline - s.clock + 99) / 100)) ++ one h.purpose := by
  funext h
  simp only [handoverBytes, numBytes_one, numBytes_two, deadlineBytes, numBytes_four, remainingBytes_eq]

theorem deferredBytes_eq : deferredBytes = fun d => one d.peer ++ one d.purpose := by
  funext d
  simp only [deferredBytes, numBytes_one]

theorem nestingBytes_eq : nestingBytes = fun n => four n.parent ++ partBytes n.next four := by
  funext n
  simp only [nestingBytes, tagBytes_eq]

theorem sackBytes_eq : sackBytes = fun k => one (sackStateCode k.state) ++ partBytes k.first four ++ one k.count ++
    partBytes k.check four := by
  funext k
  simp only [sackBytes, numBytes_one, tagBytes_eq, numBytes_four]

theorem containerBytes_eq (s : State) (c : Container) : containerBytes s c = four c.tag ++ one (classCode c.cls) ++
    one (containerStateCode c.state) ++ one c.origin ++ five c.value ++ mark c.disputed ++ one c.handovers ++
    lastResultBytes c.lastResult ++ partBytes c.comp comp ++ partBytes c.counted countedBytes ++
    partBytes c.handover (handoverBytes s c) ++ partBytes c.deferred deferredBytes ++ partBytes c.nesting nestingBytes ++
    partBytes c.sack sackBytes := by
  simp only [containerBytes, tagBytes_eq, valueBytes_eq, boolByte_eq, numBytes_one, compBytes_eq]

theorem targetPart_eq (m : CountMode) (tag : Nat) :
    targetPart m tag = if m = .intake ∨ m = .payout then none else some tag := by
  cases m <;> rfl

theorem jobPart_eq (o : Option CountJob) : jobPart o = (match o with
    | none => one 0 ++ one 0 ++ one 0
    | some j => one 1 ++ one (modeCode j.mode) ++
        partBytes (if j.mode = .intake ∨ j.mode = .payout then none else some j.tag) four ++ partBytes j.expected three) := by
  cases o with
  | none => rfl
  | some j =>
    simp only [jobPart, jobBytes, numBytes_one, targetPart_eq, tagBytes_eq, numBytes_three]
    rfl

theorem outcomeBytes_eq (o : CountOutcome) : outcomeBytes o = (match o with
    | .opened => one 0 ++ one 0
    | .completed => one 1 ++ one 0
    | .damaged => one 2 ++ one 0
    | .aborted .request => one 3 ++ one 1
    | .aborted .noRecords => one 3 ++ one 2) := by
  cases o with
  | aborted r => cases r <;> rfl
  | _ => rfl

theorem batchPartBytes_eq : batchPartBytes = fun b => one (endCauseCode b.cause) ++ mark b.incomplete ++ two b.damage.toNat ++
    one b.taken ++ one b.dropped ++ one b.lost ++ partBytes b.endFigure two := by
  funext b
  simp only [batchPartBytes, numBytes_one, numBytes_two, boolByte_eq]

theorem tallyBytes_eq : tallyBytes = fun t =>
    (List.range 12).flatMap (fun d => two (atSlot t.good d) ++ two (atSlot t.suspect d)) ++ three t.piecesGood ++
    three t.piecesSusp ++ five t.countedValue ++ five t.suspectValue ++ partBytes t.mismatch mark ++
    one t.straps.length ++ t.straps.flatMap (fun f => one f.slot ++ two f.straps ++ two f.loose) := by
  have hstrap : strapBytes = fun f => one f.slot ++ two f.straps ++ two f.loose := by
    funext f
    simp only [strapBytes, numBytes_one, numBytes_two]
  funext t
  simp only [tallyBytes, numBytes_one, numBytes_two, numBytes_three, valueBytes_eq, boolByte_eq, hstrap]

theorem reconBytes_eq : reconBytes = fun q => five q.declared ++ six q.variance ++ five q.tolerance ++ one (varianceCode q.cls) ++
    partBytes q.mismatchSlots slotListBytes := by
  funext q
  simp only [reconBytes, valueBytes_eq, signedBytes_eq, numBytes_one]

theorem positionPartBytes_eq : positionPartBytes = fun q => comp q.clamped ++ six q.value := by
  funext q
  simp only [positionPartBytes, compBytes_eq, signedBytes_eq]

theorem resultBytes_eq : resultBytes = fun r => one (modeCode r.mode) ++
    partBytes (if r.mode = .intake ∨ r.mode = .payout then none else some r.tag) four ++ two r.batchNumber ++
    outcomeBytes r.outcome ++ partBytes r.batch batchPartBytes ++ partBytes r.tally tallyBytes ++
    partBytes r.recon reconBytes ++ partBytes r.position positionPartBytes := by
  funext r
  simp only [resultBytes, numBytes_one, numBytes_two, targetPart_eq, tagBytes_eq]

theorem countBody_eq (s : State) : countBody s = one (countStateCode s.count.state) ++ jobPart s.count.job ++
    two s.count.batchNumber ++ one s.count.fifo.length ++ one s.count.batch.taken ++ one s.count.batch.dropped ++
    one s.count.batch.lost ++ three s.count.batch.good ++ two s.count.batch.damage.toNat ++
    partBytes s.count.noRecordEnds (remainingBytes s) ++ two s.count.stray ++ two s.cfg.threshold ++ one s.cfg.countLine.baud ++
    one s.cfg.countLine.parity ++ one s.cfg.countLine.stop ++ partBytes s.count.result resultBytes := by
  simp only [countBody, numBytes_one, numBytes_two, numBytes_three]

/-! ### Position, service and sacks -/

theorem floatBytes_eq (f : FloatState) : floatBytes f = comp f.pickup ++ five f.pickupValue ++ comp f.uncapped ++
    five f.uncappedValue ++ comp f.topup ++ five f.topupValue ++ slotListBytes f.low ++ mark f.urgent ++ mark f.pickupNeed ++
    mark f.topupNeed ++ mark f.changeNeed ++ mark f.capped := by
  simp only [floatBytes, compBytes_eq, valueBytes_eq, boolByte_eq]

theorem autoRaiseByte_eq (cfg : Settings) : autoRaiseByte cfg = bits [cfg.autoPickup, cfg.autoTopup, cfg.autoChange] := by
  rw [autoRaiseByte, numBytes_one]
  cases cfg.autoPickup <;> cases cfg.autoTopup <;> cases cfg.autoChange <;> rfl

theorem positionBody_eq (s : State) : positionBody s = (List.range 12).flatMap (fun d => two (s.pieces d) ++
      five (s.pieces d * s.cfg.face d) ++ two (s.cfg.floatSlot d).target ++ two (s.cfg.floatSlot d).pickup ++
      two (s.cfg.floatSlot d).change) ++
    five ((List.range 12).map (fun d => s.pieces d * s.cfg.face d)).sum ++ five s.cfg.pickupTrigger ++ five s.cfg.topupCap ++
    bits [s.cfg.autoPickup, s.cfg.autoTopup, s.cfg.autoChange] ++ floatBytes s.position.float := by
  have hslot : positionSlot s = fun d => two (s.pieces d) ++ five (s.pieces d * s.cfg.face d) ++ two (s.cfg.floatSlot d).target ++
      two (s.cfg.floatSlot d).pickup ++ two (s.cfg.floatSlot d).change := by
    funext d
    simp only [positionSlot, numBytes_two, valueBytes_eq]
  simp only [positionBody, valueBytes_eq, autoRaiseByte_eq, hslot, State.positionValue]

theorem requestBytes_eq (s : State) (r : OwnRequest) : requestBytes s r = one r.id ++ one (needCode r.kind) ++
    one (urgencyCode r.urgency) ++
    (match r.phase with | .opened => one 0 | .claimed _ _ => one 1 | .serving _ _ _ => one 2) ++ mark r.reopened ++
    five r.value ++ four ((s.clock - r.raisedAt) / 100) ++ four (r.openAge / 100) ++
    (match r.phase with
      | .opened => one 0 ++ four 0 ++ four 0
      | .claimed n a => one n ++ four (a / 100) ++ four 0
      | .serving n a g => one n ++ four (a / 100) ++ four g) ++
    comp r.comp := by
  simp only [requestBytes, numBytes_one, boolByte_eq, valueBytes_eq, ageBytes_eq, tagBytes_eq, compBytes_eq, List.append_assoc]
  cases r.phase <;> simp [phaseCode, claimantOf, optNat, phaseClaimAge, phaseTag]

theorem comp_length (k : Composition) : (comp k).length = 1 + 3 * k.length := by
  rw [← compBytes_eq, compBytes_length]

theorem requestBytes_length (s : State) (r : OwnRequest) : (requestBytes s r).length = 28 + 3 * r.comp.length := by
  have hcomp := compBytes_length r.comp
  simp only [requestBytes, List.length_append, numBytes_length, boolByte, valueBytes, ageBytes, tagBytes, hcomp]
  omega

theorem serviceFlags_eq (s : State) (e : ServiceEntry) :
    one (serviceFlags s e) = bits [e.urgency == .urgent, e.reopened, s.eligible e] := by
  rw [serviceFlags]
  cases e.urgency <;> cases e.reopened <;> cases s.eligible e <;> rfl

/-- The time until a LISTED backup entry becomes eligible; 0 for every other (R148). -/
theorem backupRemaining_eq (s : State) (e : ServiceEntry) : four (backupRemaining s e) =
    (if e.state = .listed ∧ ¬ (s.cfg.cover.primaryLow ≤ e.requester ∧ e.requester ≤ s.cfg.cover.primaryHigh) ∧
        s.cfg.cover.backupLow ≤ e.requester ∧ e.requester ≤ s.cfg.cover.backupHigh
      then four ((e.heard + s.cfg.cover.delay * 100 - s.clock + 99) / 100) else four 0) := by
  have hcond : (e.state == .listed && !inPrimary s.cfg.cover e.requester && inBackup s.cfg.cover e.requester) = true ↔
      e.state = .listed ∧ ¬ (s.cfg.cover.primaryLow ≤ e.requester ∧ e.requester ≤ s.cfg.cover.primaryHigh) ∧
        s.cfg.cover.backupLow ≤ e.requester ∧ e.requester ≤ s.cfg.cover.backupHigh := by
    simp only [Bool.and_eq_true, beq_iff_eq, Bool.not_eq_true', ← Bool.not_eq_true, inPrimary_iff, inBackup_iff, and_assoc]
  rw [backupRemaining]
  simp only [hcond]
  split <;> rfl

theorem serviceBytes_eq (s : State) (e : ServiceEntry) : serviceBytes s e = one e.requester ++ one e.id ++ one (needCode e.kind) ++
    bits [e.urgency == .urgent, e.reopened, s.eligible e] ++ one (serviceStateCode e.state) ++ five e.value ++
    four ((s.clock - e.heard) / 100) ++ four (backupRemaining s e) ++ comp e.comp := by
  simp only [serviceBytes, numBytes_one, serviceFlags_eq, valueBytes_eq, ageBytes_eq, numBytes_four, compBytes_eq]

theorem serviceBytes_length (s : State) (e : ServiceEntry) : (serviceBytes s e).length = 19 + 3 * e.comp.length := by
  have hcomp := compBytes_length e.comp
  simp only [serviceBytes, List.length_append, numBytes_length, valueBytes, ageBytes, hcomp]
  omega

theorem sackBody_eq (s : State) (c : Container) (k : SackFields) : sackBody s c k = one (sackStateCode k.state) ++ one k.count ++
    five c.value ++ partBytes k.check four ++
    (s.members k).flatMap (fun m => four m.tag ++ five m.value ++ mark m.counted.isSome) := by
  have hmember : memberBytes = fun m => four m.tag ++ five m.value ++ mark m.counted.isSome := by
    funext m
    simp only [memberBytes, tagBytes_eq, valueBytes_eq, boolByte_eq]
  simp only [sackBody, numBytes_one, valueBytes_eq, numBytes_four, hmember]

/-! ### Pages (R180) -/

/-- A page is cut where the next whole entry does not fit. -/
theorem fitEntries_eq_take (room : Nat) (l : List (List Byte)) : ∃ k, k ≤ l.length ∧ fitEntries room l = l.take k ∧
    (l.take k).flatten.length ≤ room ∧ (k < l.length → room < (l.take (k + 1)).flatten.length) := by
  induction l generalizing room with
  | nil => exact ⟨0, le_rfl, by cases room <;> rfl, Nat.zero_le _, fun h => absurd h (by simp)⟩
  | cons e l ih =>
    by_cases hfits : e.length ≤ room
    · obtain ⟨k, hk, htake, hroom, hnext⟩ := ih (room - e.length)
      refine ⟨k + 1, Nat.succ_le_succ hk, ?_, ?_, fun hlt => ?_⟩
      · simp [fitEntries, hfits, htake]
      · simp only [List.take_succ_cons, List.flatten_cons, List.length_append]
        omega
      · have := hnext (Nat.lt_of_succ_lt_succ hlt)
        simp only [List.take_succ_cons, List.flatten_cons, List.length_append] at this ⊢
        omega
    · refine ⟨0, Nat.zero_le _, by simp [fitEntries, hfits], Nat.zero_le _, fun _ => ?_⟩
      simp only [Nat.zero_add, List.take_succ_cons, List.take_zero, List.flatten_cons, List.flatten_nil, List.append_nil]
      omega

/-- The body of a page: the largest number of whole entries that fit. -/
def Paged (between : List Byte) (entries : List (List Byte)) (first : Nat) (body : List Byte) : Prop :=
  ∃ k, k ≤ entries.length - first ∧
    body = one entries.length ++ one first ++ one k ++ between ++ ((entries.drop first).take k).flatten ∧
    3 + between.length + ((entries.drop first).take k).flatten.length ≤ 255 ∧
    (k < entries.length - first → 255 < 3 + between.length + ((entries.drop first).take (k + 1)).flatten.length)

theorem paged_page {between : List Byte} (h : between.length ≤ 252) (entries : List (List Byte)) (first : Nat) :
    Paged between entries first (page between entries first) := by
  obtain ⟨k, hk, htake, hroom, hnext⟩ := fitEntries_eq_take (255 - 3 - between.length) (entries.drop first)
  rw [List.length_drop] at hk hnext
  refine ⟨k, hk, ?_, by omega, fun hlt => by have := hnext hlt; omega⟩
  have hlength : ((entries.drop first).take k).length = k := by
    rw [List.length_take, List.length_drop]
    omega
  simp only [page, Config.bodyMax, htake, hlength, numBytes_one]

/-- The entries of a page of which each has the same length. -/
theorem fitEntries_fixed {n : Nat} (hn : 0 < n) {l : List (List Byte)} (h : ∀ e ∈ l, e.length = n) (room : Nat) :
    fitEntries room l = l.take (room / n) := by
  induction l generalizing room with
  | nil => cases room <;> simp [fitEntries]
  | cons e l ih =>
    have he := h e (by simp)
    by_cases hfits : n ≤ room
    · have hdiv : room / n = (room - n) / n + 1 := Nat.div_eq_sub_div hn hfits
      simp [fitEntries, he, hfits, hdiv, ih (fun d hd => h d (by simp [hd]))]
    · simp [fitEntries, he, hfits, Nat.div_eq_of_lt (Nat.lt_of_not_le hfits)]

theorem custodyBody_eq (first : Nat) (s : State) : custodyBody first s =
    one s.custody.table.length ++ one first ++ one ((s.custody.table.drop first).take 15).length ++
      ((s.custody.table.drop first).take 15).flatMap custodyEntry := by
  have hfixed : ∀ e ∈ (s.custody.table.map custodyEntry).drop first, e.length = 16 := by
    intro e he
    obtain ⟨c, -, rfl⟩ := List.mem_map.mp (List.mem_of_mem_drop he)
    exact custodyEntry_length c
  have hfit : fitEntries (255 - 3 - 0) ((s.custody.table.map custodyEntry).drop first) =
      ((s.custody.table.drop first).take 15).map custodyEntry := by
    rw [fitEntries_fixed (by decide) hfixed, ← List.map_drop, ← List.map_take]
  simp only [custodyBody, page, Config.bodyMax, List.length_nil, hfit, List.length_map, numBytes_one, List.append_nil,
    List.flatMap_def]

theorem custodyBody_length (first : Nat) (s : State) :
    (custodyBody first s).length = 3 + 16 * min 15 (s.custody.table.length - first) := by
  have hentries (l : List Container) : (l.flatMap custodyEntry).length = 16 * l.length := by
    induction l with
    | nil => rfl
    | cons c l ih =>
      rw [List.flatMap_cons, List.length_append, ih, custodyEntry_length, List.length_cons]
      omega
  rw [custodyBody_eq, List.length_append, hentries, List.length_take, List.length_drop]
  rfl

/-! ### The commands -/

theorem readAnswer_newSelect {body : State → List Byte} {s : State} (h : body (newSelect s) = body s) :
    readAnswer body (newSelect s) = answered .ok (body s) s := by
  rw [readAnswer, h]
  rfl

/-- A read of the whole page or body. -/
theorem request_read {α : Type} {s : State} (hready : Ready s) (a : α) {body : α → State → List Byte}
    (h : body a (newSelect s) = body a s) :
    request (.fields a) s (fun a => readAnswer (body a)) = .next (answered .ok (body a s) s) := by
  rw [request_fields hready a (fun a => readAnswer (body a)), readAnswer_newSelect h]

theorem sackBody_newSelect (s : State) (c : Container) (k : SackFields) : sackBody (newSelect s) c k = sackBody s c k := by
  simp only [sackBody, members_congr (s := s) (t := newSelect s) rfl]

/-- READ_SACK by the table and the role (R164). -/
theorem exec_readSack {s : State} (hready : Ready s) (n : Nat) :
    exec (.readSack (.fields n)) s = .next (readSack n (newSelect s)) :=
  request_fields hready n readSack

theorem readSack_unknown {s : State} {n : Nat} (hc : s.container? n = none) :
    readSack n s = refuse (noSackStatus s.unit.role) s := by
  simp [readSack, hc]

theorem readSack_other {s : State} {n : Nat} {c : Container} (hc : s.container? n = some c) (hcls : c.cls ≠ .courierSack) :
    readSack n s = refuse .classNotAllowed s := by
  simp [readSack, hc, hcls]

theorem readSack_sack {s : State} {n : Nat} {c : Container} {k : SackFields} (hc : s.container? n = some c)
    (hcls : c.cls = .courierSack) (hk : c.sack = some k) : readSack n s = answer .ok (sackBody s c k) s := by
  simp [readSack, hc, hcls, hk]

theorem exec_readContainer {s : State} (hready : Ready s) (n : Nat) :
    exec (.readContainer (.fields n)) s = .next (readContainer n (newSelect s)) :=
  request_fields hready n readContainer

theorem stationBody_newSelect (s : State) : stationBody (newSelect s) = stationBody s := by
  rw [stationBody_eq, stationBody_eq, announcePart_eq, announcePart_eq]
  rfl

/-- Settles O53: the equation of each body, the pages by `paged_page`, and each command by the request rule. -/
theorem readsAnswerTheirBodies : Obligations.ReadsAnswerTheirBodies := by
  refine ⟨fun n s hready => ?_, fun first s => ?_, fun s => ?_, fun first s => ?_, fun s => ?_, ?_⟩
  · refine ⟨request_read hready () (body := fun _ => stationBody) (stationBody_newSelect s), request_read hready () (body := fun _ => loopBody) rfl,
      request_read hready n (body := peersBody) rfl, request_read hready n (body := custodyBody) rfl,
      request_read hready n (body := inboundBody) rfl, request_read hready n (body := releasesBody) rfl,
      request_read hready () (body := fun _ => totalsBody) rfl, request_read hready () (body := fun _ => dayTotalsBody) rfl,
      request_read hready () (body := fun _ => countBody) rfl, request_read hready () (body := fun _ => positionBody) rfl,
      request_read hready n (body := requestsBody) rfl, request_read hready n (body := serviceBody) rfl,
      request_read hready () (body := fun _ => windowBody) rfl, request_read hready n (body := dispatchesBody) rfl,
      fun hnone => ?_, fun c hc => ?_, fun c k hc hcls hk => ?_, fun c hc hcls => ?_⟩
    · have hsack := (exec_readSack hready n).trans (congrArg _ (readSack_unknown (s := newSelect s) hnone))
      refine ⟨?_, fun hrole => ?_, fun hrole => ?_⟩
      · rw [exec_readContainer hready, readContainer, show (newSelect s).container? n = none from hnone]
        rfl
      · obtain hrole | hrole := hrole <;>
          rw [hsack, show (newSelect s).unit.role = _ from hrole, noSackStatus, refuse_newSelect]
      · obtain hrole | hrole := hrole <;>
          rw [hsack, show (newSelect s).unit.role = _ from hrole, noSackStatus, refuse_newSelect]
    · rw [exec_readContainer hready, readContainer, show (newSelect s).container? n = some c from hc]
      rfl
    · rw [exec_readSack hready, readSack_sack (s := newSelect s) hc hcls hk, sackBody_newSelect]
      rfl
    · rw [exec_readSack hready, readSack_other (s := newSelect s) hc hcls, refuse_newSelect]
  · intro shown
    refine ⟨?_, custodyEntry_length, ?_, custodyBody_length first s⟩
    · simp only [numBytes_one]
      exact custodyBody_eq first s
    · rw [custodyBody_length]
      omega
  · refine ⟨fun c => ?_, inboundEntryBytes_eq s, releaseBytes_eq, dispatchBytes_eq, windowBody_eq s⟩
    have hmark : mark c.disputed = one (if c.disputed = true then 1 else 0) := by
      cases c.disputed <;> rfl
    rw [custodyEntry_eq, hmark]
    rfl
  · have hknown : s.knownPeers = (List.range' 1 56).filter (fun n => decide ((s.peer n).state ≠ .unknown)) :=
      List.filter_congr fun n _ => by simp [bne, Bool.beq_eq_decide_eq]
    refine ⟨?_, paged_page (by simp) _ first, paged_page (by simp) _ first, paged_page (by simp) _ first,
      paged_page (by simp) _ first, ?_, ?_⟩
    · rw [← hknown]
      exact paged_page (by simp) _ first
    · have hbetween : requestSettings s = one s.service.nextId ++ one s.cfg.requestLimit ++ one s.cfg.escalation ++
          one s.cfg.claimLimit := by
        simp only [requestSettings, numBytes_one]
      rw [requestsBody, hbetween]
      exact paged_page (by simp [one]) _ first
    · have hbetween : coverBytes s = one (s.service.list.filter (fun e => decide (e.state ≠ .listed))).length ++
          one s.cfg.cover.primaryLow ++ one s.cfg.cover.primaryHigh ++ one s.cfg.cover.backupLow ++
          one s.cfg.cover.backupHigh ++ two s.cfg.cover.delay := by
        have hcommitments : s.commitments = (s.service.list.filter (fun e => decide (e.state ≠ .listed))).length :=
          congrArg List.length (List.filter_congr fun e _ => by simp [bne, Bool.beq_eq_decide_eq])
        simp only [coverBytes, numBytes_one, numBytes_two, hcommitments]
      have horder : serviceOrder s.service.list = s.service.list.filter (fun e => decide (e.urgency = .urgent)) ++
          s.service.list.filter (fun e => decide (e.urgency = .normal)) := rfl
      rw [serviceBody, hbetween, horder]
      exact paged_page (by simp [one, two]) _ first
  · refine ⟨?_, ?_, ?_, ?_, ?_, fun n e => ⟨?_, peerBytes_length n e⟩, fun c => ?_, ?_, ?_,
      fun r => ⟨requestBytes_eq s r, requestBytes_length s r⟩, fun e => ⟨?_, serviceBytes_length s e⟩, sackBody_eq s⟩
    · rw [totalsBody_eq, totalsBytes_eq]
      rfl
    · rw [dayTotalsBody_eq, totalsBytes_eq]
      rfl
    · rw [attentionBody_eq, alarmByte_eq, noteBytes_eq, allowanceBytes_eq]
      simp only [noteOutcomeBytes_eq]
      rfl
    · rw [stationBody_eq, roleByte_eq, announcePart_eq, rejoinPart_eq, remainingBytes_eq, duplicateBytes_eq, peersIn_eq, peersIn_eq,
        peersIn_eq]
      rfl
    · rw [loopBody_eq, queuedBytes_eq]
      rfl
    · rw [peerBytes_eq, optRoleByte_eq, summaryBytes_eq, alarmOptCode_eq]
      rfl
    · rw [containerBytes_eq, lastResultBytes_eq, countedBytes_eq, handoverBytes_eq, deferredBytes_eq, nestingBytes_eq, sackBytes_eq]
      rfl
    · rw [countBody_eq, jobPart_eq, resultBytes_eq, remainingBytes_eq]
      simp only [outcomeBytes_eq, batchPartBytes_eq, tallyBytes_eq, reconBytes_eq, slotListBytes_eq, positionPartBytes_eq]
      rfl
    · rw [positionBody_eq, floatBytes_eq, slotListBytes_eq]
      simp only [List.append_assoc]
      rfl
    · rw [serviceBytes_eq, backupRemaining_eq]
      rfl
  · decide
end Sys2Proof.Machine

/-! PROOFS. The end of a standing batch: its pieces are applied, clamped (O42). -/

namespace Sys2Proof.Machine

/-! ### Reasons and alarms that stay -/

/-- Nothing that was raised has been lost, and the POSITION_LIMIT alarm stays set. -/
structure Louder (s t : State) : Prop where
  raised : ∀ r, Raised r s → Raised r t
  limit : s.attn.positionLimit = true → t.attn.positionLimit = true

theorem Louder.refl (s : State) : Louder s s := ⟨fun _ h => h, id⟩

theorem Louder.trans {s t u : State} (h : Louder s t) (k : Louder t u) : Louder s u :=
  ⟨fun r hr => k.raised r (h.raised r hr), fun hl => k.limit (h.limit hl)⟩

theorem Louder.of_attn {s t : State} (h : t.attn = s.attn) : Louder s t :=
  ⟨fun r hr => by rw [Raised, h]; exact hr, fun hl => by rw [h]; exact hl⟩

theorem louder_raise (r : Reason) (s : State) : Louder s (raise r s) := ⟨fun _ h => h.raise r, id⟩

theorem louder_raiseIf (c : Bool) (r : Reason) (s : State) : Louder s (raiseIf c r s) := by
  unfold raiseIf
  split
  · exact louder_raise r s
  · exact .refl s

theorem louder_chipFrame (target : Nat) (p : Payload) (s : State) : Louder s (chipFrame target p s) := by
  obtain ⟨-, hs⟩ | ⟨-, -, hs⟩ | ⟨-, -, hs⟩ := chipFrame_cases target p s <;> rw [hs]
  · exact .refl s
  · exact .of_attn rfl
  · exact louder_raise _ s

theorem louder_alarmFrame (k : AlarmKind) (a : AlarmAction) (tag : Nat) (s : State) : Louder s (alarmFrame k a tag s) := by
  unfold alarmFrame
  split
  · exact louder_chipFrame _ _ s
  · exact .refl s

theorem louder_changeTotal (k : TotalName) (d : Int) (s : State) : Louder s (changeTotal k d s) := by
  have hframe : Louder s { s with custody := { s.custody with
      totals := s.custody.totals.put k (boundTotal (s.custody.totals.get k + d)),
      saturated := s.custody.saturated || saturates (s.custody.totals.get k + d) } } := .of_attn rfl
  unfold changeTotal
  dsimp only
  split
  · exact hframe.trans (louder_alarmFrame ..)
  · exact hframe

/-- POSITION_LIMIT is set by a clamp, and stays set. -/
theorem louder_limitAlarm (c : List (Nat × Nat)) (s : State) :
    Louder s (limitAlarm c s) ∧ (c ≠ [] → (limitAlarm c s).attn.positionLimit = true) := by
  unfold limitAlarm raiseAlarm
  by_cases hc : c = []
  · rw [if_pos (by simp [hc])]
    exact ⟨.refl s, fun h => absurd hc h⟩
  · rw [if_neg (by simp [hc])]
    split
    · next hset => exact ⟨.refl s, fun _ => hset⟩
    · have hmarked : Louder s { s with attn := s.attn.withAlarm .positionLimit true } := ⟨fun _ h => h, fun _ => rfl⟩
      have halarm := louder_alarmFrame .positionLimit .raised 0 { s with attn := s.attn.withAlarm .positionLimit true }
      exact ⟨hmarked.trans halarm, fun _ => halarm.limit rfl⟩

theorem louder_sendNeed (r : OwnRequest) (s : State) : Louder s (sendNeed r s) := by
  unfold sendNeed
  split
  · exact .refl s
  · split
    · exact .of_attn rfl
    · exact louder_chipFrame _ _ s

theorem louder_handRaise (k : NeedKind) (u : Urgency) (c : Composition) (v : Nat) (s : State) :
    Louder s (handRaise k u c v s) := by
  unfold handRaise
  split
  · exact .refl s
  · have hadded : Louder s (addRequest (newRequest k u c v s) s) := .of_attn rfl
    exact (hadded.trans (louder_sendNeed ..)).trans (louder_raise ..)

theorem louder_autoRaise (holds on : Bool) (k : NeedKind) (u : Urgency) (c : Composition) (v : Nat) (s : State) :
    Louder s (autoRaise holds on k u c v s) := by
  unfold autoRaise
  split
  · exact louder_handRaise ..
  · exact .refl s

theorem louder_evaluate (s : State) : Louder s (evaluate s) := by
  have hmarked (f : FloatState) (c : Bool) : Louder s (raiseIf c .topupCapped (setFloatState f s)) :=
    (Louder.of_attn (s := s) (t := setFloatState f s) rfl).trans (louder_raiseIf ..)
  unfold evaluate autoRaises
  dsimp only
  split
  · exact (((hmarked _ _).trans (louder_autoRaise ..)).trans (louder_autoRaise ..)).trans (louder_autoRaise ..)
  · exact hmarked _ _

/-! ### Totals that have not saturated (R14) -/

theorem changeTotal_clear {k : TotalName} {d : Int} {s : State} (h : (changeTotal k d s).custody.saturated = false) :
    s.custody.saturated = false ∧
      (changeTotal k d s).custody.totals = s.custody.totals.put k (s.custody.totals.get k + d) := by
  obtain ⟨htotals, hsat⟩ := changeTotal_totals s k d
  rw [hsat, Bool.or_eq_false_iff] at h
  rw [htotals, boundTotal_eq h.2]
  exact ⟨h.1, rfl⟩

/-! ### Pieces applied to the position (R116, R117) -/

/-- What INTAKE and PAYOUT share: a total and the difference total change, a clamp sets POSITION_LIMIT, the levels are evaluated. -/
def applyCounts (k : TotalName) (value : Nat) (moved : Int) (c : List (Nat × Nat)) (s : State) : State :=
  evaluate (limitAlarm c
    (if clampedValue s.cfg c = 0 then changeTotal k value s else changeTotal .difference moved (changeTotal k value s)))

theorem applyIntake_eq (p : TallyPart) (s : State) : applyIntake p s =
    applyCounts .intake p.countedValue (-(clampedValue s.cfg (excessSlots p.good s) : Int)) (excessSlots p.good s)
      (addPieces p.good s) := rfl

theorem applyPayout_eq (p : TallyPart) (s : State) : applyPayout p s =
    applyCounts .payout p.countedValue (clampedValue s.cfg (shortSlots p.good s) : Int) (shortSlots p.good s)
      (takePieces p.good s) := rfl

section Apply

variable {k : TotalName} {value : Nat} {moved : Int} {c : List (Nat × Nat)} {s : State}

theorem within_applyCounts : Within [.totals, .queue, .attn, .float, .requests] s (applyCounts k value moved c s) := by
  unfold applyCounts
  split <;> simp

theorem totals_applyCounts (hzero : clampedValue s.cfg c = 0 → moved = 0) (hk : k ≠ .difference)
    (h : (applyCounts k value moved c s).custody.saturated = false) :
    (applyCounts k value moved c s).custody.totals =
      (s.custody.totals.put k (s.custody.totals.get k + value)).put .difference (s.custody.totals.difference + moved) := by
  have hother (a : Totals) (v : Int) : (a.put k v).get .difference = a.difference := by
    rw [get_put, if_neg (Ne.symm hk)]
    rfl
  have hlast (t : State) : (evaluate (limitAlarm c t)).custody = t.custody :=
    (by simp : Within [.float, .requests, .queue, .attn] t (evaluate (limitAlarm c t))).custody
  unfold applyCounts at h ⊢
  rw [hlast] at h ⊢
  split at h
  · next hno =>
    rw [if_pos hno, (changeTotal_clear h).2, hzero hno]
    cases k <;> simp [Totals.put, Totals.get] at hk ⊢
  · next hsome =>
    obtain ⟨hfirst, hsecond⟩ := changeTotal_clear h
    rw [if_neg hsome, hsecond, (changeTotal_clear hfirst).2, hother]

theorem louder_applyCounts (hc : c ≠ []) : (applyCounts k value moved c s).attn.positionLimit = true :=
  (louder_evaluate _).limit ((louder_limitAlarm c _).2 hc)

end Apply

/-! ### The tally of a batch (R102, R103) -/

/-- The good pieces of a slot: what its records give, 65535 at most, none for a slot not in use. -/
theorem atSlot_tallies (cfg : Settings) (fifo : List CountEntry) (suspect : Bool) {d : Nat} (hd : d < 12) :
    atSlot (tallies cfg fifo suspect) d = tallyAt cfg fifo suspect d := by
  simp [atSlot, tallies, hd]

theorem clampedSlots_ne {f : Nat → Nat} {d : Nat} (hd : d < 12) (hf : f d ≠ 0) : clampedSlots f ≠ [] := by
  have hmem : (d, f d) ∈ clampedSlots f := List.mem_filterMap.mpr ⟨d, List.mem_range.mpr hd, if_neg hf⟩
  exact List.ne_nil_of_mem hmem

theorem excess_eq (p good : Nat) : excess p good = p + good - 65535 := rfl

/-- A slot whose count passes the limit is clamped. -/
theorem excessSlots_ne {good : List Nat} {s : State} {d : Nat} (hd : d < 12) (h : 65535 < s.pieces d + atSlot good d) :
    excessSlots good s ≠ [] := by
  unfold excessSlots
  exact clampedSlots_ne hd (Nat.sub_ne_zero_of_lt h)

/-- A slot that holds fewer pieces than are taken is clamped. -/
theorem shortSlots_ne {good : List Nat} {s : State} {d : Nat} (hd : d < 12) (h : s.pieces d < atSlot good d) :
    shortSlots good s ≠ [] := by
  unfold shortSlots
  exact clampedSlots_ne hd (Nat.sub_ne_zero_of_lt h)

theorem pieces_congr {s t : State} (h : t.position.counts = s.position.counts) (d : Nat) : t.pieces d = s.pieces d := by
  rw [State.pieces, h, State.pieces]

/-! ### The end of a standing batch (R93 to R95) -/

section Standing

variable {j : CountJob} {s : State}

/-- A batch that ends in a standing session is applied by its mode, and told. -/
theorem endBatch_standing (hjob : s.count.job = some j) (cause : EndCause) (figure : Option Nat) :
    endBatch cause figure s = raiseIf (endedDamaged j figure s) .countDamaged (raise .countDone
      (applyBatch j (endedDamaged j figure s) (endedTally j s) (endedRecon j figure s)
        (setCount (endedEngine j cause figure s) s))) := by
  obtain ⟨hno, -⟩ | ⟨i, hi, he⟩ := endBatch_cases cause figure s
  · rw [hjob] at hno
    cases hno
  · rw [hjob, Option.some.injEq] at hi
    rw [he, ← hi]

/-- The good pieces of a slot in the batch, as R102 counts them. -/
def State.goodPieces (s : State) (d : Nat) : Nat :=
  if s.cfg.inUse d = true then
    min 65535 ((s.count.fifo.filter (fun r => r.slot == d && !r.suspect)).map (·.count)).sum else 0

theorem tallyAt_eq (s : State) (d : Nat) : tallyAt s.cfg s.count.fifo false d = s.goodPieces d := by
  have hfilter : s.count.fifo.filter (fun r => r.slot == d && r.suspect == false) =
      s.count.fifo.filter (fun r => r.slot == d && !r.suspect) := List.filter_congr fun r _ => by cases r.suspect <;> rfl
  rw [tallyAt, recordSum, hfilter]
  rfl

theorem atSlot_endedTally (j : CountJob) (s : State) {d : Nat} (hd : d < 12) : atSlot (endedTally j s).good d = s.goodPieces d :=
  (atSlot_tallies s.cfg s.count.fifo false hd).trans (tallyAt_eq s d)

theorem endedTally_value (j : CountJob) (s : State) : (endedTally j s).countedValue = slotValue s.cfg s.goodPieces :=
  slotValue_congr s.cfg fun _ hd => atSlot_endedTally j s hd

/-- What the end of a standing batch leaves, by mode. -/
def StandingEnd (j : CountJob) (s : State) (st : CountState) (cause : EndCause) (t : State) : Prop :=
  let moved : Nat := slotValue s.cfg (fun d =>
    if j.mode = .intake then s.pieces d + s.goodPieces d - 65535 else s.goodPieces d - s.pieces d)
  (∀ d, d < 12 → t.pieces d =
    if j.mode = .intake then min 65535 (s.pieces d + s.goodPieces d) else s.pieces d - s.goodPieces d) ∧
  (t.custody.saturated = false → t.custody.totals =
    if j.mode = .intake then { s.custody.totals with
      intake := s.custody.totals.intake + slotValue s.cfg s.goodPieces, difference := s.custody.totals.difference - moved }
    else { s.custody.totals with
      payout := s.custody.totals.payout + slotValue s.cfg s.goodPieces, difference := s.custody.totals.difference + moved }) ∧
  t.count.state = st ∧ t.count.fifo = [] ∧ t.count.batch = noBatch ∧ t.custody.table = s.custody.table ∧
  Raised .countDone t ∧ (∃ r b, t.count.result = some r ∧ r.batch = some b ∧ r.outcome = .opened ∧ b.cause = cause ∧
    (b.damage ≠ 0 → Raised .countDamaged t)) ∧
  ((∃ d, d < 12 ∧ s.cfg.inUse d = true ∧
      (if j.mode = .intake then 65535 < s.pieces d + s.goodPieces d else s.pieces d < s.goodPieces d)) →
    t.alarmSet .positionLimit = true)

/-- The position, the totals and the alarm once the pieces have been applied. -/
structure Applied (j : CountJob) (p : TallyPart) (s t : State) : Prop where
  within : Within [.counts, .totals, .queue, .attn, .float, .requests] s t
  pieces : ∀ d, d < 12 → t.pieces d =
    if j.mode = .intake then min 65535 (s.pieces d + atSlot p.good d)
    else s.pieces d - atSlot p.good d
  totals : t.custody.saturated = false → t.custody.totals =
    if j.mode = .intake then { s.custody.totals with
      intake := s.custody.totals.intake + p.countedValue,
      difference := s.custody.totals.difference +
        -(slotValue s.cfg (fun d => excess (s.pieces d) (atSlot p.good d)) : Int) }
    else { s.custody.totals with
      payout := s.custody.totals.payout + p.countedValue,
      difference := s.custody.totals.difference +
        (slotValue s.cfg (fun d => shortfall (s.pieces d) (atSlot p.good d)) : Int) }
  limit : (∃ d, d < 12 ∧ (if j.mode = .intake then 65535 < s.pieces d + atSlot p.good d
    else s.pieces d < atSlot p.good d)) → t.attn.positionLimit = true

theorem applied_intake {p : TallyPart} (hmode : j.mode = .intake) : Applied j p s (applyIntake p s) := by
  have hvalue := clampedValue_eq s.cfg (fun d => excess (s.pieces d) (atSlot p.good d))
  have hwithin := within_applyCounts (k := .intake) (value := p.countedValue)
    (moved := -(clampedValue s.cfg (excessSlots p.good s) : Int)) (c := excessSlots p.good s)
    (s := addPieces p.good s)
  refine ⟨?_, fun d hd => ?_, fun hclear => ?_, fun hlimit => ?_⟩
  · have hadded : Within [.counts] s (addPieces p.good s) := by simp
    exact (hadded.mono (by simp)).trans (hwithin.mono (by simp))
  · rw [applyIntake_eq, pieces_congr (hwithin .counts (by simp)), pieces_addPieces _ _ hd, if_pos hmode]
  · rw [applyIntake_eq] at hclear ⊢
    rw [totals_applyCounts (fun h => by
        have h : clampedValue s.cfg (excessSlots p.good s) = 0 := h
        rw [h]
        rfl) (by decide) hclear, if_pos hmode, excessSlots, hvalue]
    rfl
  · obtain ⟨d, hd, hover⟩ := hlimit
    rw [if_pos hmode] at hover
    have hne := excessSlots_ne hd hover
    rw [applyIntake_eq]
    exact louder_applyCounts hne

theorem applied_payout {p : TallyPart} (hmode : j.mode = .payout) : Applied j p s (applyPayout p s) := by
  have hno : j.mode ≠ .intake := by simp [hmode]
  have hvalue := clampedValue_eq s.cfg (fun d => shortfall (s.pieces d) (atSlot p.good d))
  have hwithin := within_applyCounts (k := .payout) (value := p.countedValue)
    (moved := (clampedValue s.cfg (shortSlots p.good s) : Int)) (c := shortSlots p.good s)
    (s := takePieces p.good s)
  refine ⟨?_, fun d hd => ?_, fun hclear => ?_, fun hlimit => ?_⟩
  · have htaken : Within [.counts] s (takePieces p.good s) := by simp
    exact (htaken.mono (by simp)).trans (hwithin.mono (by simp))
  · rw [applyPayout_eq, pieces_congr (hwithin .counts (by simp)), pieces_takePieces _ _ hd, if_neg hno]
  · rw [applyPayout_eq] at hclear ⊢
    rw [totals_applyCounts (fun h => by
        have h : clampedValue s.cfg (shortSlots p.good s) = 0 := h
        rw [h]
        rfl) (by decide) hclear, if_neg hno, shortSlots, hvalue]
    rfl
  · obtain ⟨d, hd, hover⟩ := hlimit
    rw [if_neg hno] at hover
    have hne := shortSlots_ne hd hover
    rw [applyPayout_eq]
    exact louder_applyCounts hne

theorem applyBatch_intake (hmode : j.mode = .intake) (damaged : Bool) (p : TallyPart) (r : Option ReconciliationPart) :
    applyBatch j damaged p r s = applyIntake p s := by
  unfold applyBatch
  rw [hmode]

theorem applyBatch_payout (hmode : j.mode = .payout) (damaged : Bool) (p : TallyPart) (r : Option ReconciliationPart) :
    applyBatch j damaged p r s = applyPayout p s := by
  unfold applyBatch
  rw [hmode]

/-- The end of a standing batch, by its mode. -/
theorem endBatch_applied (hjob : s.count.job = some j) (hmode : j.mode = .intake ∨ j.mode = .payout) (cause : EndCause)
    (figure : Option Nat) : ∃ v, Applied j (endedTally j s) (setCount (endedEngine j cause figure s) s) v ∧
      endBatch cause figure s = raiseIf (endedDamaged j figure s) .countDamaged (raise .countDone v) := by
  rw [endBatch_standing hjob]
  obtain hmode | hmode := hmode
  · rw [applyBatch_intake hmode]
    exact ⟨_, applied_intake hmode, rfl⟩
  · rw [applyBatch_payout hmode]
    exact ⟨_, applied_payout hmode, rfl⟩

/-- Settled for a state with the settings, the books, the position and the records of `s`. -/
theorem standingEnd_endBatch {b : State} {st : CountState} {cause : EndCause} {figure : Option Nat}
    (hframe : Within [.count] s b) (hfifo : b.count.fifo = s.count.fifo) (hjob : b.count.job = some j)
    (hmode : j.mode = .intake ∨ j.mode = .payout) (hstate : stateAfter j.mode cause = st)
    (houtcome : ∀ d, outcomeAfter j.mode cause d = .opened) : StandingEnd j s st cause (endBatch cause figure b) := by
  obtain ⟨v, happlied, heq⟩ := endBatch_applied hjob hmode cause figure
  have hcfg : b.cfg = s.cfg := hframe .cfg (by simp)
  have hcustody : b.custody = s.custody := hframe.custody
  have hpieces (d : Nat) : b.pieces d = s.pieces d := pieces_congr (hframe .counts (by simp)) d
  have hgood (d : Nat) : b.goodPieces d = s.goodPieces d := by rw [State.goodPieces, State.goodPieces, hcfg, hfifo]
  have hcount : v.count = endedEngine j cause figure b := happlied.within .count (by simp)
  have htable : v.custody.table = s.custody.table := by
    rw [← hcustody]
    exact happlied.within .table (by simp)
  have hend : Within [.attn] v (endBatch cause figure b) := by
    rw [heq]
    simp
  have hcount' : (endBatch cause figure b).count = v.count := hend .count (by simp)
  have hcustody' : (endBatch cause figure b).custody = v.custody := hend.custody
  have hdone : Raised .countDone (endBatch cause figure b) := by
    rw [heq]
    exact Raised.raiseIf (raised_raise .countDone v) _ _
  have hset (d : Nat) : (setCount (endedEngine j cause figure b) b).pieces d = s.pieces d := hpieces d
  have htally (d : Nat) (hd : d < 12) : atSlot (endedTally j b).good d = s.goodPieces d :=
    (atSlot_endedTally j b hd).trans (hgood d)
  refine ⟨fun d hd => ?_, fun hclear => ?_, ?_, ?_, ?_, ?_, hdone, ?_, ?_⟩
  · rw [pieces_congr (hend .counts (by simp)), happlied.pieces d hd, htally d hd, hset]
  · have hvalue : (endedTally j b).countedValue = slotValue s.cfg s.goodPieces := by
      rw [endedTally_value, hcfg]
      exact slotValue_congr s.cfg fun d _ => hgood d
    have hexcess : slotValue b.cfg (fun d => excess (b.pieces d) (atSlot (endedTally j b).good d)) =
        slotValue s.cfg (fun d => s.pieces d + s.goodPieces d - 65535) := by
      rw [hcfg]
      exact slotValue_congr s.cfg fun d hd => by rw [hpieces, htally d hd]; exact excess_eq _ _
    have hshort : slotValue b.cfg (fun d => shortfall (b.pieces d) (atSlot (endedTally j b).good d)) =
        slotValue s.cfg (fun d => s.goodPieces d - s.pieces d) := by
      rw [hcfg]
      exact slotValue_congr s.cfg fun d hd => by rw [hpieces, htally d hd, shortfall]
    have htotals := happlied.totals (by rw [← hcustody']; exact hclear)
    rw [hcustody', htotals]
    simp only [setCount_custody, setCount_cfg, hcustody, hvalue]
    have hset' : (setCount (endedEngine j cause figure b) b).pieces = b.pieces := rfl
    rw [hset', hexcess, hshort]
    by_cases hm : j.mode = .intake <;> simp [hm, Int.sub_eq_add_neg]
  · rw [hcount', hcount]
    exact hstate
  · rw [hcount', hcount]
    rfl
  · rw [hcount', hcount]
    rfl
  · rw [hcustody', htable]
  · refine ⟨endedResult j cause figure b, _, by rw [hcount', hcount]; rfl, rfl, houtcome _, rfl, fun hdamage => ?_⟩
    have hdamaged : endedDamaged j figure b = true := by
      simpa [endedDamaged, DamageSet.damaged, batchPart] using hdamage
    rw [heq, hdamaged]
    exact raised_raise .countDamaged _
  · rintro ⟨d, hd, -, hover⟩
    have hlimit : v.attn.positionLimit = true := by
      refine happlied.limit ⟨d, hd, ?_⟩
      rw [htally d hd, hset]
      exact hover
    rw [heq]
    exact (louder_raiseIf _ _ _).limit hlimit

end Standing

/-- A record abandoned in a running batch leaves its records and its session (R86, R93). -/
theorem abandonAssembly_running {s : State} (hrun : s.count.state = .running) :
    (abandonAssembly s).count.state = .running ∧ (abandonAssembly s).count.fifo = s.count.fifo ∧
      (abandonAssembly s).count.job = s.count.job := by
  unfold abandonAssembly
  split
  · exact ⟨hrun, rfl, rfl⟩
  · simp [recordAbandoned, recordDropped, endAssembly, setCount, hrun, CountState.sessionOpen, beginBatch, damageBatch]

/-- Settles O42: the batch as it stands when END, HALT or idle ends it, then `standingEnd_endBatch`. -/
theorem standingBatchesAreApplied : Obligations.StandingBatchesAreApplied := by
  intro n j s hp hopen hrun hjob hmode good value moved after
  have hstanding : isStanding j.mode = true := by obtain h | h := hmode <;> rw [h] <;> rfl
  have hline (run : State → State) : event s (onCountLine run) = .next (run s) := by
    rw [event_running hp, onCountLine, hopen]
    rfl
  have houtcome (cause : EndCause) (hcause : cause ≠ .abort) (d : Bool) : outcomeAfter j.mode cause d = .opened := by
    unfold outcomeAfter
    rw [hstanding]
    cases cause with
    | abort => exact absurd rfl hcause
    | _ => rfl
  have hstate (cause : EndCause) (st : CountState) (h : stateAfter .intake cause = st) : stateAfter j.mode cause = st := by
    rw [← h]
    unfold stateAfter
    rw [hstanding]
    rfl
  have hafter (st : CountState) (cause : EndCause) (t : State) (h : StandingEnd j s st cause t) : after t st cause := by
    exact h
  refine ⟨⟨_, ?_, hafter _ _ _ (standingEnd_endBatch (b := s) (figure := some n) (.refl _ s) rfl hjob hmode (hstate .endRecord _ rfl)
      (houtcome .endRecord nofun))⟩, ⟨_, ?_, hafter _ _ _ (standingEnd_endBatch (b := damageBatch .halted s) (figure := none) (by simp) rfl hjob
      hmode (hstate .halt _ rfl) (houtcome .halt nofun))⟩, ?_⟩
  · refine (hline (endRecord n)).trans ?_
    simp only [endRecord, hrun, CountState.sessionOpen, if_true, beginBatch]
  · refine (hline haltRecord).trans ?_
    simp only [haltRecord, hrun]
  · obtain ⟨hstill, hfifo, hsame⟩ := abandonAssembly_running (s := setDiscarding false s) hrun
    refine ⟨_, ?_, hafter _ _ _ (standingEnd_endBatch (b := abandonAssembly (setDiscarding false s)) (figure := none) (by simp) hfifo
      (hsame.trans hjob) hmode (hstate .idle _ rfl) (houtcome .idle nofun))⟩
    exact (event_running hp batchIdleEnd).trans (congrArg _ (if_pos hstill))

end Sys2Proof.Machine

/-! PROOFS. The end of a RECOUNT or UNPACK batch, and the deferred offer that a session close settles (O43). -/

namespace Sys2Proof.Machine

/-! ### A deferred offer at a session close (R84) -/

section Deferred

variable {u : State} {tag : Nat} {c : Container} {d : DeferredOffer}

/-- What R64 and R62 ask of a deferred offer at a session close, besides that the container is not disputed. -/
def Passes (s : State) (c : Container) (d : DeferredOffer) : Prop :=
  joiningOrJoined s.member.state = true ∧ ((s.peer d.peer).state = .live ∨ (s.peer d.peer).state = .quiet) ∧
    (s.peer d.peer).role.isSome = true ∧ routed s.unit.role (s.peer d.peer).role c.cls = true

theorem deferredAllowed_iff (s : State) (c : Container) (d : DeferredOffer) :
    deferredAllowed s c d = true ↔ c.disputed = false ∧ Passes s c d := by
  simp only [deferredAllowed, peerReachable, Passes, Bool.and_eq_true, Bool.or_eq_true, beq_iff_eq, Bool.not_eq_true']
  tauto

/-- A tag without a deferred offer: nothing to settle. -/
theorem settleDeferred_none (hc : u.container? tag = some c) (hd : c.deferred = none) (ok : Bool) :
    settleDeferred tag ok u = u := by
  unfold settleDeferred
  rw [hc]
  dsimp only
  rw [hd]

/-- HANDOVER_RESULT is raised, and its note is of an offer that the count blocked. -/
def Blocked (tag : Nat) (t : State) : Prop :=
  Raised .handoverResult t ∧ t.attn.note = some { tag := tag, side := .giver, outcome := .refused .countBlocked }

theorem blocked_raiseResult (tag : Nat) (s : State) : Blocked tag (raiseResult tag .giver (.refused .countBlocked) s) :=
  ⟨raised_raise .handoverResult s, rfl⟩

theorem Blocked.raise {t : State} (h : Blocked tag t) (r : Reason) : Blocked tag (raise r t) := by
  obtain ⟨hraised, hnote⟩ := h
  exact ⟨hraised.raise r, hnote⟩

theorem Blocked.raiseIf {t : State} (h : Blocked tag t) (b : Bool) (r : Reason) : Blocked tag (raiseIf b r t) := by
  cases b
  · exact h
  · exact h.raise r

/-- The container of a deferred offer that is dropped. -/
def droppedOffer (c : Container) : Container := { c with deferred := none, lastResult := .refused .countBlocked }

theorem settleDeferred_dropped (hc : u.container? tag = some c) (hd : c.deferred = some d) {ok : Bool}
    (hno : ok = true → deferredAllowed u c d = false) :
    Blocked tag (settleDeferred tag ok u) ∧ (settleDeferred tag ok u).container? tag = some (droppedOffer c) := by
  have heq : settleDeferred tag ok u = dropDeferred tag (updateContainer tag (fun c => { c with deferred := none }) u) := by
    unfold settleDeferred
    rw [hc]
    dsimp only
    rw [hd]
    dsimp only
    rw [if_neg (by cases ok <;> simp_all)]
  rw [heq]
  refine ⟨blocked_raiseResult tag _, ?_⟩
  change (updateContainer tag _ (updateContainer tag _ u)).container? tag = _
  rw [container?_updateContainer (f := fun c => { c with lastResult := .refused .countBlocked }) (fun _ => rfl),
    container?_updateContainer (f := fun c => { c with deferred := none }) (fun _ => rfl), if_pos rfl, if_pos rfl, hc]
  rfl

/-- The container of an offer that is made. -/
def madeOffer (s : State) (d : DeferredOffer) (c : Container) : Container :=
  { offered s d.peer d.purpose c with deferred := none }

/-- The records of a deferred offer that is made. -/
def State.withMade (u : State) (tag : Nat) (c : Container) (d : DeferredOffer) : State :=
  recordOffer { c with deferred := none } d.peer d.purpose (updateContainer tag (fun c => { c with deferred := none }) u)

theorem settleDeferred_allowed (hc : u.container? tag = some c) (hd : c.deferred = some d)
    (hallowed : deferredAllowed u c d = true) : settleDeferred tag true u =
      if (u.withMade tag c d).chipJoins then enqueue false d.peer (offerFrame c d.peer d.purpose u) (u.withMade tag c d)
      else offerReported c.tag u.handoverCounter false
        (chipFrame d.peer (offerFrame c d.peer d.purpose u) (u.withMade tag c d)) := by
  unfold settleDeferred
  rw [hc]
  dsimp only
  rw [hd]
  dsimp only
  rw [hallowed]
  rfl

theorem withMade_container (hc : u.container? tag = some c) : (u.withMade tag c d).container? tag = some (madeOffer u d c) := by
  have htag := tag_of_container? hc
  change (updateContainer c.tag (offered u d.peer d.purpose) (updateContainer tag _ u)).container? tag = _
  rw [container?_updateContainer (f := offered u d.peer d.purpose) (fun _ => rfl),
    container?_updateContainer (f := fun c => { c with deferred := none }) (fun _ => rfl), if_pos htag.symm, if_pos rfl, hc]
  rfl

theorem settleDeferred_made (hc : u.container? tag = some c) (hd : c.deferred = some d)
    (hallowed : deferredAllowed u c d = true) (hroom : u.loop.queue.length < 12) :
    (settleDeferred tag true u).container? tag = some (madeOffer u d c) ∧
      (settleDeferred tag true u).handoverCounter = nextCounter u.handoverCounter ∧
      (settleDeferred tag true u).loop.queue = u.queueWith false d.peer (offerFrame c d.peer d.purpose u) := by
  obtain ⟨-, hjoining, -⟩ := (deferredAllowed_iff u c d).mp hallowed
  have hjoins : (u.withMade tag c d).chipJoins = true := by
    have htakes : (u.withMade tag c d).queueTakes = true := queueTakes_of_joining hjoining
    rw [State.chipJoins, htakes]
    exact decide_eq_true hroom
  rw [settleDeferred_allowed hc hd hallowed, if_pos hjoins]
  exact ⟨withMade_container hc, rfl, rfl⟩

/-- The container of an offer whose frame a full queue has dropped (R66). -/
def unsentOffer (s : State) (d : DeferredOffer) (c : Container) : Container :=
  { madeOffer s d c with
    state := .held, handover := none, lastResult := .noAnswer,
    refusal := some { receiver := d.peer, number := s.handoverCounter, closes := s.clock + 500 } }

theorem settleDeferred_unsent (hc : u.container? tag = some c) (hd : c.deferred = some d)
    (hallowed : deferredAllowed u c d = true) (hfull : 12 ≤ u.loop.queue.length) :
    (settleDeferred tag true u).container? tag = some (unsentOffer u d c) ∧
      (settleDeferred tag true u).handoverCounter = nextCounter u.handoverCounter ∧
      (settleDeferred tag true u).loop = u.loop ∧
      Raised .loopFrameDropped (settleDeferred tag true u) ∧ Raised .handoverResult (settleDeferred tag true u) ∧
      (settleDeferred tag true u).attn.note = some { tag := tag, side := .giver, outcome := .noAnswer } := by
  obtain ⟨-, hjoining, -⟩ := (deferredAllowed_iff u c d).mp hallowed
  have htag := tag_of_container? hc
  have htakes : (u.withMade tag c d).queueTakes = true := queueTakes_of_joining hjoining
  have hchip : (u.withMade tag c d).chipRoom = false := decide_eq_false (Nat.not_lt.mpr hfull)
  have hdropped (p : Payload) : chipFrame d.peer p (u.withMade tag c d) = raise .loopFrameDropped (u.withMade tag c d) := by
    simp [chipFrame, htakes, hchip]
  have hfound : (raise .loopFrameDropped (u.withMade tag c d)).container? tag = some (madeOffer u d c) := withMade_container hc
  have hreport : settleDeferred tag true u = raiseResult tag .giver .noAnswer (toldSetback true tag
      (updateContainer tag (fun c => { c with
        state := .held, handover := none, lastResult := .noAnswer,
        refusal := some { receiver := d.peer, number := u.handoverCounter, closes := u.clock + Config.refusalWindow } })
        (raise .loopFrameDropped (u.withMade tag c d)))) := by
    rw [settleDeferred_allowed hc hd hallowed, State.chipJoins, htakes, hchip, if_neg (by simp), hdropped, htag]
    unfold offerReported
    rw [hfound]
    simp [madeOffer, offered]
    rfl
  rw [hreport]
  refine ⟨?_, rfl, rfl, ?_, raised_raise .handoverResult _, rfl⟩
  · change (updateContainer tag _ (raise .loopFrameDropped (u.withMade tag c d))).container? tag = _
    rw [container?_updateContainer (f := fun c => { c with
        state := .held, handover := none, lastResult := .noAnswer,
        refusal := some { receiver := d.peer, number := u.handoverCounter, closes := u.clock + Config.refusalWindow } })
      (fun _ => rfl), if_pos rfl, hfound]
    rfl
  · exact Raised.raise (s := raise .loopFrameDropped (u.withMade tag c d)) (raised_raise _ _) _

end Deferred

/-! ### The tally and the class of a batch (R102 to R104, R108) -/

section Target

variable {j : CountJob} {c : Container} {s : State}

/-- The pieces of a batch, good and suspect. -/
def State.batchPieces (s : State) : Nat :=
  ((List.range 12).map (fun d => tallyAt s.cfg s.count.fifo false d + tallyAt s.cfg s.count.fifo true d)).sum

/-- The records of the batch give no damage reason, beside the head check. -/
def State.soundBatch (s : State) : Prop :=
  s.count.batch.damage = 0 ∧ (∀ r ∈ s.count.fifo, s.cfg.inUse r.slot = true) ∧
    ∀ d, d < 12 → s.cfg.inUse d = true →
      recordSum s.count.fifo false d ≤ 65535 ∧ recordSum s.count.fifo true d ≤ 65535

theorem tallies_sum (cfg : Settings) (fifo : List CountEntry) (suspect : Bool) :
    (tallies cfg fifo suspect).sum = ((List.range 12).map (tallyAt cfg fifo suspect)).sum := rfl

theorem endedTally_pieces (j : CountJob) (s : State) :
    (endedTally j s).piecesGood + (endedTally j s).piecesSusp = s.batchPieces :=
  (List.sum_map_add (l := List.range 12)).symm

/-- A set with a damage reason is not empty. -/
theorem add_ne_zero (d : DamageSet) (r : DamageReason) : d.add r ≠ 0 := by
  intro h
  have hbit := congrArg (fun w : DamageSet => w.getLsbD (damageBit r)) h
  revert hbit
  cases r <;> simp [DamageSet.add, damageBit]

theorem addIf_eq_zero {d : DamageSet} {b : Bool} {r : DamageReason} : d.addIf b r = 0 ↔ d = 0 ∧ b = false := by
  cases b
  · simp [DamageSet.addIf]
  · exact ⟨fun h => absurd h (add_ne_zero d r), fun h => absurd h.2 (by decide)⟩

theorem unusedRecord_eq_false (cfg : Settings) (fifo : List CountEntry) :
    unusedRecord cfg fifo = false ↔ ∀ r ∈ fifo, cfg.inUse r.slot = true := by
  simp [unusedRecord]

theorem overLimit_eq_false (cfg : Settings) (fifo : List CountEntry) :
    overLimit cfg fifo = false ↔
      ∀ d, d < 12 → cfg.inUse d = true → recordSum fifo false d ≤ 65535 ∧ recordSum fifo true d ≤ 65535 := by
  simp [overLimit, slots, Config.countMax]

theorem headMismatch_eq_false (p : TallyPart) (figure : Option Nat) :
    headMismatch p figure = false ↔ ∀ n, figure = some n → (p.piecesGood + p.piecesSusp) % 4096 = n := by
  cases figure <;> simp [headMismatch]

/-- A batch ends undamaged: sound records, and pieces that agree with the figure of an END. -/
theorem endedDamaged_eq_false (j : CountJob) (figure : Option Nat) (s : State) :
    endedDamaged j figure s = false ↔ s.soundBatch ∧ ∀ n, figure = some n → s.batchPieces % 4096 = n := by
  have hzero : endedDamaged j figure s = false ↔ batchDamage s.cfg s.count (endedTally j s) figure = 0 := by
    simp [endedDamaged, DamageSet.damaged]
  rw [hzero, batchDamage, addIf_eq_zero, addIf_eq_zero, addIf_eq_zero, unusedRecord_eq_false, overLimit_eq_false,
    headMismatch_eq_false, endedTally_pieces, State.soundBatch]
  tauto

/-- The variance is outside the tolerance in force (R107, R108). -/
def Outside (s : State) (c : Container) (value : Nat) : Prop :=
  c.value + s.cfg.tolerance c.value < value ∨ value + s.cfg.tolerance c.value < c.value

/-- The class of a variance (R108). -/
def classOf (s : State) (c : Container) (value : Nat) : VarianceClass :=
  if value = c.value then .exact
  else if value ≤ c.value + s.cfg.tolerance c.value ∧ c.value ≤ value + s.cfg.tolerance c.value then .within
  else if c.value < value then .over else .short

theorem classify_eq (s : State) (c : Container) (value : Nat) : s.cfg.classify value c.value = classOf s c value := by
  unfold Settings.classify classOf varianceOf
  dsimp only
  generalize s.cfg.tolerance c.value = tol
  grind

theorem disputes_classOf (s : State) (c : Container) (value : Nat) :
    disputes (classOf s c value) = true ↔ Outside s c value := by
  unfold classOf Outside
  generalize s.cfg.tolerance c.value = tol
  split
  · simp only [disputes, Bool.false_eq_true, false_iff]
    omega
  · split
    · simp only [disputes, Bool.false_eq_true, false_iff]
      omega
    · split
      · simp only [disputes, true_iff]
        omega
      · simp only [disputes, true_iff]
        omega

theorem disputes_iff (v : VarianceClass) : disputes v = decide (v = .over ∨ v = .short) := by cases v <;> rfl

/-! ### What the batch of a locked container leaves -/

/-- The state once the batch has been valued and its records cleared, before it is applied. -/
def valued (j : CountJob) (cause : EndCause) (figure : Option Nat) (s : State) : State :=
  setCount (endedEngine j cause figure s) s

/-- The counted group of the batch. -/
def groupOf (j : CountJob) (c : Container) (s : State) : CountedGroup :=
  countedGroup (endedTally j s) (reconciliation s.cfg c (endedTally j s))

/-- The container as an undamaged RECOUNT leaves it. -/
def recountOf (j : CountJob) (c : Container) (s : State) (d : Container) : Container :=
  { d with state := .held, counted := some (groupOf j c s), disputed := disputes (classOf s c (endedTally j s).countedValue) }

theorem recountOf_tag (d : Container) : (recountOf j c s d).tag = d.tag := rfl
theorem recountOf_cls (d : Container) : (recountOf j c s d).cls = d.cls := rfl
theorem recountOf_deferred (d : Container) : (recountOf j c s d).deferred = d.deferred := rfl
theorem recountOf_disputed (d : Container) :
    (recountOf j c s d).disputed = disputes (classOf s c (endedTally j s).countedValue) := by rw [recountOf]

section Ends

variable {cause : EndCause} {figure : Option Nat}

theorem endedRecon_locked (hmode : isStanding j.mode = false) (hd : endedDamaged j figure s = false)
    (hc : s.container? j.tag = some c) (hcounting : c.state = .counting) :
    endedRecon j figure s = some (reconciliation s.cfg c (endedTally j s)) := by
  simp [endedRecon, hmode, hd, State.lockedTarget, hc, hcounting]

theorem endedRecon_damaged (hd : endedDamaged j figure s = true) : endedRecon j figure s = none := by
  simp [endedRecon, hd]

theorem applyRecount_eq (j : CountJob) (c : Container) (s u : State) :
    applyRecount j.tag (endedTally j s) (reconciliation s.cfg c (endedTally j s)) u =
      raiseIf (disputes (classOf s c (endedTally j s).countedValue)) .variance
        (updateContainer j.tag (recountOf j c s) u) := by
  have hcls : (reconciliation s.cfg c (endedTally j s)).cls = classOf s c (endedTally j s).countedValue := classify_eq ..
  unfold applyRecount recountOf groupOf
  rw [hcls]

theorem endBatch_recount (hjob : s.count.job = some j) (hmode : j.mode = .recount)
    (hd : endedDamaged j figure s = false) (hc : s.container? j.tag = some c) (hcounting : c.state = .counting) :
    endBatch cause figure s = raise .countDone (settleDeferred j.tag true
      (raiseIf (disputes (classOf s c (endedTally j s).countedValue)) .variance
        (updateContainer j.tag (recountOf j c s) (valued j cause figure s)))) := by
  rw [endBatch_standing hjob, endedRecon_locked (by rw [hmode]; rfl) hd hc hcounting, hd]
  unfold applyBatch
  rw [hmode]
  dsimp only
  rw [applyRecount_eq, Bool.not_false, valued]
  exact if_neg Bool.false_ne_true

theorem endBatch_unpack (hjob : s.count.job = some j) (hmode : j.mode = .unpack)
    (hd : endedDamaged j figure s = false) (hc : s.container? j.tag = some c) (hcounting : c.state = .counting) :
    endBatch cause figure s = raise .countDone (dropUnpacked (some c)
      (applyUnpack j.tag (endedTally j s) (reconciliation s.cfg c (endedTally j s)) (valued j cause figure s))) := by
  have hfound : (setCount (endedEngine j cause figure s) s).container? j.tag = some c := hc
  rw [endBatch_standing hjob, endedRecon_locked (by rw [hmode]; rfl) hd hc hcounting, hd]
  unfold applyBatch
  rw [hmode]
  dsimp only
  rw [hfound]
  rfl

theorem endBatch_spoiled (hjob : s.count.job = some j) (hmode : j.mode = .recount ∨ j.mode = .unpack)
    (hd : endedDamaged j figure s = true) : endBatch cause figure s = raise .countDamaged (raise .countDone
      (settleDeferred j.tag false (releaseLock j.tag (valued j cause figure s)))) := by
  rw [endBatch_standing hjob, endedRecon_damaged hd, hd]
  unfold applyBatch
  obtain hmode | hmode := hmode <;> rw [hmode] <;> rfl

/-- The session is closed, its records are cleared, and COUNT_DONE is raised. -/
def Closed (t : State) : Prop := t.count.state = .closed ∧ t.count.fifo = [] ∧ Raised .countDone t

theorem closed_raise {v : State} (hmode : j.mode = .recount ∨ j.mode = .unpack) (hv : v.count = endedEngine j cause figure s) :
    Closed (raise .countDone v) := by
  have hstate : stateAfter j.mode cause = .closed := by
    unfold stateAfter
    obtain hmode | hmode := hmode <;> rw [hmode] <;> rfl
  refine ⟨?_, ?_, raised_raise .countDone v⟩
  · change v.count.state = _
    rw [hv]
    exact hstate
  · change v.count.fifo = _
    rw [hv]
    rfl

/-! ### An undamaged RECOUNT (R112) -/

/-- A container of the books written, with VARIANCE for one that is disputed, in a session of another state. -/
def written (tag : Nat) (f : Container → Container) (disputed : Bool) (e : CountEngine) (s : State) : State :=
  raiseIf disputed .variance (updateContainer tag f (setCount e s))

/-- What a written container leaves as it was. -/
structure Written (tag : Nat) (f : Container → Container) (disputed : Bool) (e : CountEngine) (s t : State) : Prop where
  custody : t.custody = { s.custody with table := s.tableWith tag f }
  position : t.position = s.position
  variance : disputed = true → Raised .variance t
  count : t.count = e
  member : t.member = s.member
  unit : t.unit = s.unit
  loop : t.loop = s.loop
  counter : t.handoverCounter = s.handoverCounter
  clock : t.clock = s.clock
  cfg : t.cfg = s.cfg

theorem tableWith_eq (s : State) (tag : Nat) (f : Container → Container) :
    s.custody.table.map (fun c => if c.tag == tag then f c else c) = s.tableWith tag f :=
  List.map_congr_left fun c _ => by simp

theorem written_spec (tag : Nat) (f : Container → Container) (disputed : Bool) (e : CountEngine) (s : State) :
    Written tag f disputed e s (written tag f disputed e s) := by
  have htable := tableWith_eq s tag f
  cases disputed
  · exact ⟨by rw [← htable]; rfl, rfl, nofun, rfl, rfl, rfl, rfl, rfl, rfl, rfl⟩
  · exact ⟨by rw [← htable]; rfl, rfl, fun _ => raised_raise .variance _, rfl, rfl, rfl, rfl, rfl, rfl, rfl⟩

section Write

variable {tag : Nat} {f : Container → Container} {disputed : Bool} {e : CountEngine} {t : State}

theorem Written.container? (h : Written tag f disputed e s t) (hf : ∀ c, (f c).tag = c.tag) (hc : s.container? tag = some c) :
    t.container? tag = some (f c) := by
  have hsame : t.container? tag = (updateContainer tag f s).container? tag := by
    unfold State.container?
    rw [h.custody, ← tableWith_eq]
    rfl
  rw [hsame, container?_updateContainer hf, if_pos rfl, hc]
  rfl

theorem Written.passes (h : Written tag f disputed e s t) (hcls : (f c).cls = c.cls) (d : DeferredOffer) :
    Passes t (f c) d ↔ Passes s c d := by
  have hpeer (n : Nat) : t.peer n = s.peer n := by rw [State.peer, State.peer, h.member]
  rw [Passes, Passes, h.member, h.unit, hpeer, hcls]

/-- A deferred offer of a written container is made when it is not disputed and its checks pass. -/
theorem Written.allowed (h : Written tag f disputed e s t) (hcls : (f c).cls = c.cls) (d : DeferredOffer) :
    deferredAllowed t (f c) d = true ↔ (f c).disputed = false ∧ Passes s c d := by
  rw [deferredAllowed_iff, h.passes hcls]

theorem Written.madeOffer (h : Written tag f disputed e s t) (d : DeferredOffer) (q : Container) :
    madeOffer t d q = madeOffer s d q := by
  rw [Machine.madeOffer, Machine.madeOffer, offered, offered, h.counter, h.clock, h.cfg]

theorem Written.unsentOffer (h : Written tag f disputed e s t) (d : DeferredOffer) (q : Container) :
    unsentOffer t d q = unsentOffer s d q := by
  rw [Machine.unsentOffer, Machine.unsentOffer, h.madeOffer, h.counter, h.clock]

theorem Written.queueWith (h : Written tag f disputed e s t) (d : DeferredOffer) (q : Container) :
    t.queueWith false d.peer (offerFrame q d.peer d.purpose t) = s.queueWith false d.peer (offerFrame q d.peer d.purpose s) := by
  rw [State.queueWith, State.queueWith, offerFrame, offerFrame, h.loop, h.unit, h.counter]

end Write

/-- What the books show, and VARIANCE for a count outside the tolerance. -/
def Recounted (j : CountJob) (c : Container) (s t : State) : Prop :=
  t.custody = { s.custody with table := s.tableWith j.tag (recountOf j c s) } ∧ t.position = s.position ∧
    (Outside s c (endedTally j s).countedValue → Raised .variance t)

section RecountEnds

variable (hjob : s.count.job = some j) (hmode : j.mode = .recount) (hd : endedDamaged j figure s = false)
  (hc : s.container? j.tag = some c) (hcounting : c.state = .counting)

include hjob hmode hd hc hcounting

/-- The end of an undamaged RECOUNT: the container written, then its deferred offer settled. -/
theorem recount_ends : ∃ t, endBatch cause figure s = raise .countDone (settleDeferred j.tag true t) ∧
    Written j.tag (recountOf j c s) (disputes (classOf s c (endedTally j s).countedValue)) (endedEngine j cause figure s) s t :=
  ⟨_, endBatch_recount hjob hmode hd hc hcounting, written_spec ..⟩

theorem recount_closed : Closed (endBatch cause figure s) := by
  obtain ⟨t, heq, hwritten⟩ := recount_ends (cause := cause) hjob hmode hd hc hcounting
  have hsettled : Within [.table, .requests, .counter, .queue, .attn] t (settleDeferred j.tag true t) := by simp
  have hcount : (settleDeferred j.tag true t).count = t.count := hsettled .count (by simp)
  rw [heq]
  exact closed_raise (.inl hmode) (hcount.trans hwritten.count)

theorem recount_plain (hnone : c.deferred = none) : Recounted j c s (endBatch cause figure s) := by
  obtain ⟨t, heq, hwritten⟩ := recount_ends (cause := cause) hjob hmode hd hc hcounting
  have hfound : t.container? j.tag = some (recountOf j c s c) := hwritten.container? recountOf_tag hc
  have hkept : (recountOf j c s c).deferred = none := (recountOf_deferred c).trans hnone
  rw [heq, settleDeferred_none hfound hkept]
  exact ⟨hwritten.custody, hwritten.position, fun hout => (hwritten.variance ((disputes_classOf s c _).mpr hout)).raise _⟩

section Settled

variable {d : DeferredOffer} (hsome : c.deferred = some d)

include hsome

theorem recount_blocked (hno : Outside s c (endedTally j s).countedValue ∨ ¬ Passes s c d) :
    Blocked j.tag (endBatch cause figure s) ∧
      (endBatch cause figure s).container? j.tag = some (droppedOffer (recountOf j c s c)) := by
  obtain ⟨t, heq, hwritten⟩ := recount_ends (cause := cause) hjob hmode hd hc hcounting
  have hrefused : deferredAllowed t (recountOf j c s c) d = false := by
    rw [← Bool.not_eq_true, hwritten.allowed (recountOf_cls c)]
    rintro ⟨hquiet, hpasses⟩
    obtain hout | hfails := hno
    · have hdisputed : (recountOf j c s c).disputed = true :=
        (recountOf_disputed c).trans ((disputes_classOf s c _).mpr hout)
      rw [hdisputed] at hquiet
      cases hquiet
    · exact hfails hpasses
  obtain ⟨hblocked, hfound⟩ :=
    settleDeferred_dropped (ok := true) (hwritten.container? recountOf_tag hc) ((recountOf_deferred c).trans hsome) fun _ => hrefused
  rw [heq]
  exact ⟨hblocked.raise _, hfound⟩

variable (hin : ¬ Outside s c (endedTally j s).countedValue) (hpasses : Passes s c d)

include hin hpasses

omit hjob hmode hd hc hcounting hsome in
theorem recount_allowed {t : State} (hwritten : Written j.tag (recountOf j c s)
    (disputes (classOf s c (endedTally j s).countedValue)) (endedEngine j cause figure s) s t) :
    deferredAllowed t (recountOf j c s c) d = true := by
  have hquiet : (recountOf j c s c).disputed = false := by
    rw [← disputes_classOf, Bool.not_eq_true] at hin
    exact (recountOf_disputed c).trans hin
  exact (hwritten.allowed (recountOf_cls c) d).mpr ⟨hquiet, hpasses⟩

theorem recount_made (hroom : s.loop.queue.length < 12) :
    (endBatch cause figure s).container? j.tag = some (madeOffer s d (recountOf j c s c)) ∧
      (endBatch cause figure s).handoverCounter = nextCounter s.handoverCounter ∧
      (endBatch cause figure s).loop.queue =
        s.queueWith false d.peer (offerFrame (recountOf j c s c) d.peer d.purpose s) := by
  obtain ⟨t, heq, hwritten⟩ := recount_ends (cause := cause) hjob hmode hd hc hcounting
  have hallowed := recount_allowed hin hpasses hwritten
  have hmade := settleDeferred_made (hwritten.container? recountOf_tag hc) ((recountOf_deferred c).trans hsome) hallowed (by rw [hwritten.loop]; exact hroom)
  rw [hwritten.madeOffer, hwritten.counter, hwritten.queueWith] at hmade
  rw [heq]
  exact hmade

theorem recount_unsent (hfull : 12 ≤ s.loop.queue.length) :
    (endBatch cause figure s).container? j.tag = some (unsentOffer s d (recountOf j c s c)) ∧
      (endBatch cause figure s).handoverCounter = nextCounter s.handoverCounter ∧
      (endBatch cause figure s).loop = s.loop ∧
      Raised .loopFrameDropped (endBatch cause figure s) ∧ Raised .handoverResult (endBatch cause figure s) ∧
      (endBatch cause figure s).attn.note = some { tag := j.tag, side := .giver, outcome := .noAnswer } := by
  obtain ⟨t, heq, hwritten⟩ := recount_ends (cause := cause) hjob hmode hd hc hcounting
  have hallowed := recount_allowed hin hpasses hwritten
  obtain ⟨hfound, hcounter, hloop, hdropped, hresult, hnote⟩ :=
    settleDeferred_unsent (hwritten.container? recountOf_tag hc) ((recountOf_deferred c).trans hsome) hallowed (by rw [hwritten.loop]; exact hfull)
  rw [hwritten.unsentOffer] at hfound
  rw [heq]
  exact ⟨hfound, hcounter.trans (congrArg nextCounter hwritten.counter), hloop.trans hwritten.loop, hdropped.raise _,
    hresult.raise _, hnote⟩

end Settled

end RecountEnds

/-! ### A damaged batch (R95) -/

/-- The books and the position once the lock is released with nothing written. -/
def Spoiled (j : CountJob) (s t : State) : Prop := Raised .countDamaged t ∧ t.position = s.position ∧
  t.custody = { s.custody with table := s.tableWith j.tag (fun d => { d with state := .held }) }

/-- The lock released: the container of the tag is HELD. -/
theorem releaseLock_table (hb : Distinct s) (hc : s.container? j.tag = some c) (hcounting : c.state = .counting) :
    s.custody.table.map (fun c => if c.tag == j.tag then heldAgain c else c) =
      s.tableWith j.tag (fun d => { d with state := .held }) := by
  refine List.map_congr_left fun d hd => ?_
  by_cases htag : d.tag = j.tag
  · obtain rfl : d = c := hb.eq_of_tag hd (mem_of_container? hc) (htag.trans (tag_of_container? hc).symm)
    simp [htag, heldAgain, hcounting]
  · simp [htag]

theorem releaseLock_container (hc : s.container? j.tag = some c) (hcounting : c.state = .counting) :
    (releaseLock j.tag s).container? j.tag = some { c with state := .held } := by
  have htag (c : Container) : (heldAgain c).tag = c.tag := by
    unfold heldAgain
    split <;> rfl
  rw [releaseLock, container?_updateContainer htag, if_pos rfl, hc]
  exact congrArg some (if_pos hcounting)

section SpoiledEnds

variable {b : State} (hframe : Within [.count] s b) (hjob : b.count.job = some j) (hmode : j.mode = .recount ∨ j.mode = .unpack)
  (hd : endedDamaged j figure b = true) (hc : s.container? j.tag = some c) (hcounting : c.state = .counting)

section

include hjob hmode hd

theorem spoiled_closed : Closed (endBatch cause figure b) := by
  have hsettled : Within [.table, .requests, .counter, .queue, .attn] (valued j cause figure b)
      (settleDeferred j.tag false (releaseLock j.tag (valued j cause figure b))) := by simp [releaseLock]
  obtain ⟨hstate, hfifo, hdone⟩ := closed_raise hmode (hsettled .count (by simp))
  rw [endBatch_spoiled hjob hmode hd]
  exact ⟨hstate, hfifo, hdone.raise _⟩

end

include hframe hc hcounting

theorem released_container : (releaseLock j.tag (valued j cause figure b)).container? j.tag = some { c with state := .held } := by
  have hfound : (valued j cause figure b).container? j.tag = some c := by
    rw [← hc]
    exact congrArg (List.find? _) (hframe .table (by simp))
  exact releaseLock_container hfound hcounting

include hjob hmode hd

theorem spoiled_plain (hb : Distinct s) (hnone : c.deferred = none) : Spoiled j s (endBatch cause figure b) := by
  rw [endBatch_spoiled hjob hmode hd, settleDeferred_none (released_container hframe hc hcounting) hnone]
  refine ⟨raised_raise _ _, hframe.position, ?_⟩
  have hcustody : b.custody = s.custody := hframe.custody
  rw [← releaseLock_table hb hc hcounting, ← hcustody]
  rfl

theorem spoiled_blocked {d : DeferredOffer} (hsome : c.deferred = some d) : Blocked j.tag (endBatch cause figure b) ∧
    (endBatch cause figure b).container? j.tag = some (droppedOffer { c with state := .held }) := by
  obtain ⟨hblocked, hfound⟩ := settleDeferred_dropped (ok := false)
    (released_container (cause := cause) (figure := figure) hframe hc hcounting) hsome nofun
  rw [endBatch_spoiled hjob hmode hd]
  exact ⟨(hblocked.raise _).raise _, hfound⟩

end SpoiledEnds

/-! ### An undamaged UNPACK (R114) -/

/-- The container is off the books, the good pieces are in the position, the difference total has the variance and the clamp. -/
def Unpacked (j : CountJob) (c : Container) (s t : State) : Prop :=
  t.custody.table = s.custody.table.filter (fun d => d.tag ≠ j.tag) ∧
    (∀ d, d < 12 → t.pieces d = min 65535 (s.pieces d + tallyAt s.cfg s.count.fifo false d)) ∧
    (Outside s c (endedTally j s).countedValue → Raised .variance t) ∧
    (t.custody.saturated = false → t.custody.totals = s.totalsWith .difference
      (((endedTally j s).countedValue : Int) - c.value - slotValue s.cfg (fun d => s.pieces d + tallyAt s.cfg s.count.fifo false d - 65535)))

theorem Unpacked.of_attn {t u : State} (h : Unpacked j c s t) (hu : Within [.attn] t u)
    (hraised : Raised .variance t → Raised .variance u) : Unpacked j c s u := by
  obtain ⟨htable, hpieces, hvariance, htotals⟩ := h
  refine ⟨?_, fun d hd => ?_, fun hout => hraised (hvariance hout), ?_⟩
  · rw [hu.custody, htable]
  · rw [pieces_congr (hu .counts (by simp)), hpieces d hd]
  · rw [hu.custody]
    exact htotals

/-- UNPACK, in terms of its two calls that reach other blocks. -/
theorem applyUnpack_parts (tag : Nat) (p : TallyPart) (r : ReconciliationPart) (u : State) :
    ∃ x v w, x = limitAlarm (excessSlots p.good u) (addPieces p.good u) ∧
      v = changeTotal .difference ((p.countedValue : Int) - r.declared - clampedValue u.cfg (excessSlots p.good u)) x ∧
      w = raiseIf (disputes r.cls) .variance (toldSetback true tag (removeContainer tag v)) ∧
      applyUnpack tag p r u = evaluate w := ⟨_, _, _, rfl, rfl, rfl, rfl⟩

theorem unpacked_apply {u : State} (hframe : Within [.count] s u) {p : TallyPart} {r : ReconciliationPart}
    (hp : ∀ d, d < 12 → atSlot p.good d = tallyAt s.cfg s.count.fifo false d) (hvalue : p.countedValue = (endedTally j s).countedValue)
    (hdeclared : r.declared = c.value) (hcls : r.cls = classOf s c (endedTally j s).countedValue) :
    Unpacked j c s (applyUnpack j.tag p r u) := by
  obtain ⟨x, v, w, hx, hv, hw, heq⟩ := applyUnpack_parts j.tag p r u
  have hadded : Within [.queue, .attn] (addPieces p.good u) x := by
    rw [hx]
    generalize excessSlots p.good u = clamped
    simp
  have hxv : Within [.totals, .queue, .attn] x v := by
    rw [hv]
    generalize (p.countedValue : Int) - r.declared - clampedValue u.cfg (excessSlots p.good u) = delta
    simp
  have hvw : Within [.table, .requests, .attn] v w := by
    rw [hw]
    simp
  have hlast : Within [.float, .requests, .queue, .attn] w (evaluate w) := by simp
  have hclamped : clampedValue u.cfg (excessSlots p.good u) =
      slotValue s.cfg (fun d => s.pieces d + tallyAt s.cfg s.count.fifo false d - 65535) := by
    rw [excessSlots, clampedValue_eq, hframe .cfg (by simp)]
    exact slotValue_congr s.cfg fun d hd => by
      rw [pieces_congr (hframe .counts (by simp)), hp d hd]
      exact excess_eq _ _
  rw [heq]
  refine ⟨?_, fun d hd => ?_, fun hout => ?_, fun hclear => ?_⟩
  · have hremoved : w.custody.table = v.custody.table.filter (fun d => d.tag != j.tag) := by
      rw [hw]
      exact (by simp : Within [.attn] (toldSetback true j.tag (removeContainer j.tag v)) _) .table (by simp)
    rw [hlast .table (by simp), hremoved, hxv .table (by simp), hadded .table (by simp)]
    change u.custody.table.filter _ = _
    rw [hframe .table (by simp)]
    exact List.filter_congr fun d _ => by simp [bne, BEq.beq]
  · rw [pieces_congr (hlast .counts (by simp)), pieces_congr (hvw .counts (by simp)), pieces_congr (hxv .counts (by simp)),
      pieces_congr (hadded .counts (by simp)), pieces_addPieces _ _ hd, hp d hd, pieces_congr (hframe .counts (by simp))]
  · refine (louder_evaluate w).raised _ ?_
    rw [hw, hcls, (disputes_classOf s c _).mpr hout]
    exact raised_raise _ _
  · have htotals (a b : State) (ps : List Part) (h : Within ps a b) (hps : Part.totals ∉ ps) :
        b.custody.totals = a.custody.totals ∧ b.custody.saturated = a.custody.saturated := Prod.mk.inj (h .totals hps)
    obtain ⟨hlastt, hlasts⟩ := htotals _ _ _ hlast (by simp)
    obtain ⟨hwt, hws⟩ := htotals _ _ _ hvw (by simp)
    obtain ⟨hxt, -⟩ := htotals _ _ _ hadded (by simp)
    obtain ⟨hut, -⟩ := htotals _ _ _ hframe (by simp)
    have hxtotals : x.custody.totals = s.custody.totals := hxt.trans hut
    rw [hlasts, hws, hv] at hclear
    rw [hlastt, hwt, hv, (changeTotal_clear hclear).2, hxtotals, hvalue, hdeclared, hclamped]
    rfl

section UnpackEnds

variable (hjob : s.count.job = some j) (hmode : j.mode = .unpack) (hd : endedDamaged j figure s = false)
  (hc : s.container? j.tag = some c) (hcounting : c.state = .counting)

include hjob hmode hd hc hcounting

/-- The end of an undamaged UNPACK: its pieces applied, and the deferred offer told. -/
theorem unpack_ends : ∃ t, endBatch cause figure s = raise .countDone (dropUnpacked (some c) t) ∧
    Unpacked j c s t ∧ t.count = endedEngine j cause figure s := by
  refine ⟨_, endBatch_unpack hjob hmode hd hc hcounting, unpacked_apply (by simp [valued])
    (fun d hd => atSlot_tallies s.cfg s.count.fifo false hd) rfl rfl (classify_eq s c _), ?_⟩
  have happlied : Within [.table, .totals, .counts, .float, .requests, .queue, .attn] (valued j cause figure s)
      (applyUnpack j.tag (endedTally j s) (reconciliation s.cfg c (endedTally j s)) (valued j cause figure s)) := by simp
  exact happlied .count (by simp)

theorem unpack_closed : Closed (endBatch cause figure s) := by
  obtain ⟨t, heq, -, hcount⟩ := unpack_ends (cause := cause) hjob hmode hd hc hcounting
  have hdropped : Within [.attn] t (dropUnpacked (some c) t) := by simp
  have hsame : (dropUnpacked (some c) t).count = t.count := hdropped .count (by simp)
  rw [heq]
  exact closed_raise (.inr hmode) (hsame.trans hcount)

theorem unpack_plain (hnone : c.deferred = none) : Unpacked j c s (endBatch cause figure s) := by
  obtain ⟨t, heq, hunpacked, -⟩ := unpack_ends (cause := cause) hjob hmode hd hc hcounting
  have hsame : dropUnpacked (some c) t = t := if_neg (by simp [hnone])
  rw [heq, hsame]
  exact hunpacked.of_attn (by simp) fun h => h.raise _

theorem unpack_blocked {d : DeferredOffer} (hsome : c.deferred = some d) :
    Blocked j.tag (endBatch cause figure s) ∧ (endBatch cause figure s).container? j.tag = none := by
  obtain ⟨t, heq, hunpacked, -⟩ := unpack_ends (cause := cause) hjob hmode hd hc hcounting
  have htag := tag_of_container? hc
  have htold : dropUnpacked (some c) t = raiseResult j.tag .giver (.refused .countBlocked) t := by
    rw [← htag]
    exact if_pos (by simp [hsome])
  obtain ⟨htable, -⟩ := hunpacked
  rw [heq, htold]
  refine ⟨(blocked_raiseResult j.tag t).raise _, ?_⟩
  change t.custody.table.find? (fun c => c.tag == j.tag) = none
  rw [htable, List.find?_eq_none]
  intro q hq
  simpa using (List.mem_filter.mp hq).2

end UnpackEnds

end Ends

end Target

/-! ### The three ends of a batch of a locked container (R93 to R95) -/

section Obligation

variable {j : CountJob} {c : Container} {s : State}

theorem countedGroup_eq (j : CountJob) (c : Container) (s : State) : groupOf j c s =
    { value := (endedTally j s).countedValue, suspect := ((List.range 12).map (tallyAt s.cfg s.count.fifo true)).sum,
      variance := ((endedTally j s).countedValue : Int) - c.value, cls := classOf s c (endedTally j s).countedValue,
      comp := some ((List.range 12).filterMap (fun d =>
        if tallyAt s.cfg s.count.fifo false d = 0 then none else some (d, tallyAt s.cfg s.count.fifo false d))) } := by
  have hcomp : listed (atSlot (endedTally j s).good) = (List.range 12).filterMap (fun d =>
      if tallyAt s.cfg s.count.fifo false d = 0 then none else some (d, tallyAt s.cfg s.count.fifo false d)) := by
    refine List.filterMap_congr fun d hd => ?_
    have hat : atSlot (endedTally j s).good d = tallyAt s.cfg s.count.fifo false d :=
      atSlot_tallies s.cfg s.count.fifo false (List.mem_range.mp hd)
    rw [hat]
  have hcls : (reconciliation s.cfg c (endedTally j s)).cls = classOf s c (endedTally j s).countedValue := classify_eq ..
  rw [groupOf, countedGroup, hcls, hcomp]
  rfl

/-- The container of a deferred offer that is made after its RECOUNT. -/
theorem madeOffer_recountOf (d : DeferredOffer) : madeOffer s d (recountOf j c s c) = { recountOf j c s c with
    state := .offering, deferred := none, handovers := min 255 (c.handovers + 1), refusal := none,
    handover := some { peer := d.peer, number := s.handoverCounter, purpose := d.purpose,
                       deadline := s.clock + s.cfg.transitSteps c.cls } } := by
  have hhandovers : (recountOf j c s c).handovers = c.handovers := rfl
  have hcls := recountOf_cls (j := j) (c := c) (s := s) c
  generalize recountOf j c s c = q at hhandovers hcls ⊢
  rw [← hhandovers, ← hcls]
  rfl

theorem unsentOffer_recountOf (d : DeferredOffer) : unsentOffer s d (recountOf j c s c) = { recountOf j c s c with
    handover := none, deferred := none, handovers := min 255 (c.handovers + 1), lastResult := .noAnswer,
    refusal := some { receiver := d.peer, number := s.handoverCounter, closes := s.clock + 500 } } := by
  have hstate : (recountOf j c s c).state = .held := rfl
  rw [unsentOffer, madeOffer_recountOf]
  generalize recountOf j c s c = q at hstate ⊢
  dsimp only
  rw [hstate]

theorem offerFrame_recountOf {role : Role} (hrole : s.unit.role = some role) (d : DeferredOffer) :
    offerFrame (recountOf j c s c) d.peer d.purpose s = .offer {
      role := role, number := s.handoverCounter, tag := c.tag, cls := c.cls, value := c.value,
      counted := some (endedTally j s).countedValue, origin := c.origin, purpose := d.purpose, remaining := 0,
      comp := c.comp } := by
  unfold offerFrame
  rw [hrole]
  rfl

/-- A damaged batch by HALT, whatever its records (R94). -/
theorem endedDamaged_halted (j : CountJob) (figure : Option Nat) (s : State) :
    endedDamaged j figure (damageBatch .halted s) = true := by
  rw [← Bool.not_eq_false, endedDamaged_eq_false]
  rintro ⟨⟨hzero, -⟩, -⟩
  exact add_ne_zero _ _ hzero

/-- END in a running batch ends it. -/
theorem exec_endRecord_running (hp : s.unit.power = .running) (hopen : s.count.discarding = false)
    (hrun : s.count.state = .running) (n : Nat) : exec (.endRecord n) s = .next (endBatch .endRecord (some n) s) := by
  refine (event_running hp _).trans ?_
  simp only [onCountLine, hopen, endRecord, hrun, CountState.sessionOpen, if_true, beginBatch, Bool.false_eq_true, if_false]

theorem exec_haltRecord_running (hp : s.unit.power = .running) (hopen : s.count.discarding = false)
    (hrun : s.count.state = .running) : exec .haltRecord s = .next (endBatch .halt none (damageBatch .halted s)) := by
  refine (event_running hp _).trans ?_
  simp only [onCountLine, hopen, haltRecord, hrun, Bool.false_eq_true, if_false]

theorem exec_batchIdleEnd_running (hp : s.unit.power = .running) (hopen : s.count.discarding = false)
    (hnone : s.count.assembled = []) (hrun : s.count.state = .running) :
    exec .batchIdleEnd s = .next (endBatch .idle none s) := by
  have hsame : abandonAssembly (setDiscarding false s) = s := by
    have hquiet : setDiscarding false s = s := by
      unfold setDiscarding setCount
      rw [← hopen]
    rw [hquiet]
    exact if_pos hnone
  refine (event_running hp _).trans ?_
  unfold batchIdleEnd
  rw [hsame]
  exact congrArg _ (if_pos hrun)

/-- Settles O43: each end is `endBatch`; its figure and its records decide whether it is damaged, its mode what is applied. -/
theorem targetBatchesAreApplied : Obligations.TargetBatchesAreApplied := by
  intro n j c s hbooks hp hopen hassembled hrun hjob hc hcounting hmode total good suspect pieces value sound tolerance cls
    outside group counted closed recounted unpacked spoiled blocked
  have hb := hbooks.distinct
  have hvalue : value = (endedTally j s).countedValue :=
    slotValue_congr s.cfg fun d hd => (atSlot_tallies s.cfg s.count.fifo false hd).symm
  have hgroup : group = groupOf j c s := by
    rw [countedGroup_eq, ← hvalue]
    rfl
  have hcounted : counted = recountOf j c s := by
    funext d
    unfold recountOf
    rw [disputes_iff, ← hgroup, ← hvalue]
    rfl
  have houtside : outside = Outside s c (endedTally j s).countedValue := by
    rw [← hvalue]
    rfl
  clear hgroup
  clear_value counted outside value
  subst hcounted houtside hvalue
  have hend (m : Nat) : endedDamaged j (some m) s = false ↔ s.soundBatch ∧ s.batchPieces % 4096 = m := by
    simp [endedDamaged_eq_false]
  have hidle : endedDamaged j none s = false ↔ s.soundBatch := by simp [endedDamaged_eq_false]
  have hhalt := endedDamaged_halted j none s
  have hhalted : Within [.count] s (damageBatch .halted s) := by simp
  have hexecEnd := exec_endRecord_running hp hopen hrun n
  have hexecIdle := exec_batchIdleEnd_running hp hopen hassembled hrun
  have hexecHalt := exec_haltRecord_running hp hopen hrun
  refine ⟨fun hnone => ?_, fun d hsome => ?_⟩
  · have hrecounted (cause : EndCause) (figure : Option Nat) (hd : endedDamaged j figure s = false) (hm : j.mode = .recount) :
        recounted (endBatch cause figure s) :=
      ⟨recount_closed hjob hm hd hc hcounting, recount_plain hjob hm hd hc hcounting hnone⟩
    have hunpacked (cause : EndCause) (figure : Option Nat) (hd : endedDamaged j figure s = false) (hm : j.mode = .unpack) :
        unpacked (endBatch cause figure s) :=
      ⟨unpack_closed hjob hm hd hc hcounting, unpack_plain hjob hm hd hc hcounting hnone⟩
    have hspoiled (cause : EndCause) (figure : Option Nat) {b : State} (hframe : Within [.count] s b)
        (hb' : b.count.job = some j) (hd : endedDamaged j figure b = true) : spoiled (endBatch cause figure b) :=
      ⟨spoiled_closed hb' hmode hd, spoiled_plain hframe hb' hmode hd hc hcounting hb hnone⟩
    refine ⟨fun hsound hn => ⟨_, hexecEnd, ?_, ?_⟩, fun hsound => ⟨_, hexecIdle, ?_, ?_⟩, fun hno => ⟨_, hexecEnd, ?_⟩,
      fun hno => ⟨_, hexecIdle, ?_⟩, _, hexecHalt, hspoiled _ _ hhalted hjob hhalt⟩
    · exact hrecounted _ _ ((hend n).mpr ⟨hsound, hn⟩)
    · exact hunpacked _ _ ((hend n).mpr ⟨hsound, hn⟩)
    · exact hrecounted _ _ (hidle.mpr hsound)
    · exact hunpacked _ _ (hidle.mpr hsound)
    · exact hspoiled _ _ (.refl _ s) hjob (Bool.not_eq_false _ ▸ fun h => hno ((hend n).mp h))
    · exact hspoiled _ _ (.refl _ s) hjob (Bool.not_eq_false _ ▸ fun h => hno (hidle.mp h))
  · intro p passes dropped advanced ends
    have hspoiled (cause : EndCause) (figure : Option Nat) {b : State} (hframe : Within [.count] s b)
        (hb' : b.count.job = some j) (hd : endedDamaged j figure b = true) : closed (endBatch cause figure b) ∧
          blocked (endBatch cause figure b) ∧
          (endBatch cause figure b).container? j.tag = some (dropped { c with state := .held }) :=
      ⟨spoiled_closed hb' hmode hd, spoiled_blocked hframe hb' hmode hd hc hcounting hsome⟩
    have hends (i : Instr) (cause : EndCause) (figure : Option Nat) (undamaged : Prop)
        (hexec : exec i s = .next (endBatch cause figure s)) (hdamage : endedDamaged j figure s = false ↔ undamaged) :
        ends i undamaged := by
      refine ⟨fun role hm hu hin hpasses hrole => ⟨fun hroom => ?_, fun hfull => ?_⟩, fun hm hu hno => ?_, fun hm hu => ?_,
        fun hno => ?_⟩
      · have hd := hdamage.mpr hu
        obtain ⟨hfound, hcounter, hqueue⟩ := recount_made hjob hm hd hc hcounting hsome hin hpasses hroom
        rw [madeOffer_recountOf] at hfound
        rw [offerFrame_recountOf hrole] at hqueue
        exact ⟨_, hexec, recount_closed hjob hm hd hc hcounting, hcounter, hfound, hqueue⟩
      · have hd := hdamage.mpr hu
        obtain ⟨hfound, hcounter, hloop, hlost, hresult, hnote⟩ :=
          recount_unsent hjob hm hd hc hcounting hsome hin hpasses hfull
        rw [unsentOffer_recountOf] at hfound
        exact ⟨_, hexec, recount_closed hjob hm hd hc hcounting, hcounter, hloop, hlost, hresult, hnote, hfound⟩
      · have hd := hdamage.mpr hu
        exact ⟨_, hexec, recount_closed hjob hm hd hc hcounting, recount_blocked hjob hm hd hc hcounting hsome hno⟩
      · have hd := hdamage.mpr hu
        exact ⟨_, hexec, unpack_closed hjob hm hd hc hcounting, unpack_blocked hjob hm hd hc hcounting hsome⟩
      · exact ⟨_, hexec, hspoiled _ _ (.refl _ s) hjob (Bool.not_eq_false _ ▸ fun h => hno (hdamage.mp h))⟩
    exact ⟨hends _ _ _ _ hexecIdle hidle, hends _ _ _ _ hexecEnd (hend n), fun _ _ hu => hu.elim, fun _ hu => hu.elim,
      fun _ hu => hu.elim, fun _ => ⟨_, hexecHalt, hspoiled _ _ hhalted hjob hhalt⟩⟩

end Obligation

end Sys2Proof.Machine

/-! PROOFS. Alarms, door and lamps: ALARM_CLEAR (O51), the door line and the lamp patterns (O52). -/

namespace Sys2Proof.Machine

/-! ### Event alarms set and cleared (R170) -/

/-- A queued ALARM leaves the event alarms as they are. -/
theorem events_alarmFrame (k : AlarmKind) (a : AlarmAction) (tag : Nat) (s : State) :
    (alarmFrame k a tag s).attn.events = s.attn.events := by
  obtain ⟨-, hs⟩ | ⟨-, hs⟩ := alarmFrame_cases k a tag s <;> rw [hs]
  obtain ⟨-, hs⟩ | ⟨-, -, hs⟩ | ⟨-, -, hs⟩ := chipFrame_cases 0 (.alarm { kind := k, action := a, active := s.activeAlarm, tag := tag }) s
    <;> rw [hs] <;> rfl

/-- An event alarm written is as it was written; the other alarms are as they were. -/
theorem alarmSet_withAlarm {k : AlarmKind} (hk : isEventAlarm k = true) (on : Bool) (s : State) (m : AlarmKind) :
    State.alarmSet { s with attn := s.attn.withAlarm k on } m = if m = k then on else s.alarmSet m := by
  cases k with
  | overdue => cases hk
  | unresolved => cases hk
  | totalsSaturated => cases hk
  | duplicateStation => cases m <;> rfl
  | positionLimit => cases m <;> rfl
  | doorHeld => cases m <;> rfl
  | doorUnexpected => cases m <;> rfl

theorem alarmSet_raiseAlarm {k : AlarmKind} (hk : isEventAlarm k = true) (s : State) : (raiseAlarm k s).alarmSet k = true := by
  unfold raiseAlarm
  split
  · next hset => exact hset
  · have hframe : Within [.queue, .attn] { s with attn := s.attn.withAlarm k true }
        (alarmFrame k .raised 0 { s with attn := s.attn.withAlarm k true }) := by simp
    rw [alarmSet_congr (s := { s with attn := s.attn.withAlarm k true }) (events_alarmFrame ..) (hframe .table (by simp))
      (by rw [hframe .inbound (by simp)]) (congrArg Prod.snd (hframe .totals (by simp))), alarmSet_withAlarm hk, if_pos rfl]

/-! ### ALARM_CLEAR (R172) -/

theorem alarmOfCode_none {code : Nat} (h : code = 0 ∨ 7 < code) : alarmOfCode code = none := by
  unfold alarmOfCode
  obtain rfl | h := h
  · rfl
  · simp only [show code ≠ 1 by omega, show code ≠ 2 by omega, show code ≠ 3 by omega, show code ≠ 4 by omega,
      show code ≠ 5 by omega, show code ≠ 6 by omega, show code ≠ 7 by omega, if_false]

theorem exec_alarmClear {s : State} (h : Ready s) (k : AlarmKind) :
    exec (.alarmClear (.fields (alarmCode k))) s = .next (alarmClearKind k (newSelect s)) := by
  refine (request_fields h _ alarmClear).trans (congrArg _ ?_)
  have hcode : alarmOfCode (alarmCode k) = some k := by cases k <;> rfl
  rw [alarmClear, hcode]

theorem isEventAlarm_of_ne {k : AlarmKind} (ho : k ≠ .overdue) (hu : k ≠ .unresolved) (ht : k ≠ .totalsSaturated) :
    isEventAlarm k = true := by
  cases k <;> simp_all [isEventAlarm]

theorem portRoom_iff (s : State) : s.portRoom = true ↔ portFrames s.loop.queue < 8 ∧ s.loop.queue.length < 12 := by
  simp [State.portRoom]

theorem portRoom_eq_false (s : State) : s.portRoom = false ↔ 8 ≤ portFrames s.loop.queue ∨ 12 ≤ s.loop.queue.length := by
  rw [← Bool.not_eq_true, portRoom_iff]
  omega

/-- The flag of an alarm cleared, in a new select period. -/
def alarmCleared (k : AlarmKind) (s : State) : State := { s with attn := { s.attn.withAlarm k false with returned := 0 } }

theorem withAlarm_newSelect (k : AlarmKind) (s : State) :
    { newSelect s with attn := (newSelect s).attn.withAlarm k false } = newSelect (alarmCleared k s) := by
  cases k <;> rfl

/-- An accepted ALARM_CLEAR: the flag cleared, and in ON_LOOP the ALARM queued. -/
theorem clearAlarm_eq (k : AlarmKind) (s : State) : clearAlarm k (newSelect s) =
    answer .ok [] (if s.member.state = .onLoop then
      enqueue true 0 (.alarm { kind := k, action := .cleared, active := (alarmCleared k s).activeAlarm, tag := 0 })
        (newSelect (alarmCleared k s))
      else newSelect (alarmCleared k s)) := by
  unfold clearAlarm
  rw [withAlarm_newSelect]
  exact congrArg (answer .ok []) (if_congr beq_iff_eq rfl rfl)

theorem clearAlarm_attn (k : AlarmKind) (s : State) : (clearAlarm k (newSelect s)).attn = (alarmCleared k s).attn := by
  rw [clearAlarm_eq]
  split <;> rfl

theorem clearAlarm_custody (k : AlarmKind) (s : State) : (clearAlarm k (newSelect s)).custody = s.custody := by
  rw [clearAlarm_eq]
  split <;> rfl

theorem alarmSet_clearAlarm (k : AlarmKind) (s : State) :
    (clearAlarm k (newSelect s)).alarmSet = (alarmCleared k s).alarmSet := by
  have hcustody : (clearAlarm k (newSelect s)).custody = (alarmCleared k s).custody := clearAlarm_custody k s
  funext m
  exact alarmSet_congr (by rw [clearAlarm_attn]) (by rw [hcustody]) (by rw [hcustody]) (by rw [hcustody]) m

theorem alarmSet_alarmCleared {k : AlarmKind} (hk : isEventAlarm k = true) (s : State) (m : AlarmKind) :
    (alarmCleared k s).alarmSet m = if m = k then false else s.alarmSet m := by
  rw [← alarmSet_withAlarm hk]
  exact alarmSet_congr (s := { s with attn := s.attn.withAlarm k false }) rfl rfl rfl rfl m

/-- Settles O51: the checks of R172 in their order, then `clearAlarm_eq`. -/
theorem alarmClearClearsEventAlarms : Obligations.AlarmClearClearsEventAlarms := by
  intro s h
  refine ⟨fun code hcode => ?_, fun k hk => ?_, fun k ho hu ht hset => ⟨fun hjoin hfull => ?_, fun hroom => ?_⟩⟩
  · refine (request_fields h code alarmClear).trans (congrArg _ ?_)
    rw [alarmClear, alarmOfCode_none hcode]
    rfl
  · rw [exec_alarmClear h, alarmClearKind]
    by_cases hevent : isEventAlarm k = true
    · have hclear : (newSelect s).alarmSet k = false := by
        obtain rfl | rfl | rfl | hclear := hk
        · cases hevent
        · cases hevent
        · cases hevent
        · rw [← hclear]
          cases k <;> rfl
      rw [if_neg (by simp [hevent]), if_pos (by simp [hclear])]
      rfl
    · rw [if_pos (by simpa using hevent)]
      rfl
  all_goals
    have hevent := isEventAlarm_of_ne ho hu ht
    have hset' : (newSelect s).alarmSet k = true := by
      rw [← hset]
      cases k <;> rfl
    have hmember : (newSelect s).member = s.member := rfl
    have hroom' : (newSelect s).portRoom = s.portRoom := rfl
    rw [exec_alarmClear h, alarmClearKind, hevent, hset', hmember, hroom']
  · rw [(portRoom_eq_false s).mpr hfull, hjoin]
    rfl
  · have hopen : (joiningOrJoined s.member.state && !s.portRoom) = false := by
      obtain hoff | hroom := hroom
      · rw [hoff, Bool.false_and]
      · rw [(portRoom_iff s).mpr hroom, Bool.not_true, Bool.and_false]
    rw [hopen]
    refine ⟨clearAlarm k (newSelect s), rfl, ?_, fun m hm => ?_, ?_⟩
    · rw [alarmSet_clearAlarm, alarmSet_alarmCleared hevent, if_pos rfl]
    · rw [alarmSet_clearAlarm, alarmSet_alarmCleared hevent, if_neg hm]
    · have hactive : (clearAlarm k (newSelect s)).activeAlarm = (alarmCleared k s).activeAlarm := by
        rw [State.activeAlarm, alarmSet_clearAlarm, State.activeAlarm]
      have hkept : (alarmCleared k s).attn = { (alarmCleared k s).attn with
          reasons := s.attn.reasons, mask := s.attn.mask, note := s.attn.note, returned := 0 } := by cases k <;> rfl
      rw [hactive, clearAlarm_attn, ← hkept, clearAlarm_eq]
      split <;> rfl

/-! ### The door line (R175, R176) -/

section Door

variable {s : State}

theorem openingAllowed_iff (s : State) : s.openingAllowed = true ↔
    s.door.allowanceEnds.isSome = true ∨ (s.unit.role = some .safe ∧ s.safe.window.isSome = true) ∨
      (s.unit.role = some .till ∧ s.count.state.sessionOpen = true ∧
        ∃ j, s.count.job = some j ∧ (j.mode = .intake ∨ j.mode = .payout)) := by
  unfold State.openingAllowed
  cases s.count.job <;> simp [or_assoc, and_assoc]

/-- The door once an opening edge has been seen. -/
def doorOpened (s : State) : State :=
  { s with door := { s.door with isOpen := true, openSince := some s.clock, heldRaised := false } }

theorem exec_doorOpeningEdge (hp : s.unit.power = .running) (hshut : s.door.isOpen = false) :
    exec .doorOpeningEdge s = .next (if s.openingAllowed then doorOpened s else raiseAlarm .doorUnexpected (doorOpened s)) := by
  refine (event_running hp openDoor).trans (congrArg _ ?_)
  exact if_neg (by simp [hshut])

theorem exec_doorHeld (hp : s.unit.power = .running) (hopen : s.door.isOpen = true) {o : Nat} (ho : s.door.openSince = some o) :
    exec .doorHeld s = .next (if s.door.heldRaised = false ∧ o + s.cfg.holdLimit * 100 ≤ s.clock then
      raiseAlarm .doorHeld { s with door := { s.door with heldRaised := true } } else s) := by
  refine (event_running hp holdDoor).trans (congrArg _ ?_)
  have hcond : (s.door.isOpen && !s.door.heldRaised && s.heldTooLong) = true ↔
      s.door.heldRaised = false ∧ o + s.cfg.holdLimit * 100 ≤ s.clock := by
    simp [hopen, State.heldTooLong, ho, Config.second]
  exact if_congr hcond rfl rfl

/-- An alarm raised touches the queue and the attention record only. -/
theorem raiseAlarm_queue_attn (k : AlarmKind) (s : State) : raiseAlarm k s =
    { s with loop := { s.loop with queue := (raiseAlarm k s).loop.queue }, attn := (raiseAlarm k s).attn } := by
  have hframe : Within [.queue, .attn] s (raiseAlarm k s) := by simp
  exact hframe.overlay

/-! ### The lamps (R174) -/

/-- The state in which a lamp step shows its patterns. -/
def lampStepped (s : State) : State :=
  { s with lamps := { s.lamps with step := (s.lamps.step + 1) % 8, ms := s.lamps.ms - 125 } }

theorem exec_lampStep (hp : s.unit.power = .running) :
    exec .lampStep s = .next (if s.lamps.ms < 125 then s else showLamps (lampStepped s)) := event_running hp lampAdvance

theorem getMsbD_allOnes {i : Nat} (hi : i < 8) : (0b11111111#8).getMsbD i = true := by
  interval_cases i <;> rfl

theorem getMsbD_twoBlinks {i : Nat} (hi : i < 8) : (0b10100000#8).getMsbD i = decide (i = 0 ∨ i = 2) := by
  interval_cases i <;> rfl

theorem getMsbD_fast {i : Nat} (hi : i < 8) : (0b10101010#8).getMsbD i = decide (i % 2 = 0) := by
  interval_cases i <;> rfl

theorem getMsbD_pairs {i : Nat} (hi : i < 8) : (0b11001100#8).getMsbD i = decide (i % 4 < 2) := by
  interval_cases i <;> rfl

theorem getMsbD_half {i : Nat} (hi : i < 8) : (0b11110000#8).getMsbD i = decide (i < 4) := by
  interval_cases i <;> rfl

theorem getMsbD_dark (i : Nat) : (0b00000000#8).getMsbD i = false := BitVec.getMsbD_zero

theorem inboundIn_iff (s : State) (st : InboundState) : s.inboundIn st = true ↔ ∃ e ∈ s.custody.inbound, e.state = st := by
  simp [State.inboundIn]

/-- A peer that has told an alarm is found in the Peer Table. -/
theorem peerAlarm_iff (s : State) : s.member.peers.toList.any (fun e => e.alarm.isSome) = true ↔
    ∃ n, 1 ≤ n ∧ n ≤ 56 ∧ (s.peer n).alarm.isSome = true := by
  have hpeer (i : Nat) (hi : i < 56) : s.peer (i + 1) = s.member.peers[i] := by
    simp [State.peer, hi]
  simp only [List.any_eq_true, Vector.mem_toList_iff, Vector.mem_iff_getElem]
  constructor
  · rintro ⟨e, ⟨i, hi, rfl⟩, halarm⟩
    exact ⟨i + 1, by omega, by omega, by rw [hpeer i hi]; exact halarm⟩
  · rintro ⟨n, hlow, hhigh, halarm⟩
    have hi : n - 1 < 56 := by omega
    rw [← Nat.sub_add_cancel hlow, hpeer _ hi] at halarm
    exact ⟨_, ⟨n - 1, hi, rfl⟩, halarm⟩

theorem requests_opened_iff (s : State) : s.service.requests.any (fun r => !isOpenRequest r) = true ↔
    ∃ r ∈ s.service.requests, r.phase ≠ .opened := by
  simp [isOpenRequest]

theorem exec_doorAllow (h : Ready s) (n : Nat) : exec (.doorAllow (.fields n)) s = .next (allowDoor n (newSelect s)) :=
  request_fields h n allowDoor

theorem exec_doorAllowanceEnd (hp : s.unit.power = .running) {e : Nat} (he : s.door.allowanceEnds = some e) :
    exec .doorAllowanceEnd s =
      .next (if e ≤ s.clock then { s with door := { s.door with allowanceEnds := none } } else s) := by
  refine (event_running hp endAllowance).trans (congrArg _ ?_)
  unfold endAllowance
  rw [he]
  exact if_congr decide_eq_true_iff rfl rfl

/-- The pattern of the alarm lamp, by what R174 looks at. -/
theorem alarmLamp (s : State) : (showLamps (lampStepped s)).lamps.alarm = (alarmPattern s).getMsbD ((s.lamps.step + 1) % 8) := rfl

theorem serviceLamp (s : State) :
    (showLamps (lampStepped s)).lamps.service = (servicePattern s).getMsbD ((s.lamps.step + 1) % 8) := rfl

theorem servicePattern_unsure (h : ∃ e ∈ s.custody.inbound, e.state = .unsure ∨ e.state = .unresolved) :
    servicePattern s = 0b10101010#8 := by
  obtain ⟨e, he, hstate⟩ := h
  refine if_pos (Bool.or_eq_true_iff.mpr ?_)
  exact hstate.imp (fun hu => (inboundIn_iff s _).mpr ⟨e, he, hu⟩) fun hu => (inboundIn_iff s _).mpr ⟨e, he, hu⟩

theorem inboundIn_eq_false {st : InboundState} (h : ∀ e ∈ s.custody.inbound, e.state ≠ st) : s.inboundIn st = false := by
  rw [← Bool.not_eq_true, inboundIn_iff]
  rintro ⟨e, he, hstate⟩
  exact h e he hstate

section Settled

variable (h : ∀ e ∈ s.custody.inbound, e.state ≠ .unsure ∧ e.state ≠ .unresolved)

include h

/-- The rows of the service lamp below the first. -/
theorem servicePattern_settled : servicePattern s =
    if s.inboundIn .expected then 0b11111111#8
    else if s.service.requests.any (fun r => !isOpenRequest r) then 0b11001100#8
    else if s.service.requests.any isOpenRequest || s.needHolds || s.service.list.any s.eligible then 0b11110000#8
    else 0b00000000#8 := by
  unfold servicePattern
  rw [inboundIn_eq_false fun e he => (h e he).1, inboundIn_eq_false fun e he => (h e he).2]
  rfl

theorem servicePattern_expected (he : ∃ e ∈ s.custody.inbound, e.state = .expected) : servicePattern s = 0b11111111#8 := by
  rw [servicePattern_settled h, if_pos ((inboundIn_iff s _).mpr he)]

variable (hnone : ∀ e ∈ s.custody.inbound, e.state ≠ .expected)

include hnone

theorem servicePattern_claimed (hr : ∃ r ∈ s.service.requests, r.phase ≠ .opened) : servicePattern s = 0b11001100#8 := by
  rw [servicePattern_settled h, inboundIn_eq_false hnone, if_neg Bool.false_ne_true, if_pos ((requests_opened_iff s).mpr hr)]

/-- Something waits for service: an own request, a need of the levels, or an eligible entry. -/
def State.Waiting (s : State) : Prop :=
  s.service.requests ≠ [] ∨ s.position.float.pickupNeed = true ∨ s.position.float.topupNeed = true ∨
    s.position.float.changeNeed = true ∨ ∃ e ∈ s.service.list, s.eligible e = true

theorem servicePattern_opened (hr : ∀ r ∈ s.service.requests, r.phase = .opened) :
    (s.Waiting → servicePattern s = 0b11110000#8) ∧ (¬ s.Waiting → servicePattern s = 0b00000000#8) := by
  have hopened : s.service.requests.any (fun r => !isOpenRequest r) = false := by
    rw [← Bool.not_eq_true, requests_opened_iff]
    rintro ⟨r, hmem, hphase⟩
    exact hphase (hr r hmem)
  have hany : s.service.requests.any isOpenRequest = true ↔ s.service.requests ≠ [] := by
    rw [List.any_eq_true]
    constructor
    · rintro ⟨r, hmem, -⟩
      exact List.ne_nil_of_mem hmem
    · intro hne
      obtain ⟨r, hmem⟩ := List.exists_mem_of_ne_nil _ hne
      exact ⟨r, hmem, beq_iff_eq.mpr (hr r hmem)⟩
  have hwaiting : (s.service.requests.any isOpenRequest || s.needHolds || s.service.list.any s.eligible) = true ↔ s.Waiting := by
    rw [Bool.or_eq_true, Bool.or_eq_true, hany, State.needHolds, Bool.or_eq_true, Bool.or_eq_true, List.any_eq_true, State.Waiting]
    tauto
  rw [servicePattern_settled h, inboundIn_eq_false hnone, hopened, if_neg Bool.false_ne_true, if_neg Bool.false_ne_true]
  exact ⟨fun hw => if_pos (hwaiting.mpr hw), fun hw => if_neg (hwaiting.not.mpr hw)⟩

end Settled

end Door

/-- Settles O52: the door's commands one by one, then the first row of each lamp's table that holds. -/
theorem doorAndLamps : Obligations.DoorAndLamps := by
  refine ⟨fun s => ?_, fun s hp => ⟨fun hearly => ?_, fun hdue => ?_⟩⟩
  · intro allowed
    refine ⟨fun h n => ⟨fun huc => ?_, fun huc => ?_⟩, fun hp hshut => ?_, fun hp => event_running hp closeDoor,
      fun e hp he => ⟨fun hdue => ?_, fun hearly => ?_⟩, fun o hp hopen ho => ⟨fun hno => ?_, fun hraised hdue => ?_⟩⟩
    · exact (exec_doorAllow h n).trans (congrArg _ (if_pos huc))
    · exact (exec_doorAllow h n).trans (congrArg _ (if_neg huc))
    · refine ⟨_, exec_doorOpeningEdge hp hshut, ?_, fun hallowed => ?_, fun hnot => ?_⟩
      · split
        · rfl
        · rw [raiseAlarm_queue_attn]
          rfl
      · rw [if_pos ((openingAllowed_iff s).mpr hallowed)]
        rfl
      · rw [if_neg ((openingAllowed_iff s).not.mpr hnot)]
        refine ⟨alarmSet_raiseAlarm rfl _, ?_⟩
        have hframe := raiseAlarm_queue_attn .doorUnexpected (doorOpened s)
        have hdoor : (raiseAlarm .doorUnexpected (doorOpened s)).door = (doorOpened s).door := by rw [hframe]
        rw [hdoor]
        exact hframe
    · rw [exec_doorAllowanceEnd hp he, if_pos hdue]
    · rw [exec_doorAllowanceEnd hp he, if_neg (Nat.not_le.mpr hearly)]
    · rw [exec_doorHeld hp hopen ho, if_neg]
      rintro ⟨hraised, hdue⟩
      obtain hyes | hearly := hno
      · rw [hyes] at hraised
        cases hraised
      · exact absurd hdue (Nat.not_le.mpr hearly)
    · rw [exec_doorHeld hp hopen ho, if_pos ⟨hraised, hdue⟩]
      exact ⟨_, rfl, alarmSet_raiseAlarm rfl _, raiseAlarm_queue_attn .doorHeld _⟩
  · rw [exec_lampStep hp, if_pos hearly]
  · rw [exec_lampStep hp, if_neg (Nat.not_lt.mpr hdue)]
    have hstep : (s.lamps.step + 1) % 8 < 8 := Nat.mod_lt _ (by decide)
    have hpeer (hquiet : ∀ n, (s.peer n).alarm = none) : s.member.peers.toList.any (fun e => e.alarm.isSome) = false := by
      rw [← Bool.not_eq_true, peerAlarm_iff]
      rintro ⟨n, -, -, hn⟩
      rw [hquiet n] at hn
      cases hn
    refine ⟨_, rfl, rfl, fun hany => ?_, fun hany htold => ?_, fun hany hquiet => ?_, fun hunsure => ?_, fun hsettled => ?_⟩
    · rw [alarmLamp, alarmPattern, hany]
      exact getMsbD_allOnes hstep
    · rw [alarmLamp, alarmPattern, hany, (peerAlarm_iff s).mpr htold]
      exact getMsbD_twoBlinks hstep
    · rw [alarmLamp, alarmPattern, hany, hpeer hquiet]
      exact getMsbD_dark _
    · rw [serviceLamp, servicePattern_unsure hunsure]
      exact getMsbD_fast hstep
    · refine ⟨fun hexpected => ?_, fun hnone => ⟨fun hclaimed => ?_, fun hopened => ?_⟩⟩
      · rw [serviceLamp, servicePattern_expected hsettled hexpected]
        exact getMsbD_allOnes hstep
      · rw [serviceLamp, servicePattern_claimed hsettled hnone hclaimed]
        exact getMsbD_pairs hstep
      · intro waiting
        obtain ⟨hyes, hno⟩ := servicePattern_opened hsettled hnone hopened
        refine ⟨fun hw => ?_, fun hw => ?_⟩
        · rw [serviceLamp, hyes hw]
          exact getMsbD_half hstep
        · rw [serviceLamp, hno hw]
          exact getMsbD_dark _

end Sys2Proof.Machine

/-! PROOFS. START: the listening period, the levels and the raises that the evaluation hands (O12). -/

namespace Sys2Proof.Machine

/-! ### The id of a new request (R132) -/

/-- Four ids in a row are distinct, wherever the count begins. -/
theorem nextRequestIds_distinct (id : Nat) : ((List.range 4).map (fun k => nextRequestId^[k] id)).Nodup := by
  simp only [List.range, List.range.loop, List.map, Function.iterate_succ, Function.iterate_zero, Function.comp, id_eq]
  unfold nextRequestId
  simp only [List.nodup_cons, List.mem_cons, List.not_mem_nil, or_false, not_or, List.nodup_nil, not_false_eq_true,
    and_true]
  split_ifs <;> omega

/-- A request that joins three others or fewer has an id of its own. -/
theorem newId_fresh {s : State} (hroom : s.service.requests.length < 4) : ∀ r ∈ s.service.requests, r.id ≠ s.newId := by
  intro r hr hid
  have hused : freeId s.service.requests Config.requestCap s.service.nextId ∈ s.service.requests.map (·.id) :=
    List.mem_map.mpr ⟨r, hr, hid⟩
  have hsub : (List.range 4).map (fun k => nextRequestId^[k] s.service.nextId) ⊆ s.service.requests.map (·.id) := by
    intro x hx
    obtain ⟨k, hk, rfl⟩ := List.mem_map.mp hx
    exact freeId_used hused k (by simp at hk; simp [Config.requestCap]; omega)
  have hlen := (List.subperm_of_subset (nextRequestIds_distinct s.service.nextId) hsub).length_le
  simp only [List.length_map, List.length_range] at hlen
  omega

/-! ### A raise handed by an evaluation (R129, R132) -/

/-- From `s` to `t` the request `r` has been raised, with its NEED in the queue. -/
structure Handed (r : OwnRequest) (s t : State) : Prop where
  requests : t.service.requests = s.service.requests ++ [r]
  need : ∃ g ∈ t.loop.queue, isWaitingNeed r.id g = true
  kept : ∀ id, (∃ g ∈ s.loop.queue, isWaitingNeed id g = true) → ∃ g ∈ t.loop.queue, isWaitingNeed id g = true
  length : t.loop.queue.length ≤ s.loop.queue.length + 1
  told : Raised .needRaised t
  member : t.member = s.member
  clock : t.clock = s.clock

/-- Sending a NEED leaves it in a queue with room, and every NEED that waited. -/
theorem sendNeed_waits {s : State} (hjoin : joiningOrJoined s.member.state = true) (hroom : s.loop.queue.length < 12)
    (r : OwnRequest) : (∃ g ∈ (sendNeed r s).loop.queue, isWaitingNeed r.id g = true) ∧
      (∀ id, (∃ g ∈ s.loop.queue, isWaitingNeed id g = true) → ∃ g ∈ (sendNeed r s).loop.queue, isWaitingNeed id g = true) ∧
      (sendNeed r s).loop.queue.length ≤ s.loop.queue.length + 1 := by
  have hrefreshed (id : Nat) (h : ∃ g ∈ s.loop.queue, isWaitingNeed id g = true) :
      ∃ g ∈ refreshed r s.loop.queue, isWaitingNeed id g = true := by
    obtain ⟨g, hg, hwait⟩ := h
    refine ⟨_, List.mem_map_of_mem hg, ?_⟩
    split
    · rw [isWaitingNeed_refreshNeed, hwait]
    · exact hwait
  obtain ⟨hwaits, heq⟩ | ⟨-, heq⟩ := sendNeed_cases hjoin hroom r <;> rw [heq]
  · exact ⟨hrefreshed r.id hwaits, hrefreshed, by simp [refreshed]⟩
  · exact ⟨⟨_, mem_insertFrame.mpr (.inl rfl), isWaitingNeed_needFrame r⟩,
      fun id ⟨g, hg, hwait⟩ => ⟨g, mem_insertFrame.mpr (.inr hg), hwait⟩, (insertFrame_length ..).le⟩

section Raises

variable {s : State} {k : NeedKind} {u : Urgency} {c : Composition} {v : Nat}

theorem handRaise_handed (hjoin : joiningOrJoined s.member.state = true) (hreq : s.service.requests.length < 4)
    (hroom : s.loop.queue.length < 12) : Handed (newRequest k u c v s) s (handRaise k u c v s) := by
  have heq : handRaise k u c v s =
      raise .needRaised (sendNeed (newRequest k u c v s) (addRequest (newRequest k u c v s) s)) :=
    if_neg (Nat.not_le.mpr hreq)
  obtain ⟨hneed, hkept, hlength⟩ := sendNeed_waits (s := addRequest (newRequest k u c v s) s) hjoin hroom (newRequest k u c v s)
  have hframe : Within [.queue, .attn] (addRequest (newRequest k u c v s) s)
      (sendNeed (newRequest k u c v s) (addRequest (newRequest k u c v s) s)) := by simp
  rw [heq]
  exact ⟨congrArg Prod.fst (hframe .requests (by simp)), hneed, hkept, hlength, raised_raise _ _, hframe.member,
    hframe .clock (by simp)⟩

theorem noRequestOf_iff (s : State) (k : NeedKind) : s.noRequestOf k = true ↔ ∀ r ∈ s.service.requests, r.kind ≠ k := by
  simp [State.noRequestOf]

/-- A raised request counts for its own kind only. -/
theorem Handed.noRequestOf {r : OwnRequest} {t : State} (h : Handed r s t) (hk : r.kind ≠ k) :
    t.noRequestOf k = s.noRequestOf k := by
  rw [State.noRequestOf, h.requests, List.all_append]
  simp [State.noRequestOf, hk]

theorem autoRaise_none {holds on : Bool} (h : ¬ (on = true ∧ holds = true ∧ s.noRequestOf k = true)) :
    autoRaise holds on k u c v s = s := if_neg (by simp only [Bool.and_eq_true]; tauto)

theorem autoRaise_calls {holds on : Bool} (h : on = true ∧ holds = true ∧ s.noRequestOf k = true) :
    autoRaise holds on k u c v s = handRaise k u c v s := if_pos (by simp only [Bool.and_eq_true]; tauto)

end Raises

/-! ### START (R49) -/

/-- PICKUP and TOPUP are needs of a TILL, CHANGE one of a DESK. -/
theorem needs_by_role (role : Option Role) (cfg : Settings) (p : Nat → Nat) :
    ((floatStateOf role cfg p).pickupNeed = true → role = some .till) ∧
      ((floatStateOf role cfg p).topupNeed = true → role = some .till) ∧
      ((floatStateOf role cfg p).changeNeed = true → role = some .desk) := by
  simp only [floatStateOf, Bool.and_eq_true, beq_iff_eq]
  tauto

/-- The state in which START evaluates the levels, the news of the capped mark told. -/
def started (s : State) : State :=
  let f := floatStateOf s.unit.role s.cfg s.pieces
  raiseIf (cappedNews s.unit.role s.position.float f) .topupCapped (setFloatState f { newSelect s with member :=
    { stationAt .listening s.member with mInForce := s.cfg.beaconM, duplicate := none, peers := unknownPeers,
                                         listeningEnds := some (s.clock + 850) } })

theorem exec_start {s : State} (h : Ready s) (hst : s.member.state = .stopped) (hrole : s.unit.role.isSome = true) :
    exec (.start (.fields ())) s = .next (answer .ok [] (autoRaises (started s))) := by
  refine (request_fields h () (fun _ => startRequest)).trans (congrArg _ ?_)
  have hnone : ¬ (newSelect s).unit.role.isNone = true := by
    change ¬ s.unit.role.isNone = true
    simpa [Option.isSome_iff_ne_none] using hrole
  have hstopped : ¬ (newSelect s).member.state ≠ .stopped := not_not.mpr hst
  unfold startRequest
  rw [if_neg hstopped, if_neg hnone]
  rfl

/-- A raise of this kind is called for by the levels. -/
def Calls (s : State) (k : NeedKind) (on holds : Bool) : Prop :=
  on = true ∧ holds = true ∧ ∀ r ∈ s.service.requests, r.kind ≠ k

section Start

variable {s : State}

theorem started_eq (s : State) : started s = { s with
    member := { stationAt .listening s.member with
      mInForce := s.cfg.beaconM, duplicate := none, peers := unknownPeers, listeningEnds := some (s.clock + 850) },
    position := { s.position with float := floatStateOf s.unit.role s.cfg s.pieces },
    attn := (started s).attn, port := { s.port with response := none } } := by
  unfold started raiseIf
  dsimp only
  split <;> rfl

theorem started_joining (s : State) : joiningOrJoined (started s).member.state = true := by
  rw [started_eq]
  rfl

theorem started_queue (s : State) : (started s).loop = s.loop := by rw [started_eq]
theorem started_service (s : State) : (started s).service = s.service := by rw [started_eq]

/-- The urgency of a TOPUP or CHANGE that the levels of a START call for. -/
def startUrgency (s : State) : Urgency :=
  if (floatStateOf s.unit.role s.cfg s.pieces).urgent = true then .urgent else .normal

/-- The three raises of a START's evaluation, PICKUP first. -/
def pickupRaise (s t : State) : State :=
  let f := floatStateOf s.unit.role s.cfg s.pieces
  autoRaise f.pickupNeed s.cfg.autoPickup .pickup .normal f.pickup f.pickupValue t

def topupRaise (s t : State) : State :=
  let f := floatStateOf s.unit.role s.cfg s.pieces
  autoRaise f.topupNeed s.cfg.autoTopup .topup (startUrgency s) f.topup f.topupValue t

def changeRaise (s t : State) : State :=
  let f := floatStateOf s.unit.role s.cfg s.pieces
  autoRaise f.changeNeed s.cfg.autoChange .change (startUrgency s) f.topup f.topupValue t

theorem autoRaises_started (s : State) :
    autoRaises (started s) = changeRaise s (topupRaise s (pickupRaise s (started s))) := by
  have hfloat : (started s).position.float = floatStateOf s.unit.role s.cfg s.pieces := by rw [started_eq]
  have hcfg : (started s).cfg = s.cfg := by rw [started_eq]
  rw [autoRaises, started_joining, hfloat, hcfg]
  rfl

/-- A request raised at the START of `s`: OPEN, with an id of its own, and its NEED in the queue of `t`. -/
def RaisedAtStart (s t : State) (r : OwnRequest) (k : NeedKind) (u : Urgency) (c : Composition) (v : Nat) : Prop :=
  r = { id := r.id, kind := k, comp := c, value := v, urgency := u, phase := .opened, reopened := false,
        raisedAt := s.clock, openAge := 0 } ∧
    (∀ q ∈ s.service.requests, q.id ≠ r.id) ∧ ∃ g ∈ t.loop.queue, isWaitingNeed r.id g = true

section One

variable {k : NeedKind} {u : Urgency} {c : Composition} {v : Nat}

/-- A raise in the state that START evaluates. -/
theorem started_handed (hreq : s.service.requests.length < 4) (hroom : s.loop.queue.length < 12) :
    ∃ r, Handed r (started s) (handRaise k u c v (started s)) ∧ r.kind = k ∧
      (handRaise k u c v (started s)).service.requests = s.service.requests ++ [r] ∧
      RaisedAtStart s (handRaise k u c v (started s)) r k u c v ∧ Raised .needRaised (handRaise k u c v (started s)) := by
  have hservice := started_service s
  have hhanded := handRaise_handed (k := k) (u := u) (c := c) (v := v) (started_joining s) (by rw [hservice]; exact hreq)
    (by rw [started_queue]; exact hroom)
  have hfresh := newId_fresh (s := started s) (by rw [hservice]; exact hreq)
  have hclock : (started s).clock = s.clock := by rw [started_eq]
  rw [hservice] at hfresh
  refine ⟨_, hhanded, rfl, ?_, ⟨?_, hfresh, hhanded.need⟩, hhanded.told⟩
  · rw [hhanded.requests, hservice]
  · rw [newRequest, hclock]

end One

/-- What the raises of START do, as R129 gives them by which kinds are called for. -/
theorem started_raises (s : State) :
    let f := floatStateOf s.unit.role s.cfg s.pieces
    let t := autoRaises (started s)
    let pickup := Calls s .pickup s.cfg.autoPickup f.pickupNeed
    let topup := Calls s .topup s.cfg.autoTopup f.topupNeed
    let change := Calls s .change s.cfg.autoChange f.changeNeed
    (¬ pickup → ¬ topup → ¬ change → t = started s) ∧
    (pickup → ¬ topup → s.service.requests.length < 4 → s.loop.queue.length < 12 →
      ∃ r, t.service.requests = s.service.requests ++ [r] ∧ RaisedAtStart s t r .pickup .normal f.pickup f.pickupValue ∧
        Raised .needRaised t) ∧
    (¬ pickup → topup → s.service.requests.length < 4 → s.loop.queue.length < 12 →
      ∃ r, t.service.requests = s.service.requests ++ [r] ∧ RaisedAtStart s t r .topup (startUrgency s) f.topup f.topupValue ∧
        Raised .needRaised t) ∧
    (change → s.service.requests.length < 4 → s.loop.queue.length < 12 →
      ∃ r, t.service.requests = s.service.requests ++ [r] ∧ RaisedAtStart s t r .change (startUrgency s) f.topup f.topupValue ∧
        Raised .needRaised t) ∧
    (pickup → topup → s.service.requests.length < 3 → s.loop.queue.length < 11 →
      ∃ r q, t.service.requests = s.service.requests ++ [r, q] ∧
        RaisedAtStart s t r .pickup .normal f.pickup f.pickupValue ∧
        RaisedAtStart s t q .topup (startUrgency s) f.topup f.topupValue ∧ Raised .needRaised t) := by
  intro f t pickup topup change
  have hservice := started_service s
  have hcalls {k : NeedKind} {on holds : Bool} (u : State) (hu : u.noRequestOf k = (started s).noRequestOf k) :
      (on = true ∧ holds = true ∧ u.noRequestOf k = true) ↔ Calls s k on holds := by
    rw [hu, noRequestOf_iff, hservice, Calls]
  have hroles := needs_by_role s.unit.role s.cfg s.pieces
  obtain ⟨hp, ht, hc⟩ := hroles
  have hno_change (h : s.unit.role = some .till) : ¬ change := by
    rintro ⟨-, hneed, -⟩
    rw [hc hneed] at h
    cases h
  have hno_pickup (h : s.unit.role = some .desk) : ¬ pickup := by
    rintro ⟨-, hneed, -⟩
    rw [hp hneed] at h
    cases h
  have hno_topup (h : s.unit.role = some .desk) : ¬ topup := by
    rintro ⟨-, hneed, -⟩
    rw [ht hneed] at h
    cases h
  have heq : t = changeRaise s (topupRaise s (pickupRaise s (started s))) := autoRaises_started s
  have hnoP (h : ¬ pickup) : pickupRaise s (started s) = started s := autoRaise_none (by rw [hcalls _ rfl]; exact h)
  have hnoT (u : State) (hu : u.noRequestOf .topup = (started s).noRequestOf .topup) (h : ¬ topup) : topupRaise s u = u :=
    autoRaise_none (by rw [hcalls _ hu]; exact h)
  have hnoC (u : State) (hu : u.noRequestOf .change = (started s).noRequestOf .change) (h : ¬ change) : changeRaise s u = u :=
    autoRaise_none (by rw [hcalls _ hu]; exact h)
  refine ⟨fun h1 h2 h3 => ?_, fun h1 h2 hreq hroom => ?_, fun h1 h2 hreq hroom => ?_, fun h3 hreq hroom => ?_,
    fun h1 h2 hreq hroom => ?_⟩
  · rw [heq, hnoP h1, hnoT _ rfl h2, hnoC _ rfl h3]
  · obtain ⟨r, hhanded, hkind, hresult⟩ := started_handed (k := .pickup) (u := .normal) (c := f.pickup) (v := f.pickupValue) hreq hroom
    have hraise : pickupRaise s (started s) = handRaise .pickup .normal f.pickup f.pickupValue (started s) :=
      autoRaise_calls ((hcalls _ rfl).mpr h1)
    have htill := hp h1.2.1
    rw [heq, hraise, hnoT _ (hhanded.noRequestOf (by rw [hkind]; decide)) h2,
      hnoC _ (hhanded.noRequestOf (by rw [hkind]; decide)) (hno_change htill)]
    exact ⟨r, hresult⟩
  · obtain ⟨r, hhanded, hkind, hresult⟩ := started_handed (k := .topup) (u := startUrgency s) (c := f.topup) (v := f.topupValue) hreq hroom
    have hraise : topupRaise s (started s) = handRaise .topup (startUrgency s) f.topup f.topupValue (started s) :=
      autoRaise_calls ((hcalls _ rfl).mpr h2)
    have htill := ht h2.2.1
    rw [heq, hnoP h1, hraise, hnoC _ (hhanded.noRequestOf (by rw [hkind]; decide)) (hno_change htill)]
    exact ⟨r, hresult⟩
  · obtain ⟨r, -, -, hresult⟩ := started_handed (k := .change) (u := startUrgency s) (c := f.topup) (v := f.topupValue) hreq hroom
    have hdesk := hc h3.2.1
    have hraise : changeRaise s (started s) = handRaise .change (startUrgency s) f.topup f.topupValue (started s) :=
      autoRaise_calls ((hcalls _ rfl).mpr h3)
    rw [heq, hnoP (hno_pickup hdesk), hnoT _ rfl (hno_topup hdesk), hraise]
    exact ⟨r, hresult⟩
  · obtain ⟨r, hhanded, hkind, hrequests, ⟨hr, hfresh, hneed⟩, -⟩ :=
      started_handed (k := .pickup) (u := .normal) (c := f.pickup) (v := f.pickupValue) (Nat.lt_succ_of_lt hreq) (Nat.lt_succ_of_lt hroom)
    have hraise : pickupRaise s (started s) = handRaise .pickup .normal f.pickup f.pickupValue (started s) :=
      autoRaise_calls ((hcalls _ rfl).mpr h1)
    have htill := hp h1.2.1
    rw [heq, hraise]
    generalize handRaise .pickup .normal f.pickup f.pickupValue (started s) = x at hhanded hrequests hneed ⊢
    have hsecond : topupRaise s x = handRaise .topup (startUrgency s) f.topup f.topupValue x :=
      autoRaise_calls ((hcalls _ (hhanded.noRequestOf (by rw [hkind]; decide))).mpr h2)
    have hlength : x.service.requests.length < 4 := by
      rw [hrequests, List.length_append]
      exact Nat.succ_lt_succ hreq
    have hqueue : x.loop.queue.length < 12 := by
      have hle := hhanded.length
      rw [started_queue] at hle
      omega
    have htopup := handRaise_handed (k := .topup) (u := startUrgency s) (c := f.topup) (v := f.topupValue)
      (by rw [hhanded.member]; exact started_joining s) hlength hqueue
    have hclock : x.clock = s.clock := hhanded.clock.trans (by rw [started_eq])
    have hsame : (handRaise .topup (startUrgency s) f.topup f.topupValue x).noRequestOf .change =
        (started s).noRequestOf .change := by
      rw [htopup.noRequestOf (by simp [newRequest]), hhanded.noRequestOf (by rw [hkind]; decide)]
    rw [hsecond, hnoC _ hsame (hno_change htill)]
    refine ⟨r, _, ?_, ⟨hr, hfresh, htopup.kept _ hneed⟩, ⟨?_, fun q hq => ?_, htopup.need⟩, htopup.told⟩
    · rw [htopup.requests, hrequests, List.append_assoc]
      rfl
    · rw [newRequest, hclock]
    · exact newId_fresh hlength q (by rw [hrequests]; exact List.mem_append_left _ hq)

end Start

/-- Settles O12: START evaluates in the listening state (`started`); the raises are `started_raises`. -/
theorem startBeginsListening : Obligations.StartBeginsListening := by
  intro s h
  refine ⟨fun hst hrole => ⟨_, exec_start h hst hrole, rfl, ?_⟩, fun hst hrole => ?_, fun hst => ?_⟩
  · have hframe : Within [.requests, .queue, .attn] (started s) (autoRaises (started s)) := by simp
    have hmember : (autoRaises (started s)).member = (started s).member := hframe.member
    have hposition : (autoRaises (started s)).position = (started s).position := hframe.position
    obtain ⟨hnone, hpickup, htopup, hchange, hboth⟩ := started_raises s
    refine ⟨hmember.trans (by rw [started_eq]; rfl), hposition.trans (by rw [started_eq]),
      ⟨fun h1 h2 h3 => ?_, hpickup, htopup, hchange, hboth⟩, ?_⟩
    · have hsame := hnone h1 h2 h3
      exact ⟨(congrArg State.service hsame).trans (started_service s), (congrArg State.loop hsame).trans (started_queue s)⟩
    · have hall := hframe.overlay
      generalize autoRaises (started s) = t at hall ⊢
      rw [started_eq] at hall
      rw [hall]
      rfl
  · refine (request_fields h () (fun _ => startRequest)).trans (congrArg _ ?_)
    refine (if_neg (not_not.mpr hst)).trans (if_pos ?_)
    change s.unit.role.isNone = true
    rw [hrole]
    rfl
  · refine (request_fields h () (fun _ => startRequest)).trans (congrArg _ ?_)
    exact if_pos hst

end Sys2Proof.Machine

/-! PROOFS. A frame under the station's own number (O17). -/

namespace Sys2Proof.Machine

/-! ### The queue emptied where it takes no frames (R40) -/

/-- From `s` to `t` neither the loop interface nor the membership unit nor an event alarm has changed. -/
structure Unheard (s t : State) : Prop where
  loop : t.loop = s.loop
  member : t.member = s.member
  events : t.attn.events = s.attn.events

theorem Unheard.refl (s : State) : Unheard s s := ⟨rfl, rfl, rfl⟩

theorem Unheard.trans {s t u : State} (h : Unheard s t) (k : Unheard t u) : Unheard s u :=
  ⟨k.loop.trans h.loop, k.member.trans h.member, k.events.trans h.events⟩

theorem Unheard.queueTakes {s t : State} (h : Unheard s t) : t.queueTakes = s.queueTakes := by
  rw [State.queueTakes, h.member, State.queueTakes]

theorem onLoop_of_closed {s : State} (h : s.queueTakes = false) : s.member.state ≠ .onLoop := by
  intro hst
  simp [State.queueTakes, hst] at h

theorem alarmFrame_closed {s : State} (h : s.queueTakes = false) (k : AlarmKind) (a : AlarmAction) (tag : Nat) :
    alarmFrame k a tag s = s := by
  obtain ⟨-, heq⟩ | ⟨hloop, -⟩ := alarmFrame_cases k a tag s
  · exact heq
  · exact absurd hloop (onLoop_of_closed h)

theorem chipFrame_closed {s : State} (h : s.queueTakes = false) (target : Nat) (p : Payload) : chipFrame target p s = s := by
  simp [chipFrame, h]

theorem unheard_becomeUnresolved {s : State} (h : s.queueTakes = false) (e : InboundEntry) :
    Unheard s (becomeUnresolved e s) := by
  unfold becomeUnresolved
  split
  · exact .refl s
  · rw [alarmFrame_closed]
    · exact ⟨rfl, rfl, rfl⟩
    · exact h

theorem unheard_queryUnanswered {s : State} (h : s.queueTakes = false) (e : InboundEntry) : Unheard s (queryUnanswered e s) := by
  unfold queryUnanswered
  have hcleared : Unheard s (raise .queryUnanswered (updateInbound e.tag clearQuery s)) := ⟨rfl, rfl, rfl⟩
  dsimp only
  split
  · exact hcleared.trans (unheard_becomeUnresolved (hcleared.queueTakes.trans h) e)
  · exact hcleared

/-- The report of a frame that was not acknowledged. -/
theorem unheard_report {s : State} (h : s.queueTakes = false) (f : QueuedFrame) : Unheard s (report f false s) := by
  unfold report
  split
  · unfold offerReported
    split
    · exact .refl s
    · split
      · split
        · exact .refl s
        · exact ⟨rfl, rfl, rfl⟩
      · exact .refl s
  · unfold takenReported
    split
    · exact .refl s
    · next e _ =>
      split
      · exact .refl s
      · have hunsure : Unheard s (updateInbound (‹TakenPayload›).tag
            (fun e => { e with state := .unsure, queryPending := true, queryWaitEnds := none }) s) := ⟨rfl, rfl, rfl⟩
        have hclosed := hunsure.queueTakes.trans h
        dsimp only
        rw [if_neg Bool.false_ne_true, State.chipJoins, hclosed, Bool.false_and, if_neg Bool.false_ne_true,
          chipFrame_closed hclosed]
        exact hunsure.trans (unheard_queryUnanswered hclosed _)
  · unfold queryReported
    split
    · exact .refl s
    · split
      · exact unheard_queryUnanswered h _
      · exact .refl s
  · unfold claimReported
    split
    · exact .refl s
    · split
      · exact .refl s
      · exact ⟨rfl, rfl, rfl⟩
  all_goals exact .refl s

/-- A queue that is emptied where none may be kept leaves the loop interface as it was otherwise. -/
theorem unheard_emptyQueue {s : State} (h : s.queueTakes = false) : Unheard (setQueue [] s) (emptyQueue s) := by
  refine foldl_keeps (P := fun t => Unheard (setQueue [] s) t) (fun t f ht => ?_) _ (.refl _)
  exact ht.trans (unheard_report (ht.queueTakes.trans h) f)

/-! ### Entering DUPLICATE (R54) -/

/-- The loop interface of a station that has left the loop. -/
def LoopInterface.left (l : LoopInterface) : LoopInterface :=
  { l with queue := [], beaconReady := false, announceReady := false, conflictReady := none, sending := none, slotDriven := false }

/-- The membership record of a station in DUPLICATE. -/
def duplicateRecord (cause : DuplicateCause) (serial : Option (BitVec 32)) (s : State) : Membership :=
  { stationAt .duplicate s.member with duplicate := some { cause := cause, time := s.clock, serial := serial } }

/-- A station that has become DUPLICATE. -/
structure Duplicated (cause : DuplicateCause) (serial : Option (BitVec 32)) (s t : State) : Prop where
  member : t.member = duplicateRecord cause serial s
  loop : t.loop = s.loop.left
  alarm : t.alarmSet .duplicateStation = true
  cfg : t.cfg = s.cfg
  unit : t.unit = s.unit

/-- The state in which the DUPLICATE_STATION alarm is raised. -/
def duplicating (cause : DuplicateCause) (serial : Option (BitVec 32)) (s : State) : State :=
  releaseSlot (quietLoop { s with member := duplicateRecord cause serial s })

theorem raiseAlarm_closed {s : State} (h : s.queueTakes = false) (k : AlarmKind) :
    raiseAlarm k s = { s with attn := (raiseAlarm k s).attn } := by
  unfold raiseAlarm
  split
  · rfl
  · rw [alarmFrame_closed]
    exact h

theorem enterDuplicate_duplicated (cause : DuplicateCause) (serial : Option (BitVec 32)) (s : State) :
    Duplicated cause serial s (enterDuplicate cause serial s) := by
  have heq : enterDuplicate cause serial s = emptyQueue (raiseAlarm .duplicateStation (duplicating cause serial s)) := rfl
  have hclosed : (duplicating cause serial s).queueTakes = false := rfl
  have hset : (raiseAlarm .duplicateStation (duplicating cause serial s)).alarmSet .duplicateStation = true :=
    alarmSet_raiseAlarm rfl _
  have hraised := raiseAlarm_closed hclosed .duplicateStation
  rw [heq]
  generalize raiseAlarm .duplicateStation (duplicating cause serial s) = u at hset hraised
  have htakes : u.queueTakes = false := by
    rw [hraised]
    exact hclosed
  obtain ⟨hloop, hmember, hevents⟩ := unheard_emptyQueue htakes
  have hframe : Within [.table, .inbound, .totals, .requests, .list, .queue, .attn] u (emptyQueue u) := by simp
  refine ⟨?_, ?_, ?_, ?_, ?_⟩
  · rw [hmember, hraised]
    rfl
  · rw [hloop, hraised]
    rfl
  · exact (congrArg Prod.fst hevents).trans hset
  · rw [hframe .cfg (by simp), hraised]
    rfl
  · rw [hframe .unit (by simp), hraised]
    rfl

/-! ### Delivery (R28, R33, R34) -/

section Deliver

variable {s : State} {f : Frame}

theorem deliverTargeted_missed (h : s.targeted f.target = false) : deliverTargeted f s = s :=
  if_neg (by simp [h])

theorem deliverTargeted_kept (h : deliveredIn s.member.state f.payload = false) : deliverTargeted f s = s :=
  if_neg (by simp [h])

/-- A frame that is delivered in a state in which the acknowledge slot is not driven for it. -/
theorem deliverTargeted_handled (ht : s.targeted f.target = true) (hd : deliveredIn s.member.state f.payload = true)
    (ha : acknowledgedIn s.member.state f.payload = false) : deliverTargeted f s = (handle f s).1 := by
  unfold deliverTargeted deliver
  rw [ht, hd, ha]
  dsimp only
  rw [Bool.and_false]
  rfl

/-- A frame under the station's own number, of the kind of the state's catalogue, off the loop. -/
theorem deliverTargeted_alarm {p : AlarmPayload} (hp : f.payload = .alarm p) (hown : f.sender = s.own)
    (ht : s.targeted f.target = true) (hd : deliveredIn s.member.state f.payload = true)
    (ha : acknowledgedIn s.member.state f.payload = false) :
    deliverTargeted f s = raiseIf (p.action == .raised) .peerAlarm s := by
  rw [deliverTargeted_handled ht hd ha, handle, hp]
  change raiseIf (p.action == .raised) .peerAlarm (recordAlarm f.sender p.active s) = _
  rw [recordAlarm, if_pos hown]

theorem deliverTargeted_duplicate (hst : s.member.state = .duplicate) (hp : ∀ p, f.payload ≠ .alarm p) :
    deliverTargeted f s = s := by
  by_cases ht : s.targeted f.target = true
  · cases hpay : f.payload with
    | alarm p => exact absurd hpay (hp p)
    | announce p =>
      rw [deliverTargeted_handled ht (by rw [hst, hpay]; rfl) (by rw [hst]; rfl), handle, hpay]
      rfl
    | beacon p =>
      rw [deliverTargeted_handled ht (by rw [hst, hpay]; rfl) (by rw [hst]; rfl), handle, hpay]
      rfl
    | _ => exact deliverTargeted_kept (by rw [hst, hpay]; rfl)
  · exact deliverTargeted_missed (by simpa using ht)

end Deliver

/-! ### The own number heard, by station state (R50, R52 to R54) -/

section Own

variable {f : Frame} {s : State}

/-- The state once an intact frame has taken the line. -/
theorem lineTaken_eq (s : State) : lineTaken s = { s with loop := s.loop.yielded } := rfl

theorem exec_intactFrameHeard_own (hp : s.unit.power = .running) (hf : Frame.wellFormed f = true) (hown : f.sender = s.own)
    (hon : onTheLine s.member.state = true) : exec (.intactFrameHeard f) s = .next (hearOwnNumber f (lineTaken s)) := by
  refine (event_running hp (receive f)).trans (congrArg _ ?_)
  have hsender : f.sender = s.own := hown
  unfold receive
  rw [hon, hf, if_neg (by simp), if_neg (by simp), if_pos hsender]

theorem targeted_congr {t : State} (hcfg : t.cfg = s.cfg) (hunit : t.unit = s.unit) (target : Nat) :
    t.targeted target = s.targeted target := by
  rw [State.targeted, State.own, hcfg, hunit, State.targeted, State.own]

theorem hearOwnNumber_off (h : s.member.state ≠ .onLoop) (f : Frame) :
    hearOwnNumber f s = deliverTargeted f (ownNumberHeard f s) := if_neg h

/-- A frame delivered to a station that has just become DUPLICATE: only the RAISED of an ALARM is told. -/
theorem Duplicated.delivered {cause : DuplicateCause} {serial : Option (BitVec 32)} {d : State} (h : Duplicated cause serial s d)
    (hown : f.sender = s.own) : Duplicated cause serial s (deliverTargeted f d) ∧
      (∀ p, f.payload = .alarm p → p.action = .raised → s.targeted f.target = true →
        Raised .peerAlarm (deliverTargeted f d)) := by
  have hstate : d.member.state = .duplicate := by rw [h.member]; rfl
  have hown' : f.sender = d.own := by rw [hown, State.own, State.own, h.cfg]
  have htargeted := targeted_congr h.cfg h.unit f.target
  by_cases halarm : ∃ p, f.payload = .alarm p
  · obtain ⟨p, hp⟩ := halarm
    by_cases ht : s.targeted f.target = true
    · have heq := deliverTargeted_alarm hp hown' (htargeted.trans ht) (by rw [hstate, hp]; rfl) (by rw [hstate]; rfl)
      have hframe : Within [.attn] d (raiseIf (p.action == .raised) .peerAlarm d) := by simp
      refine ⟨?_, fun q hq hraised _ => ?_⟩
      · rw [heq]
        have hloop : (raiseIf (p.action == .raised) .peerAlarm d).loop = d.loop := by rw [hframe.overlay]; rfl
        have hcfg : (raiseIf (p.action == .raised) .peerAlarm d).cfg = d.cfg := hframe .cfg (by simp)
        have hunit : (raiseIf (p.action == .raised) .peerAlarm d).unit = d.unit := hframe .unit (by simp)
        refine ⟨hframe.member.trans h.member, hloop.trans h.loop, ?_, hcfg.trans h.cfg, hunit.trans h.unit⟩
        rw [← h.alarm]
        cases hact : p.action <;> rfl
      · obtain rfl : p = q := by
          rw [hp] at hq
          exact Payload.alarm.inj hq
        rw [heq, hraised]
        exact raised_raise _ _
    · rw [deliverTargeted_missed (by rw [htargeted]; simpa using ht)]
      exact ⟨h, fun _ _ _ hyes => absurd hyes ht⟩
  · rw [deliverTargeted_duplicate hstate fun p hp => halarm ⟨p, hp⟩]
    exact ⟨h, fun p hp => absurd ⟨p, hp⟩ halarm⟩

/-- INTACT_FRAME_HEARD is the frame whatever its kind. -/
theorem exec_receivedCommand (f : Frame) (s : State) : exec (.intactFrameHeard f) s = exec (receivedCommand f) s := by
  obtain ⟨sender, target, payload⟩ := f
  cases payload <;> rfl

theorem exec_announceReceived {p : AnnouncePayload} (hf : f.payload = .announce p) :
    exec (.announceReceived f.sender f.target p) s = exec (.intactFrameHeard f) s := by
  rw [exec_receivedCommand, receivedCommand, hf]

theorem exec_conflictReceived {p : ConflictPayload} (hf : f.payload = .conflict p) :
    exec (.conflictReceived f.sender f.target p) s = exec (.intactFrameHeard f) s := by
  rw [exec_receivedCommand, receivedCommand, hf]

/-- What the obligation says of a station that has become DUPLICATE by a frame heard. -/
def HeardDuplicate (f : Frame) (s t : State) (cause : DuplicateCause) (serial : Option (BitVec 32)) : Prop :=
  t.member = duplicateRecord cause serial s ∧ t.loop.queue = [] ∧ t.loop.beaconReady = false ∧ t.loop.announceReady = false ∧
    t.loop.conflictReady = none ∧ t.loop.sending = none ∧ t.alarmSet .duplicateStation = true ∧
    (∀ p, f.payload = .alarm p → p.action = .raised → s.targeted f.target = true → Raised .peerAlarm t)

theorem heardDuplicate_of {cause : DuplicateCause} {serial : Option (BitVec 32)} {t : State}
    (h : Duplicated cause serial (lineTaken s) t)
    (htold : ∀ p, f.payload = .alarm p → p.action = .raised → s.targeted f.target = true → Raised .peerAlarm t) :
    HeardDuplicate f s t cause serial ∧ t.loop.slotDriven = false := by
  obtain ⟨hmember, hloop, halarm, -, -⟩ := h
  rw [HeardDuplicate, hmember, hloop]
  exact ⟨⟨rfl, rfl, rfl, rfl, rfl, rfl, halarm, htold⟩, rfl⟩

variable (hp : s.unit.power = .running) (hf : Frame.wellFormed f = true) (hown : f.sender = s.own)

include hp hf hown

/-- A frame that makes the station DUPLICATE. -/
theorem heard_duplicate (hoff : s.member.state ≠ .onLoop) (hon : onTheLine s.member.state = true) {cause : DuplicateCause}
    {serial : Option (BitVec 32)} (hdup : ownNumberHeard f (lineTaken s) = enterDuplicate cause serial (lineTaken s)) :
    ∃ t, exec (.intactFrameHeard f) s = .next t ∧ HeardDuplicate f s t cause serial ∧ t.loop.slotDriven = false := by
  have hsender : f.sender = (lineTaken s).own := hown
  obtain ⟨hdelivered, htold⟩ := (enterDuplicate_duplicated cause serial (lineTaken s)).delivered hsender
  refine ⟨_, exec_intactFrameHeard_own hp hf hown hon, ?_⟩
  rw [hearOwnNumber_off (s := lineTaken s) hoff, hdup]
  exact heardDuplicate_of hdelivered htold

/-- A CONFLICT of the own number, answered in its slot. -/
theorem heard_conflict {p : ConflictPayload} (hst : s.member.state = .announcing) (hpay : f.payload = .conflict p)
    (htarget : f.target = s.own) : ∃ t, exec (.intactFrameHeard f) s = .next t ∧
      HeardDuplicate f s t .conflictReceived (some p.serial) ∧ t.loop.slotDriven = true := by
  have hstate : (lineTaken s).member.state = .announcing := hst
  have heard : ownNumberHeard f (lineTaken s) = driveSlot (enterDuplicate .conflictReceived (some p.serial) (lineTaken s)) := by
    unfold ownNumberHeard
    rw [hstate, hpay]
    exact if_pos htarget
  have hdup := enterDuplicate_duplicated .conflictReceived (some p.serial) (lineTaken s)
  have hkept : deliverTargeted f (driveSlot (enterDuplicate .conflictReceived (some p.serial) (lineTaken s))) =
      driveSlot (enterDuplicate .conflictReceived (some p.serial) (lineTaken s)) := by
    refine deliverTargeted_kept ?_
    change deliveredIn (enterDuplicate .conflictReceived (some p.serial) (lineTaken s)).member.state f.payload = false
    rw [hdup.member, hpay]
    rfl
  refine ⟨_, exec_intactFrameHeard_own hp hf hown (by rw [hst]; rfl), ?_⟩
  rw [hearOwnNumber_off (by rw [hstate]; decide), heard, hkept]
  obtain ⟨⟨hmember, hqueue, hbeacon, hannounce, hconflict, hsending, halarm, -⟩, -⟩ :=
    heardDuplicate_of (f := f) (s := s) hdup fun q hq => by rw [hpay] at hq; cases hq
  exact ⟨⟨hmember, hqueue, hbeacon, hannounce, hconflict, hsending, halarm, fun q hq => by rw [hpay] at hq; cases hq⟩, rfl⟩

/-- In DUPLICATE and WITHDRAWN the frame goes straight to delivery. -/
theorem heard_off (hst : s.member.state = .duplicate ∨ s.member.state = .withdrawn) :
    exec (.intactFrameHeard f) s = .next (deliverTargeted f (lineTaken s)) := by
  have hown' : ownNumberHeard f (lineTaken s) = lineTaken s := by
    unfold ownNumberHeard
    obtain hst | hst := hst
    · rw [show (lineTaken s).member.state = .duplicate from hst]
    · rw [show (lineTaken s).member.state = .withdrawn from hst]
  have hoff : (lineTaken s).member.state ≠ .onLoop := by
    change s.member.state ≠ .onLoop
    obtain hst | hst := hst <;> rw [hst] <;> decide
  rw [exec_intactFrameHeard_own hp hf hown (by obtain hst | hst := hst <;> rw [hst] <;> rfl), hearOwnNumber_off hoff, hown']

omit hp hf hown in
/-- A kind that WITHDRAWN does not deliver, or whose block does nothing. -/
theorem deliverTargeted_withdrawn (hst : s.member.state = .withdrawn) (halarm : ∀ p, f.payload ≠ .alarm p)
    (hneed : ∀ p, f.payload ≠ .need p) (hwithdraw : ∀ p, f.payload ≠ .withdraw p) (haward : ∀ p, f.payload ≠ .award p) :
    deliverTargeted f s = s := by
  by_cases ht : s.targeted f.target = true
  · cases hpay : f.payload with
    | alarm p => exact absurd hpay (halarm p)
    | need p => exact absurd hpay (hneed p)
    | withdraw p => exact absurd hpay (hwithdraw p)
    | award p => exact absurd hpay (haward p)
    | announce p =>
      rw [deliverTargeted_handled ht (by rw [hst, hpay]; rfl) (by rw [hst]; rfl), handle, hpay]
      rfl
    | beacon p =>
      rw [deliverTargeted_handled ht (by rw [hst, hpay]; rfl) (by rw [hst]; rfl), handle, hpay]
      rfl
    | _ => exact deliverTargeted_kept (by rw [hst, hpay]; rfl)
  · exact deliverTargeted_missed (by simpa using ht)

/-- A frame that WITHDRAWN delivers, at its block. -/
theorem heard_withdrawn (hst : s.member.state = .withdrawn) (ht : s.targeted f.target = true)
    (hd : deliveredIn .withdrawn f.payload = true) :
    exec (.intactFrameHeard f) s = .next (handle f (lineTaken s)).1 := by
  rw [heard_off hp hf hown (.inr hst)]
  refine congrArg _ (deliverTargeted_handled (s := lineTaken s) ht ?_ ?_)
  · change deliveredIn s.member.state f.payload = true
    rw [hst]
    exact hd
  · change acknowledgedIn s.member.state f.payload = false
    rw [hst]
    rfl

end Own

/-! ### The Service List under the own number in WITHDRAWN (R144, R146) -/

section Lists

variable {s : State} {sender : Nat}

theorem mapService_eq (l : List ServiceEntry) (requester id : Nat) (g : ServiceEntry → ServiceEntry) :
    l.map (fun e => if e.requester == requester && e.id == id then g e else e) =
      l.map (fun e => if e.requester = requester ∧ e.id = id then g e else e) :=
  List.map_congr_left fun e _ => if_congr (by simp) rfl rfl

theorem key_of_service? {requester id : Nat} {e : ServiceEntry} (h : s.service? requester id = some e) :
    e.requester = requester ∧ e.id = id := by
  have hkey := List.find?_some h
  simpa using hkey

theorem hearNeed_refused {p : NeedPayload} (h : servesNeed s.unit.role p.kind = false) : (hearNeed sender p s).1 = s := by
  simp [hearNeed, h, notActed]

theorem hearNeed_lists {p : NeedPayload} (h : servesNeed s.unit.role p.kind = true) (hnone : s.service? sender p.id = none)
    (hroom : s.service.list.length < 16) : (hearNeed sender p s).1 = listEntry (neededEntry sender p s) s := by
  simp [hearNeed, h, hnone, hroom, Config.serviceCap, acted]

theorem hearNeed_updates {p : NeedPayload} (h : servesNeed s.unit.role p.kind = true) {e : ServiceEntry}
    (hsome : s.service? sender p.id = some e) (hwon : e.state ≠ .won) :
    (hearNeed sender p s).1 = updateService sender p.id (heardNeed p) s := by
  obtain ⟨hrequester, hid⟩ := key_of_service? hsome
  simp [hearNeed, h, hsome, acted, needKnown, hwon, hrequester, hid]

theorem hearWithdraw_none {p : WithdrawPayload} (h : s.service? sender p.id = none) : (hearWithdraw sender p s).1 = s := by
  simp [hearWithdraw, h, notActed]

theorem hearWithdraw_some {p : WithdrawPayload} {e : ServiceEntry} (h : s.service? sender p.id = some e) :
    (hearWithdraw sender p s).1 = raiseIf (withdrawsWon p.reason e) .claimLapsed (removeService sender p.id s) := by
  obtain ⟨hrequester, hid⟩ := key_of_service? h
  simp [hearWithdraw, h, acted, hrequester, hid]

theorem hearAward_elsewhere {p : AwardPayload} {e : ServiceEntry} (h : s.service? sender p.id = some e)
    (hother : p.claimant ≠ s.own) (hclaiming : e.state ≠ .claiming) : (hearAward sender p s).1 =
      raiseIf (e.state == .won) .claimLapsed (removeService sender p.id s) := by
  obtain ⟨hrequester, hid⟩ := key_of_service? h
  unfold hearAward
  rw [h]
  dsimp only
  rw [if_neg hother, awardedElsewhere, hrequester, hid]
  cases hst : e.state with
  | listed => rfl
  | claiming => exact absurd hst hclaiming
  | won => rfl

theorem hearAward_here {p : AwardPayload} {e : ServiceEntry} (h : s.service? sender p.id = some e)
    (hhere : p.claimant = s.own) (hwon : e.state ≠ .won) : (hearAward sender p s).1 =
      raise .claimWon (updateService sender p.id (wonBy p) s) := by
  obtain ⟨hrequester, hid⟩ := key_of_service? h
  unfold hearAward
  rw [h]
  dsimp only
  rw [if_pos hhere, awardedHere, hrequester, hid]
  cases hst : e.state with
  | listed => rfl
  | claiming => rfl
  | won => exact absurd hst hwon

theorem hearAward_kept {p : AwardPayload} {e : ServiceEntry} (h : s.service? sender p.id = some e)
    (hkept : if p.claimant = s.own then e.state = .won else e.state = .claiming) : (hearAward sender p s).1 = s := by
  unfold hearAward
  rw [h]
  dsimp only
  split
  · next hhere =>
    rw [if_pos hhere] at hkept
    rw [awardedHere, hkept]
    rfl
  · next hother =>
    rw [if_neg hother] at hkept
    rw [awardedElsewhere, hkept]
    rfl

/-- Attention reasons raised on a condition. -/
theorem raiseIf_attn {b : Bool} {r : Reason} {c : Prop} [Decidable c] (h : b = true ↔ c) (s : State) :
    raiseIf b r s = { s with attn := if c then s.attn.with r else s.attn } := by
  by_cases hc : c
  · rw [if_pos hc, h.mpr hc]
    rfl
  · rw [if_neg hc, Bool.eq_false_iff.mpr (h.not.mpr hc)]
    rfl

end Lists

/-- Settles O17: by station state, the membership unit's part (`heard_duplicate`, `heard_conflict`), or the block's. -/
theorem ownNumberIsHeard : Obligations.OwnNumberIsHeard := by
  intro f s hp hf hown duplicated
  have hdup (hoff : s.member.state ≠ .onLoop) (hon : onTheLine s.member.state = true) {cause : DuplicateCause}
      {serial : Option (BitVec 32)} (hdup : ownNumberHeard f (lineTaken s) = enterDuplicate cause serial (lineTaken s)) :
      ∃ t, exec (.intactFrameHeard f) s = .next t ∧ duplicated t cause serial ∧ t.loop.slotDriven = false :=
    heard_duplicate hp hf hown hoff hon hdup
  have heard {st : StationState} (hst : s.member.state = st) : (lineTaken s).member.state = st := hst
  have hloop (hst : s.member.state = .onLoop) :
      exec (.intactFrameHeard f) s = .next (ownNumberHeard f (lineTaken s)) := by
    rw [exec_intactFrameHeard_own hp hf hown (by rw [hst]; rfl)]
    exact congrArg _ (if_pos hst)
  refine ⟨fun hst => ?_, fun p hst hpay => ?_, fun p hst hpay htarget => ?_, fun hst hannounce hconflict => ?_,
    fun p hst hpay hserial => ?_, fun hst hother => ?_, ?_, fun hst => ?_⟩
  · refine hdup (by rw [hst]; decide) (by rw [hst]; rfl) ?_
    unfold ownNumberHeard
    rw [heard hst]
  · rw [exec_announceReceived hpay]
    refine hdup (by rw [hst]; decide) (by rw [hst]; rfl) ?_
    unfold ownNumberHeard
    rw [heard hst, hpay]
  · rw [exec_conflictReceived hpay]
    exact heard_conflict hp hf hown hst hpay htarget
  · refine hdup (by rw [hst]; decide) (by rw [hst]; rfl) ?_
    unfold ownNumberHeard
    rw [heard hst]
    cases hpay : f.payload with
    | announce p => exact absurd hpay (hannounce p)
    | conflict p => exact absurd hpay (hconflict p)
    | _ => rfl
  · rw [exec_announceReceived hpay, hloop hst, ownNumberHeard, heard hst, hpay]
    exact congrArg _ (if_neg hserial)
  · have hraise : ownNumberHeard f (lineTaken s) = raiseAlarm .duplicateStation (lineTaken s) := by
      unfold ownNumberHeard
      rw [heard hst]
      cases hpay : f.payload with
      | announce p => exact if_pos (hother p hpay)
      | _ => rfl
    have hframe := raiseAlarm_queue_attn .duplicateStation (lineTaken s)
    refine ⟨_, hloop hst, ?_⟩
    rw [hraise]
    refine ⟨alarmSet_raiseAlarm rfl _, ?_, hframe⟩
    rw [hframe]
    rfl
  · intro reached listKind quiet
    refine ⟨fun hst => ⟨fun hnone => ?_, fun p hreached hpay => ?_⟩, fun hst hreached => ?_⟩
    · rw [heard_off hp hf hown hst]
      refine congrArg _ ?_
      obtain hmissed | ⟨halarm, hkind⟩ := hnone
      · exact deliverTargeted_missed (s := lineTaken s) (Bool.not_eq_true _ ▸ hmissed)
      · obtain hst | hst := hst
        · exact deliverTargeted_duplicate (heard hst) halarm
        · have hlist : ¬ listKind := by
            obtain hd | hl := hkind
            · rw [hst] at hd
              cases hd
            · exact hl
          exact deliverTargeted_withdrawn (heard hst) halarm (fun p h => hlist (.inl ⟨p, h⟩))
            (fun p h => hlist (.inr (.inl ⟨p, h⟩))) (fun p h => hlist (.inr (.inr ⟨p, h⟩)))
    · rw [heard_off hp hf hown hst, deliverTargeted_alarm (s := lineTaken s) hpay hown hreached
        (by rw [hpay]; obtain hst | hst := hst <;> rw [heard hst] <;> rfl)
        (by rw [hpay]; obtain hst | hst := hst <;> rw [heard hst] <;> rfl),
        raiseIf_attn (c := p.action = .raised) (by simp)]
      rfl
    · intro relisted known without changed
      have hblock (hd : deliveredIn .withdrawn f.payload = true) := heard_withdrawn hp hf hown hst hreached hd
      refine ⟨fun p hpay => ⟨fun hserves => ?_, fun hserves hnone hroom => ?_, fun e hserves hknown hwon => ?_⟩,
        fun p hpay => ⟨fun hnone => ?_, fun e hknown => ?_⟩,
        fun p e hpay hknown => ⟨fun hother hclaiming => ?_, fun hhere hwon => ?_, fun hkept => ?_⟩⟩
      all_goals
        rw [hblock (by rw [hpay]; rfl), handle, hpay, hown]
        refine congrArg _ ?_
      · exact hearNeed_refused (s := lineTaken s) hserves
      · refine (hearNeed_lists (s := lineTaken s) hserves hnone hroom).trans ?_
        refine (raiseIf_attn (c := s.eligible (neededEntry s.own p s) = true) Iff.rfl _).trans ?_
        rfl
      · refine (hearNeed_updates (s := lineTaken s) hserves hknown hwon).trans ?_
        unfold updateService
        rw [mapService_eq]
        rfl
      · exact hearWithdraw_none (s := lineTaken s) hnone
      · refine (hearWithdraw_some (s := lineTaken s) hknown).trans ?_
        exact raiseIf_attn (by simp [withdrawsWon]) _
      · refine (hearAward_elsewhere (s := lineTaken s) hknown hother hclaiming).trans ?_
        exact raiseIf_attn (by simp) _
      · refine (hearAward_here (s := lineTaken s) hknown hhere hwon).trans ?_
        unfold updateService
        rw [mapService_eq]
        rfl
      · exact hearAward_kept (s := lineTaken s) hknown hkept
  · refine (event_running hp (receive f)).trans (congrArg _ ?_)
    refine if_pos ?_
    obtain hst | hst := hst <;> rw [hst] <;> rfl

end Sys2Proof.Machine

/-! PROOFS. The Peer Table entry of a frame's sender, and frames that are discarded (O18). -/

namespace Sys2Proof.Machine

/-! ### Tracking (R59) -/

theorem peer_of_member {s t : State} (h : t.member = s.member) (n : Nat) : t.peer n = s.peer n := by
  rw [State.peer, h, State.peer]

section Track

variable {f : Frame} {s : State}

/-- An intact frame of another station, on the line. -/
theorem exec_intactFrameHeard_peer (hp : s.unit.power = .running) (hon : onTheLine s.member.state = true)
    (hf : Frame.wellFormed f = true) (hforeign : f.sender ≠ s.own) :
    exec (.intactFrameHeard f) s = .next (deliverTargeted f (trackPeer f (lineTaken s))) := by
  refine (event_running hp (receive f)).trans (congrArg _ ?_)
  unfold receive
  rw [hon, hf, if_neg (by simp), if_neg (by simp), if_neg hforeign, hearPeer]

theorem louder_serverArrives (role : Option Role) (s : State) : Louder s (serverArrives role s) := by
  unfold serverArrives
  split
  · exact foldl_keeps (P := Louder s) (fun _ r h => h.trans (louder_sendNeed r _)) _ (.refl s)
  · exact .refl s

theorem serverArrives_off (h : s.member.state ≠ .onLoop) (role : Option Role) : serverArrives role s = s :=
  if_neg (by simpa using h)

/-- From `s` to `t` the entry of station `n` has been written, and an arrival has been told. -/
structure Tracked (n : Nat) (after : PeerEntry) (arrived : Bool) (s t : State) : Prop where
  within : Within [.peers, .queue, .attn] (lineTaken s) t
  peer : t.peer n = after
  others : ∀ m, m ≠ n → t.peer m = s.peer m
  told : arrived = true → Raised .peerChange t
  off : s.member.state ≠ .onLoop → t.loop = s.loop.yielded

theorem trackPeer_tracked {n : Nat} (hn : f.sender = n) (h1 : 1 ≤ n) (h56 : n ≤ 56) (s : State) :
    Tracked n (heardEntry f.payload (s.peer n)) (arrives f.payload (s.peer n)) s (trackPeer f (lineTaken s)) := by
  subst hn
  have hsame : Within [.queue, .attn] (setPeer f.sender (heardEntry f.payload (s.peer f.sender)) (lineTaken s))
      (trackPeer f (lineTaken s)) := by
    unfold trackPeer
    dsimp only
    split
    · exact (within_serverArrives (by simp) _).mpr ((within_raise (by simp) _).mpr (.refl _ _))
    · exact .refl _ _
  have hpeer (m : Nat) : (trackPeer f (lineTaken s)).peer m =
      (setPeer f.sender (heardEntry f.payload (s.peer f.sender)) (lineTaken s)).peer m := peer_of_member hsame.member m
  refine ⟨by simp, ?_, fun m hm => ?_, fun harrives => ?_, fun hoff => ?_⟩
  · rw [hpeer, peer_setPeer_self h1 h56]
  · rw [hpeer, peer_setPeer_of_ne hm]
    rfl
  · have harrives' : arrives f.payload ((lineTaken s).peer f.sender) = true := harrives
    unfold trackPeer
    dsimp only
    rw [if_pos harrives']
    exact (louder_serverArrives _ _).raised _ (raised_raise _ _)
  · have hmember : (setPeer f.sender (heardEntry f.payload (s.peer f.sender)) (lineTaken s)).member.state = s.member.state := by
      rw [setPeer_eq h1]
      rfl
    unfold trackPeer
    dsimp only
    split
    · rw [serverArrives_off (by exact fun h => hoff (hmember.symm.trans h)), setPeer_eq h1]
      rfl
    · rw [setPeer_eq h1]
      rfl

variable {n : Nat} {after : PeerEntry} {arrived : Bool} {t : State}

theorem Tracked.member (h : Tracked n after arrived s t) : t.member = { s.member with peers := t.member.peers } := by
  have hframe := h.within.overlay
  rw [hframe]
  rfl

theorem Tracked.custody (h : Tracked n after arrived s t) : t.custody = s.custody := h.within.custody

theorem Tracked.state (h : Tracked n after arrived s t) : t.member.state = s.member.state := by rw [h.member]

theorem Tracked.slot (h : Tracked n after arrived s t) : t.loop.slotDriven = false := by
  have hframe := h.within.overlay
  rw [hframe]
  rfl

theorem Tracked.targeted (h : Tracked n after arrived s t) (target : Nat) : t.targeted target = s.targeted target :=
  targeted_congr (h.within .cfg (by simp)) (h.within .unit (by simp)) target

/-- What the obligation says of every tracked frame. -/
def TrackedAs (n : Nat) (s t : State) : Prop :=
  (∀ m, m ≠ n → t.peer m = s.peer m) ∧ t.custody = s.custody ∧ t.member = { s.member with peers := t.member.peers } ∧
    ((s.peer n).state = .unknown ∨ (s.peer n).state = .gone → Raised .peerChange t)

theorem arrives_of_absent {p : Payload} {e : PeerEntry} (h : e.state = .unknown ∨ e.state = .gone) : arrives p e = true := by
  obtain h | h := h <;> simp [arrives, h]

theorem Tracked.trackedAs {p : Payload} (h : Tracked n after (arrives p (s.peer n)) s t) : TrackedAs n s t :=
  ⟨h.others, h.custody, h.member, fun habsent => h.told (arrives_of_absent habsent)⟩

theorem TrackedAs.driveSlot (h : TrackedAs n s t) : TrackedAs n s (driveSlot t) := h

/-- A frame whose block has nothing to do but acknowledge it. -/
theorem deliverTargeted_acted (hr : handle f t = acted t) (ht : t.targeted f.target = true)
    (hd : deliveredIn t.member.state f.payload = true) : deliverTargeted f t =
      if acknowledgedIn t.member.state f.payload then driveSlot t else t := by
  unfold deliverTargeted deliver
  rw [ht, hd, hr]
  rfl

theorem targeted_zero (s : State) : s.targeted 0 = true := rfl

/-- A BEACON or ANNOUNCE reaches every station on the line. -/
theorem delivered_on {st : StationState} (hon : onTheLine st = true) {p : Payload} (hp : plain p = false) :
    deliveredIn st p = true := by
  cases p with
  | beacon b => cases st <;> first | rfl | cases hon
  | announce a => cases st <;> first | rfl | cases hon
  | _ => cases hp

theorem delivered_alarm {st : StationState} (hon : onTheLine st = true) (p : AlarmPayload) : deliveredIn st (.alarm p) = true := by
  cases st <;> first | rfl | cases hon

/-- A frame of a kind that its target and the station state keep from its block, or whose block does nothing. -/
theorem deliverTargeted_nothing (h : t.targeted f.target = false ∨ deliveredIn t.member.state f.payload = false) :
    deliverTargeted f t = t := h.elim deliverTargeted_missed deliverTargeted_kept

/-- A frame that only BEACON and ANNOUNCE are not is told of its sender that it is there. -/
theorem plain_of_untargeted (hf : Frame.wellFormed f = true) (ht : s.targeted f.target = false) : plain f.payload = true := by
  obtain ⟨sender, target, p⟩ := f
  simp only [Frame.wellFormed, Bool.and_eq_true] at hf
  obtain ⟨⟨-, hform⟩, -⟩ := hf
  cases p with
  | beacon b =>
    obtain rfl : target = 0 := by simpa [targetForm] using hform
    cases ht
  | announce a =>
    obtain rfl : target = 0 := by simpa [targetForm] using hform
    cases ht
  | _ => rfl

/-- What is said of a tracked frame holds with an event reason told too. -/
theorem Tracked.raiseIf (h : Tracked n after arrived s t) (b : Bool) (r : Reason) :
    Tracked n after arrived s (raiseIf b r t) := by
  have hframe : Within [.attn] t (Machine.raiseIf b r t) := by simp
  have hloop : (Machine.raiseIf b r t).loop = t.loop := by rw [hframe.overlay]; rfl
  exact ⟨h.within.trans (hframe.mono (by simp)), (peer_of_member hframe.member n).trans h.peer,
    fun m hm => (peer_of_member hframe.member m).trans (h.others m hm), fun ha => (h.told ha).raiseIf b r,
    fun hoff => hloop.trans (h.off hoff)⟩

/-- The alarm kind that an ALARM carries joins the entry (R173). -/
theorem Tracked.recordAlarm (h : Tracked n after arrived s t) (h1 : 1 ≤ n) (h56 : n ≤ 56) (hforeign : n ≠ s.own)
    (active : Option AlarmKind) : Tracked n { after with alarm := active } arrived s (recordAlarm n active t) := by
  have hown : t.own = s.own := congrArg (fun c : Settings => c.number.getD 0) (h.within .cfg (by simp))
  have heq : Machine.recordAlarm n active t = setPeer n { after with alarm := active } t := by
    rw [Machine.recordAlarm, if_neg (by rw [hown]; exact hforeign), h.peer]
  rw [heq]
  refine ⟨(within_setPeer (by simp) n _).mpr h.within, peer_setPeer_self h1 h56 _ _, fun m hm => ?_, fun ha => ?_, fun hoff => ?_⟩
  · rw [peer_setPeer_of_ne hm, h.others m hm]
  · rw [setPeer_eq h1]
    exact h.told ha
  · rw [setPeer_eq h1]
    exact h.off hoff

/-- A tracked frame whose slot is driven or not. -/
theorem Tracked.driven {p : Payload} (h : Tracked n after (arrives p (s.peer n)) s t) {u : State} {b : Bool}
    (hu : u = if b then Machine.driveSlot t else t) : TrackedAs n s u ∧ u.peer n = after ∧ u.loop.slotDriven = b ∧
      (∀ r, Raised r t → Raised r u) := by
  subst hu
  cases b
  · exact ⟨h.trackedAs, h.peer, h.slot, fun _ hr => hr⟩
  · exact ⟨h.trackedAs.driveSlot, h.peer, rfl, fun _ hr => hr⟩

theorem acknowledged_beacon (st : StationState) (p : BeaconPayload) : acknowledgedIn st (.beacon p) = (st == .onLoop) := by
  cases st <;> rfl

theorem acknowledged_announce (st : StationState) (p : AnnouncePayload) :
    acknowledgedIn st (.announce p) = (st == .onLoop || st == .announcing) := by
  cases st <;> rfl

theorem acknowledged_alarm (st : StationState) (p : AlarmPayload) : acknowledgedIn st (.alarm p) = (st == .onLoop) := by
  cases st <;> rfl

/-- An ALARM of another station: its kind recorded, its RAISED told. -/
theorem deliverTargeted_alarmHeard {p : AlarmPayload} (hp : f.payload = .alarm p) (ht : t.targeted f.target = true)
    (hd : deliveredIn t.member.state f.payload = true) : deliverTargeted f t =
      if acknowledgedIn t.member.state f.payload then
        driveSlot (Machine.raiseIf (p.action == .raised) .peerAlarm (Machine.recordAlarm f.sender p.active t))
      else Machine.raiseIf (p.action == .raised) .peerAlarm (Machine.recordAlarm f.sender p.active t) := by
  have hr : handle f t = acted (Machine.raiseIf (p.action == .raised) .peerAlarm (Machine.recordAlarm f.sender p.active t)) := by
    rw [handle, hp]
    rfl
  unfold deliverTargeted deliver
  rw [ht, hd, hr]
  rfl

/-- A kind that the station state keeps from its block: what the obligation lists for LISTENING, DUPLICATE, ANNOUNCING and WITHDRAWN. -/
theorem delivered_not {st : StationState} {p : Payload}
    (h : ((st = .listening ∨ st = .duplicate) ∧ (∀ a, p ≠ .announce a) ∧ (∀ b, p ≠ .beacon b) ∧ ∀ a, p ≠ .alarm a) ∨
      (st = .announcing ∧ ((∀ a, p ≠ .announce a) ∧ (∀ b, p ≠ .beacon b) ∧ ∀ a, p ≠ .alarm a) ∧ ¬ ∃ c, p = .conflict c) ∨
      (st = .withdrawn ∧ (frameClass p = 1 ∨ frameClass p = 2 ∨ (∃ c, p = .claim c) ∨ ∃ c, p = .conflict c))) :
    deliveredIn st p = false ∧ plain p = true ∧ st ≠ .onLoop := by
  obtain ⟨hst, ha, hb, hc⟩ | ⟨rfl, ⟨ha, hb, hc⟩, hd⟩ | ⟨rfl, hclass⟩ := h
  · obtain rfl | rfl := hst <;> cases p <;> simp_all [deliveredIn, plain]
  · cases p <;> simp_all [deliveredIn, plain]
  · cases p <;> simp_all [deliveredIn, plain, frameClass]

end Track

/-- Settles O18: the entry of the sender is written by `trackPeer_tracked`; delivery then only drives the slot or tells an ALARM. -/
theorem heardFramesKeepThePeerTable : Obligations.HeardFramesKeepThePeerTable := by
  refine ⟨fun n s hp hon h1 h56 hforeign => ?_, fun f s hp => ⟨fun r hon => ?_, fun hon hf => ?_, fun r hoff => ⟨?_, ?_⟩,
    exec_receivedCommand f s⟩⟩
  · intro tracked
    have hheard {f : Frame} (hn : f.sender = n) : Tracked n (heardEntry f.payload (s.peer n)) (arrives f.payload (s.peer n)) s
        (trackPeer f (lineTaken s)) := trackPeer_tracked hn h1 h56 s
    have hexec {f : Frame} (hn : f.sender = n) (hf : Frame.wellFormed f = true) :
        exec (.intactFrameHeard f) s = .next (deliverTargeted f (trackPeer f (lineTaken s))) :=
      exec_intactFrameHeard_peer hp hon hf (by rw [hn]; exact hforeign)
    have hform {p : Payload} {target : Nat} (ht : targetForm p target = true) (hok : payloadOk p = true) :
        Frame.wellFormed { sender := n, target := target, payload := p } = true := by
      simp [Frame.wellFormed, h1, h56, Config.maxStation, ht, hok]
    refine ⟨fun p hcode => ?_, fun p => ?_, fun f hn hf hmiss => ?_, fun f hn hf ht hkind => ?_, fun p => ?_,
      fun p hlow hhigh hlive => ?_⟩
    · have htrack := hheard (f := { sender := n, target := 0, payload := .beacon p }) rfl
      refine ⟨_, hexec (f := { sender := n, target := 0, payload := .beacon p }) rfl
        (hform rfl (by simpa [payloadOk] using hcode)), ?_⟩
      rw [deliverTargeted_acted rfl (targeted_zero _) (delivered_on (by rw [htrack.state]; exact hon) rfl), htrack.state]
      obtain ⟨htracked, hpeer, hslot, -⟩ := htrack.driven rfl
      exact ⟨htracked, hpeer, hslot.trans (acknowledged_beacon _ p)⟩
    · have htrack := hheard (f := { sender := n, target := 0, payload := .announce p }) rfl
      refine ⟨_, hexec (f := { sender := n, target := 0, payload := .announce p }) rfl (hform rfl rfl), ?_⟩
      rw [deliverTargeted_acted rfl (targeted_zero _) (delivered_on (by rw [htrack.state]; exact hon) rfl), htrack.state]
      obtain ⟨htracked, hpeer, hslot, hraised⟩ := htrack.driven rfl
      exact ⟨htracked, hraised _ (htrack.told (by simp [arrives, isAnnounce])), hpeer,
        hslot.trans (acknowledged_announce _ p)⟩
    · have htrack := hheard hn
      refine ⟨_, hexec hn hf, ?_⟩
      rw [deliverTargeted_nothing (.inl ((htrack.targeted _).trans hmiss))]
      refine ⟨htrack.trackedAs, ?_, htrack.slot⟩
      rw [htrack.peer, heardEntry_plain (plain_of_untargeted hf hmiss)]
    · have htrack := hheard hn
      obtain ⟨hkept, hplain, hoff⟩ := delivered_not hkind
      refine ⟨_, hexec hn hf, ?_⟩
      rw [deliverTargeted_nothing (.inr (by rw [htrack.state]; exact hkept))]
      exact ⟨htrack.trackedAs, htrack.within.service, htrack.off hoff, by rw [htrack.peer, heardEntry_plain hplain]⟩
    · have htrack := hheard (f := { sender := n, target := 0, payload := .alarm p }) rfl
      refine ⟨_, hexec (f := { sender := n, target := 0, payload := .alarm p }) rfl (hform rfl rfl), ?_⟩
      rw [deliverTargeted_alarmHeard rfl (targeted_zero _) (delivered_alarm (by rw [htrack.state]; exact hon) p), htrack.state]
      have halarm := (htrack.recordAlarm h1 h56 hforeign p.active).raiseIf (p.action == .raised) .peerAlarm
      obtain ⟨htracked, hpeer, hslot, hraised⟩ := halarm.driven rfl
      refine ⟨htracked, fun hact => hraised _ ?_, hpeer, hslot.trans (acknowledged_alarm _ p)⟩
      rw [hact]
      exact raised_raise _ _
    · have hf : Frame.wellFormed { sender := n, target := s.own, payload := .conflict p } = true :=
        hform (by simp [targetForm, hlow, hhigh]) rfl
      refine (hexec (f := { sender := n, target := s.own, payload := .conflict p }) rfl hf).trans (congrArg _ ?_)
      have harrives : arrives (.conflict p) ((lineTaken s).peer n) = false := by
        have hstate : ((lineTaken s).peer n).state = .live := hlive
        simp [arrives, hstate, isAnnounce]
      have htrack : trackPeer { sender := n, target := s.own, payload := .conflict p } (lineTaken s) = s.heard n false := by
        simp only [trackPeer, harrives]
        exact setPeer_eq_setIfInBounds h1 _ _
      rw [htrack]
      unfold deliverTargeted deliver
      split <;> rfl
  · exact (event_running hp frameDiscarded).trans (congrArg _ (if_pos hon))
  · rw [← exec_receivedCommand]
    refine (event_running hp (receive f)).trans (congrArg _ ?_)
    unfold receive
    rw [hon, hf]
    rfl
  · exact (event_running hp frameDiscarded).trans (congrArg _ (if_neg (by simp [hoff])))
  · rw [← exec_receivedCommand]
    refine (event_running hp (receive f)).trans (congrArg _ ?_)
    unfold receive
    rw [hoff]
    rfl

end Sys2Proof.Machine

/-! PROOFS. The frame a station contends with (O19), and how frames end (O20). -/

namespace Sys2Proof.Machine

/-! ### The frame on the line (R33, R39) -/

theorem exec_frameSendStart {s : State} (hp : s.unit.power = .running) : exec .frameSendStart s = .next (frameSendStart s) :=
  event_running hp frameSendStart

theorem frameSendStart_onLoop {s : State} (h : s.member.state = .onLoop) : frameSendStart s = sendOnLoop s := by
  unfold frameSendStart
  rw [h]

theorem sendOnLoop_head {s : State} {f : QueuedFrame} {rest : List QueuedFrame} (h : s.loop.queue = f :: rest) :
    sendOnLoop s = sendHead f rest s := by
  unfold sendOnLoop
  rw [h]

theorem freshPayload_offer {s : State} {o : OfferPayload} {c : Container} {h : HandoverFields} (hc : s.container? o.tag = some c)
    (hh : c.handover = some h) :
    s.freshPayload (.offer o) = .offer { o with remaining := (h.deadline - s.clock + 5999) / 6000 } := by
  simp [State.freshPayload, hc, hh, minutesLeft, Config.minute]

theorem freshPayload_taken {s : State} {o : TakenPayload} {e : InboundEntry} (he : s.inbound? o.tag = some e) :
    s.freshPayload (.taken o) = .taken { o with number := e.number, value := e.value } := by
  simp [State.freshPayload, he]

theorem freshPayload_other {s : State} {p : Payload} (ho : ∀ o, p ≠ .offer o) (ht : ∀ o, p ≠ .taken o) : s.freshPayload p = p := by
  cases p with
  | offer o => exact absurd rfl (ho o)
  | taken o => exact absurd rfl (ht o)
  | _ => rfl

theorem beaconFlags_eq {s : State} {role : Role} (h : s.unit.role = some role) : s.beaconFlags =
    { pickupNeed := decide (role = .till) && s.position.float.pickupNeed,
      topupNeed := decide (role = .till) && s.position.float.topupNeed,
      changeNeed := decide (role = .desk) && s.position.float.changeNeed,
      windowOpen := decide (role = .safe) && s.safe.window.isSome,
      alarmActive := s.anyAlarm, countBusy := s.count.state.sessionOpen } := by
  rw [State.beaconFlags, h]
  cases role <;> rfl

theorem openCount_eq (s : State) : s.openCount = (s.service.requests.filter (fun r => r.phase = .opened)).length :=
  congrArg List.length (List.filter_congr fun r _ => by simp [BEq.beq])

/-- Settles O19: the queue head, then a CONFLICT, then a BEACON; in ANNOUNCING the ANNOUNCE. -/
theorem stationContendsWithOneFrame : Obligations.StationContendsWithOneFrame := by
  intro s hp
  refine ⟨fun f rest hst hq => ?_, fun answered hst hq hready => ?_, fun role hst hq hconflict hready hrole => ?_,
    fun role hst hready hrole => ?_, fun hloop hann => ?_⟩
  all_goals rw [exec_frameSendStart hp]
  · rw [frameSendStart_onLoop hst, sendOnLoop_head hq]
    refine ⟨s.freshPayload f.payload, rfl, fun o c h hf hc hh => ?_, fun o e hf he => ?_, freshPayload_other⟩
    · rw [hf, freshPayload_offer hc hh]
    · rw [hf, freshPayload_taken he]
  · rw [frameSendStart_onLoop hst]
    unfold sendOnLoop
    rw [hq, hready]
    rfl
  · rw [frameSendStart_onLoop hst]
    unfold sendOnLoop
    rw [hq, hconflict]
    dsimp only
    rw [if_pos hready, State.beacon, hrole, beaconFlags_eq hrole, openCount_eq]
    rfl
  · unfold frameSendStart
    rw [hst]
    dsimp only
    rw [if_pos hready, State.announce, hrole]
    rfl
  · refine congrArg _ ?_
    unfold frameSendStart
    cases hst : s.member.state with
    | onLoop => exact absurd hst hloop
    | announcing => exact absurd hst hann
    | _ => rfl

/-! ### Reports and the fault score (R41) -/

section Score

variable (n : Nat) (s : State)

theorem chipFrame_setScore (target : Nat) (p : Payload) :
    chipFrame target p (setScore n s) = setScore n (chipFrame target p s) := by
  unfold chipFrame
  rw [apply_ite (setScore n), apply_ite (setScore n)]
  rfl

theorem becomeUnresolved_setScore (e : InboundEntry) :
    becomeUnresolved e (setScore n s) = setScore n (becomeUnresolved e s) := by
  unfold becomeUnresolved alarmFrame
  rw [apply_ite (setScore n), apply_ite (setScore n), ← chipFrame_setScore]
  rfl

theorem queryUnanswered_setScore (e : InboundEntry) : queryUnanswered e (setScore n s) = setScore n (queryUnanswered e s) := by
  unfold queryUnanswered
  dsimp only
  rw [apply_ite (setScore n), ← becomeUnresolved_setScore]
  rfl

theorem offerReported_setScore (tag number : Nat) :
    offerReported tag number false (setScore n s) = setScore n (offerReported tag number false s) := by
  have hfound : (setScore n s).container? tag = s.container? tag := rfl
  unfold offerReported
  rw [hfound]
  split
  · rfl
  · split
    · rw [apply_ite (setScore n)]
      rfl
    · rfl

theorem takenReported_setScore (tag : Nat) :
    takenReported tag false (setScore n s) = setScore n (takenReported tag false s) := by
  have hfound : (setScore n s).inbound? tag = s.inbound? tag := rfl
  unfold takenReported
  rw [hfound]
  split
  · rfl
  · dsimp only
    rw [apply_ite (setScore n), if_neg Bool.false_ne_true, if_neg Bool.false_ne_true, apply_ite (setScore n),
      ← queryUnanswered_setScore, ← chipFrame_setScore]
    rfl

theorem queryReported_setScore (tag number : Nat) :
    queryReported tag number false (setScore n s) = setScore n (queryReported tag number false s) := by
  have hfound : (setScore n s).inbound? tag = s.inbound? tag := rfl
  unfold queryReported
  rw [hfound]
  split
  · rfl
  · rw [if_neg Bool.false_ne_true, if_neg Bool.false_ne_true, apply_ite (setScore n), queryUnanswered_setScore]

theorem claimReported_setScore (requester id : Nat) :
    claimReported requester id false (setScore n s) = setScore n (claimReported requester id false s) := by
  have hfound : (setScore n s).service? requester id = s.service? requester id := rfl
  unfold claimReported
  rw [hfound]
  split
  · rfl
  · rw [apply_ite (setScore n)]
    rfl

/-- The report of a frame does not look at the fault score. -/
theorem reportLine_setScore (q : Option QueuedFrame) :
    reportLine q false (setScore n s) = setScore n (reportLine q false s) := by
  cases q with
  | none => rfl
  | some f =>
    change report f false (setScore n s) = setScore n (report f false s)
    unfold report
    cases f.payload with
    | offer p => exact offerReported_setScore n s p.tag p.number
    | taken p => exact takenReported_setScore n s p.tag
    | query p => exact queryReported_setScore n s p.tag p.number
    | claim p => exact claimReported_setScore n s f.target p.id
    | _ => rfl

end Score

/-! ### How frames end (R36, R41, R42) -/

section Ends

variable {f : Frame} {s : State}

theorem lineFrame_none (h : ∀ q ∈ s.loop.queue, q.onLine = false) : s.lineFrame = none :=
  List.find?_eq_none.mpr fun q hq => by rw [h q hq]; decide

theorem exec_frameSent (hp : s.unit.power = .running) (hs : s.loop.sending = some f) (a : Bool) :
    exec (.frameSent a) s = .next (finishFrame f a s) := by
  refine (event_running hp (sentOf (fun _ => true) a)).trans (congrArg _ ?_)
  unfold sentOf
  rw [hs]
  rfl

theorem exec_readBackFault (hp : s.unit.power = .running) (hs : s.loop.sending = some f) :
    exec .readBackFault s = .next (faultFrame f s) := by
  refine (event_running hp readBackFault).trans (congrArg _ ?_)
  unfold readBackFault
  rw [hs]

/-- A kind that no block of this station asked for. -/
def untold (p : Payload) : Bool :=
  match p with
  | .offer _ => false
  | .taken _ => false
  | .query _ => false
  | .claim _ => false
  | _ => true

theorem report_untold {q : QueuedFrame} (h : untold q.payload = true) (a : Bool) (s : State) : report q a s = s := by
  unfold report
  cases hp : q.payload <;> first | rfl | simp [untold, hp] at h

theorem reportLine_untold {q : Option QueuedFrame} (h : ∀ f, q = some f → untold f.payload = true) (a : Bool) (s : State) :
    reportLine q a s = s := by
  cases q with
  | none => rfl
  | some f => exact report_untold (h f rfl) a s

/-- The state once a frame has left the line and been reported as lost. -/
def lost (f : Frame) (s : State) : State := reportLine s.lineFrame false (leaveLine f.payload s)

theorem lost_within (f : Frame) (s : State) :
    Within [.table, .inbound, .totals, .requests, .list, .queue, .attn] (leaveLine f.payload s) (lost f s) := by
  unfold lost
  cases s.lineFrame with
  | none => exact .refl _ _
  | some q => exact (within_report (by simp) q false).mpr (.refl _ _)

theorem leaveLine_score (p : Payload) (s : State) : (leaveLine p s).loop.faultScore = s.loop.faultScore := by
  cases p <;> rfl

theorem leaveLine_sending (p : Payload) (s : State) : (leaveLine p s).loop.sending = none := by
  cases p <;> rfl

theorem leaveLine_member (p : Payload) (s : State) : (leaveLine p s).member = s.member := by
  cases p <;> rfl

theorem leaveLine_clock (p : Payload) (s : State) : (leaveLine p s).clock = s.clock := by
  cases p <;> rfl

theorem lost_loop (f : Frame) (s : State) : (lost f s).loop.faultScore = s.loop.faultScore ∧ (lost f s).loop.sending = none := by
  have hframe := (lost_within f s).overlay
  rw [hframe]
  exact ⟨leaveLine_score f.payload s, leaveLine_sending f.payload s⟩

theorem faultFrame_eq (f : Frame) (s : State) :
    faultFrame f s = afterFault f.payload (setScore (raisedScore s.loop.faultScore) (lost f s)) := by
  have heq : faultFrame f s = afterFault f.payload (setScore (raisedScore (lost f s).loop.faultScore) (lost f s)) := rfl
  rw [heq, (lost_loop f s).1]

theorem raisedScore_low {n : Nat} (h : n < 20) : raisedScore n = n + 4 := by
  unfold raisedScore Config.faultMax
  omega

theorem faultFrame_low (h : s.loop.faultScore < 20) : faultFrame f s =
    if isAnnounce f.payload then
      { setScore (s.loop.faultScore + 4) (lost f s) with
        loop := { (setScore (s.loop.faultScore + 4) (lost f s)).loop with announceReady := true } }
    else setScore (s.loop.faultScore + 4) (lost f s) := by
  rw [faultFrame_eq, raisedScore_low h]
  refine if_neg ?_
  change ¬ 24 ≤ s.loop.faultScore + 4
  omega

theorem faultFrame_high (h : 20 ≤ s.loop.faultScore) :
    faultFrame f s = enterWithdrawn (setScore (min 31 (s.loop.faultScore + 4)) (lost f s)) := by
  rw [faultFrame_eq]
  refine if_pos ?_
  change 24 ≤ min 31 (s.loop.faultScore + 4)
  omega

theorem enterWithdrawn_loop (s : State) : (enterWithdrawn s).loop =
    { s.loop with beaconReady := false, announceReady := false, conflictReady := none, sending := none, slotDriven := false } := rfl

/-- The report command of the frame's kind ends it cleanly. -/
theorem exec_reportCommand (hp : s.unit.power = .running) (hs : s.loop.sending = some f) {report : Instr}
    (h : ((∃ p, f.payload = .offer p) ∧ report = .offerReport false) ∨ ((∃ p, f.payload = .taken p) ∧ report = .takenReport false) ∨
      ((∃ p, f.payload = .query p) ∧ report = .queryReport false) ∨ ((∃ p, f.payload = .claim p) ∧ report = .claimReport false)) :
    exec report s = .next (setScore (s.loop.faultScore - 1) (lost f s)) ∧ isAnnounce f.payload = false := by
  have hsent (kind : Payload → Bool) (hk : kind f.payload = true) (hann : isAnnounce f.payload = false) :
      event s (sentOf kind false) = .next (setScore (s.loop.faultScore - 1) (lost f s)) := by
    refine (event_running hp _).trans (congrArg _ ?_)
    unfold sentOf
    rw [hs]
    dsimp only
    rw [if_pos hk, finishFrame, startWait, hann, if_neg Bool.false_ne_true, reportLine_setScore]
    rfl
  obtain ⟨⟨p, hpay⟩, rfl⟩ | ⟨⟨p, hpay⟩, rfl⟩ | ⟨⟨p, hpay⟩, rfl⟩ | ⟨⟨p, hpay⟩, rfl⟩ := h
  · exact ⟨hsent isOffer (by rw [hpay]; rfl) (by rw [hpay]; rfl), by rw [hpay]; rfl⟩
  · exact ⟨hsent isTaken (by rw [hpay]; rfl) (by rw [hpay]; rfl), by rw [hpay]; rfl⟩
  · exact ⟨hsent isQuery (by rw [hpay]; rfl) (by rw [hpay]; rfl), by rw [hpay]; rfl⟩
  · exact ⟨hsent isClaim (by rw [hpay]; rfl) (by rw [hpay]; rfl), by rw [hpay]; rfl⟩

theorem lost_untold (h : ∀ q, s.lineFrame = some q → untold q.payload = true) : lost f s = leaveLine f.payload s :=
  reportLine_untold h false _

end Ends

/-- Settles O20: clean ends by `finishFrame`, faults by `faultFrame_low` and `faultFrame_high`, a lost serial by `enterDuplicate_duplicated`. -/
theorem framesEndCleanlyOrFail : Obligations.FramesEndCleanlyOrFail := by
  refine ⟨fun f s hp hs => ⟨fun a p hpay hidle => ?_, fun a p hpay hidle => ?_, fun p hpay hidle => ?_,
    fun a q hq hpay hkind => ?_⟩, fun f s hp hs => ⟨fun p hpay hidle hlow => ?_, fun p hpay hidle hlow => ?_,
    fun report u hreport hexec => ⟨fun hlow => ?_, fun hhigh => ?_⟩, fun hkind hline hhigh => ?_,
    fun p winner hpay => ?_, fun winner hother => ?_⟩⟩
  · rw [exec_frameSent hp hs, finishFrame, hpay, lineFrame_none hidle]
    rfl
  · rw [exec_frameSent hp hs, finishFrame, hpay, lineFrame_none hidle]
    rfl
  · refine (event_running hp (sentOf isAnnounce false)).trans (congrArg _ ?_)
    unfold sentOf
    rw [hs]
    dsimp only
    rw [finishFrame, hpay, lineFrame_none hidle]
    rfl
  · have huntold : untold q.payload = true := by
      rw [hpay]
      cases hf : f.payload <;> simp_all [untold, frameClass]
    have hplain : leaveLine f.payload s =
        { s with loop := { s.loop with sending := none, queue := s.loop.queue.filter (fun f => !f.onLine) } } ∧
        isAnnounce f.payload = false := by
      cases hf : f.payload <;> simp_all [leaveLine, isAnnounce, frameClass]
    obtain ⟨hleave, hann⟩ := hplain
    have hlinef : s.lineFrame = some q := hq
    rw [exec_frameSent hp hs, finishFrame, hlinef, hleave, startWait, hann]
    exact congrArg _ (report_untold huntold a _)
  · rw [exec_readBackFault hp hs, faultFrame_low hlow, lost_untold (by rw [lineFrame_none hidle]; nofun), hpay]
    rfl
  · rw [exec_readBackFault hp hs, faultFrame_low hlow, lost_untold (by rw [lineFrame_none hidle]; nofun), hpay]
    rfl
  · obtain ⟨hended, hann⟩ := exec_reportCommand hp hs hreport
    obtain rfl : setScore (s.loop.faultScore - 1) (lost f s) = u := by
      rw [hended] at hexec
      exact Host.Outcome.next.inj hexec
    rw [exec_readBackFault hp hs, faultFrame_low hlow, hann]
    rfl
  · obtain ⟨hended, -⟩ := exec_reportCommand hp hs hreport
    obtain rfl : setScore (s.loop.faultScore - 1) (lost f s) = u := by
      rw [hended] at hexec
      exact Host.Outcome.next.inj hexec
    obtain ⟨-, hsending⟩ := lost_loop f s
    have hleft : (lost f s).clock = (leaveLine f.payload s).clock := (lost_within f s) .clock (by simp)
    have hclock : (lost f s).clock = s.clock := hleft.trans (leaveLine_clock f.payload s)
    refine ⟨_, exec_readBackFault hp hs, ?_⟩
    rw [faultFrame_high hhigh]
    refine ⟨raised_raise _ _, ?_, ?_, rfl, rfl⟩
    · rw [← hclock]
      rfl
    · rw [enterWithdrawn_loop]
      simp only [setScore, hsending]
  · have huntold (q : QueuedFrame) (hq : s.lineFrame = some q) : untold q.payload = true := by
      rw [hline q (List.mem_of_find?_eq_some hq) (List.find?_some hq)]
      obtain ⟨p, hp⟩ | ⟨p, hp⟩ | ⟨p, hp⟩ := hkind <;> rw [hp] <;> rfl
    refine ⟨_, exec_readBackFault hp hs, ?_⟩
    rw [faultFrame_high hhigh, lost_untold huntold]
    refine ⟨raised_raise _ _, ?_⟩
    obtain ⟨p, hp⟩ | ⟨p, hp⟩ | ⟨p, hp⟩ := hkind <;> rw [hp] <;> rfl
  · have hexec : exec (.announceLostSerial winner) s = .next (enterDuplicate .lostSerial (some winner) s) := by
      refine (event_running hp (announceLost winner)).trans (congrArg _ ?_)
      unfold announceLost
      rw [hs]
      dsimp only
      rw [hpay]
      rfl
    obtain ⟨hmember, hloop, halarm, -, -⟩ := enterDuplicate_duplicated .lostSerial (some winner) s
    refine ⟨_, hexec, halarm, ?_, ?_, ?_, ?_, ?_, hmember⟩ <;> rw [hloop] <;> rfl
  · refine (event_running hp (announceLost winner)).trans (congrArg _ ?_)
    unfold announceLost
    rw [hs]
    refine if_neg ?_
    cases hf : f.payload with
    | announce p => exact absurd hf (hother p)
    | _ => exact Bool.false_ne_true

end Sys2Proof.Machine

/-! PROOFS. OFFER and its report, and the timers of a handover (O21, O22). -/

namespace Sys2Proof.Machine

/-! ### What the operations of a handover write -/

/-- At the giver a request linked to the tag goes back to CLAIMED (R141). -/
theorem toldSetback_giver (tag : Nat) (s : State) : toldSetback true tag s = { s with
    service := { s.service with requests := s.service.requests.map (fun r =>
      if linkedTo tag r = true ∧ r.kind = .pickup then { r with phase := backToClaimed r.phase } else r) } } := by
  have hmap : s.service.requests.map (fun r =>
      if linkedTo tag r && requesterGives r.kind == true then { r with phase := backToClaimed r.phase } else r) =
      s.service.requests.map (fun r =>
        if linkedTo tag r = true ∧ r.kind = .pickup then { r with phase := backToClaimed r.phase } else r) :=
    List.map_congr_left fun r _ => if_congr (by simp [requesterGives_eq]) rfl rfl
  unfold toldSetback
  rw [hmap]
  rfl

/-- At the receiver likewise, for the kinds whose requester takes. -/
theorem toldSetback_receiver (tag : Nat) (s : State) : toldSetback false tag s = { s with
    service := { s.service with requests := s.service.requests.map (fun r =>
      if linkedTo tag r = true ∧ r.kind ≠ .pickup then { r with phase := backToClaimed r.phase } else r) } } := by
  have hmap : s.service.requests.map (fun r =>
      if linkedTo tag r && requesterGives r.kind == false then { r with phase := backToClaimed r.phase } else r) =
      s.service.requests.map (fun r =>
        if linkedTo tag r = true ∧ r.kind ≠ .pickup then { r with phase := backToClaimed r.phase } else r) :=
    List.map_congr_left fun r _ => if_congr (by simp [requesterGives_eq]) rfl rfl
  unfold toldSetback
  rw [hmap]
  rfl

theorem removeInbound_eq (tag : Nat) (s : State) : removeInbound tag s =
    { s with custody := { s.custody with inbound := s.custody.inbound.filter (fun d => d.tag ≠ tag) } } := by
  have hfilter : s.custody.inbound.filter (fun e => e.tag != tag) = s.custody.inbound.filter (fun d => d.tag ≠ tag) :=
    List.filter_congr fun e _ => by simp [bne, beq_eq_decide]
  unfold removeInbound
  rw [hfilter]
  rfl

/-- The table of a state in which a container has been changed twice. -/
theorem tableWith_tableWith {s t : State} {tag : Nat} {f g : Container → Container} (ht : t.custody.table = s.tableWith tag f)
    (hf : ∀ c, (f c).tag = c.tag) : t.tableWith tag g = s.tableWith tag (fun c => g (f c)) := by
  rw [State.tableWith, ht, State.tableWith, List.map_map]
  refine List.map_congr_left fun c _ => ?_
  by_cases h : c.tag = tag <;> simp [h, hf]

/-- An alarm frame touches the queue and the attention record only. -/
theorem alarmFrame_queue_attn (k : AlarmKind) (a : AlarmAction) (tag : Nat) (s : State) : alarmFrame k a tag s =
    { s with loop := { s.loop with queue := (alarmFrame k a tag s).loop.queue }, attn := (alarmFrame k a tag s).attn } := by
  have hframe : Within [.queue, .attn] s (alarmFrame k a tag s) := by simp
  exact hframe.overlay

/-! ### OFFER (R64, R65, R83) -/

section Offer

variable {f : OfferFields} {c : Container} {s : State}

theorem exec_offer (h : Ready s) (f : OfferFields) :
    exec (.offer (.fields f)) s = .next (onLoop offer f (newSelect s)) := request_fields h f (onLoop offer)

theorem namesPeer_iff (s : State) (n : Nat) : s.namesPeer n = true ↔ 1 ≤ n ∧ n ≤ 56 ∧ n ≠ s.own := by
  simp [State.namesPeer, Config.maxStation, and_assoc]

/-- OFFER on the loop, to a number that names a peer. -/
theorem exec_offer_named (h : Ready s) (hjoin : joiningOrJoined s.member.state = true) (hn : s.namesPeer f.receiver = true) :
    exec (.offer (.fields f)) s = .next (match s.container? f.tag with
      | none => refuse .notFound (newSelect s)
      | some c => offerFound c f (newSelect s)) := by
  have hn' : (newSelect s).namesPeer f.receiver = true := hn
  rw [exec_offer h, onLoop, if_pos (show joiningOrJoined (newSelect s).member.state = true from hjoin), offer, hn']
  rfl

theorem exec_offer_found (h : Ready s) (hjoin : joiningOrJoined s.member.state = true) (hn : s.namesPeer f.receiver = true)
    (hc : s.container? f.tag = some c) : exec (.offer (.fields f)) s = .next (offerFound c f (newSelect s)) := by
  rw [exec_offer_named h hjoin hn, hc]

theorem exec_offer_held (h : Ready s) (hjoin : joiningOrJoined s.member.state = true) (hn : s.namesPeer f.receiver = true)
    (hc : s.container? f.tag = some c) (hcls : c.cls ≠ .courierSack) (hheld : c.state = .held) :
    exec (.offer (.fields f)) s = .next (offerHeld c f (newSelect s)) := by
  rw [exec_offer_found h hjoin hn hc, offerFound, if_neg hcls, if_neg (by rw [hheld]; decide), if_neg (not_not.mpr hheld)]

theorem peerReachable_iff (e : PeerEntry) :
    peerReachable e = true ↔ (e.state = .live ∨ e.state = .quiet) ∧ e.role.isSome = true := by
  simp [peerReachable]

/-- A receiver that is not there, or whose role is not known, is not offered to. -/
theorem peerReachable_absent {e : PeerEntry} (h : e.state = .unknown ∨ e.state = .gone ∨ e.role = none) :
    peerReachable e = false := by
  rw [← Bool.not_eq_true, peerReachable_iff]
  rintro ⟨hstate, hrole⟩
  obtain hu | hg | hn := h
  · rw [hu] at hstate
    simp at hstate
  · rw [hg] at hstate
    simp at hstate
  · rw [hn] at hrole
    cases hrole

/-- The checks of R64 that a HELD container has passed. -/
structure Offerable (s : State) (c : Container) (receiver : Nat) : Prop where
  undisputed : c.disputed = false
  reachable : peerReachable (s.peer receiver) = true
  route : routed s.unit.role (s.peer receiver).role c.cls = true

theorem offerHeld_checked (h : Offerable s c f.receiver) : offerHeld c f (newSelect s) =
    if s.portRoom then answer .started [] (makeOffer c f.receiver f.purpose (newSelect s))
    else refuse .loopQueueFull (newSelect s) := by
  have hreach : peerReachable ((newSelect s).peer f.receiver) = true := h.reachable
  have hroute : routed (newSelect s).unit.role ((newSelect s).peer f.receiver).role c.cls = true := h.route
  have hroom : (newSelect s).portRoom = s.portRoom := rfl
  rw [offerHeld, h.undisputed, hreach, hroute, hroom]
  cases s.portRoom <;> rfl

/-- The requests that an offer at the giver links (R140). -/
theorem toldOffer_giver (peer purpose tag : Nat) (l : List OwnRequest) :
    (∀ r ∈ l, (r.id ≠ purpose ∨ r.kind ≠ .pickup ∨ r.phase = .opened) → r ∈ l.map (fun r =>
      if r.id == purpose && requesterGives r.kind == true then { r with phase := linkPhase peer tag r.phase } else r)) ∧
    (∀ r ∈ l, ∀ a, r.id = purpose → r.kind = .pickup → r.phase = .claimed peer a →
      { r with phase := .serving peer a tag } ∈ l.map (fun r =>
        if r.id == purpose && requesterGives r.kind == true then { r with phase := linkPhase peer tag r.phase } else r)) := by
  refine ⟨fun r hr hno => List.mem_map.mpr ⟨r, hr, ?_⟩, fun r hr a hid hkind hphase => List.mem_map.mpr ⟨r, hr, ?_⟩⟩
  · obtain hid | hkind | hopened := hno
    · simp [hid]
    · simp [requesterGives_eq, hkind]
    · rw [hopened]
      split
      · rw [linkPhase, ← hopened]
      · rfl
  · simp [hid, requesterGives_eq, hkind, hphase, linkPhase]

/-- What an accepted offer writes. -/
theorem makeOffer_newSelect {role : Role} (hb : Distinct s) (hc : s.container? f.tag = some c) (hrole : s.unit.role = some role) :
    answer .started [] (makeOffer c f.receiver f.purpose (newSelect s)) = { answered .started [] s with
      custody := { s.custody with table := s.tableWith f.tag (fun d => { d with
        state := .offering, handovers := min 255 (d.handovers + 1), refusal := none,
        handover := some { peer := f.receiver, number := s.handoverCounter, purpose := f.purpose,
                           deadline := s.clock + s.cfg.transitSteps c.cls } }) },
      handoverCounter := if 65535 ≤ s.handoverCounter then 1 else s.handoverCounter + 1,
      loop := { s.loop with queue := s.queueWith true f.receiver (.offer {
        role := role, number := s.handoverCounter, tag := c.tag, cls := c.cls, value := c.value,
        counted := c.counted.map (·.value), origin := c.origin, purpose := f.purpose, remaining := 0, comp := c.comp }) },
      service := { s.service with requests := s.service.requests.map (fun r =>
        if r.id == f.purpose && requesterGives r.kind == true then { r with phase := linkPhase f.receiver c.tag r.phase } else r) } } := by
  have htag := tag_of_container? hc
  have htable : s.custody.table.map (fun d => if d.tag == c.tag then offered (newSelect s) f.receiver f.purpose d else d) =
      s.tableWith f.tag (fun d => { d with
        state := .offering, handovers := min 255 (d.handovers + 1), refusal := none,
        handover := some { peer := f.receiver, number := s.handoverCounter, purpose := f.purpose,
                           deadline := s.clock + s.cfg.transitSteps c.cls } }) := by
    refine List.map_congr_left fun d hd => ?_
    by_cases hdt : d.tag = f.tag
    · obtain rfl : d = c := hb.eq_of_tag hd (mem_of_container? hc) (hdt.trans htag.symm)
      rw [if_pos (beq_self_eq_true _), if_pos hdt]
      rfl
    · rw [if_neg (by simpa [htag] using hdt), if_neg hdt]
  have hframe : offerFrame c f.receiver f.purpose (newSelect s) = .offer {
      role := role, number := s.handoverCounter, tag := c.tag, cls := c.cls, value := c.value,
      counted := c.counted.map (·.value), origin := c.origin, purpose := f.purpose, remaining := 0, comp := c.comp } := by
    have hrole' : (newSelect s).unit.role = some role := hrole
    unfold offerFrame
    rw [hrole']
    rfl
  rw [makeOffer, hframe, ← htable]
  rfl

/-- A COUNTING container stores the offer, unless it holds one (R83). -/
theorem exec_offer_counting (h : Ready s) (hjoin : joiningOrJoined s.member.state = true) (hn : s.namesPeer f.receiver = true)
    (hc : s.container? f.tag = some c) (hcls : c.cls ≠ .courierSack) (hcounting : c.state = .counting) :
    exec (.offer (.fields f)) s = .next (offerDeferred c f (newSelect s)) := by
  rw [exec_offer_found h hjoin hn hc, offerFound, if_neg hcls, if_pos hcounting]

end Offer

/-- Settles O21: the checks one by one, then `makeOffer_newSelect`. -/
theorem offerIsCheckedAndMade : Obligations.OfferIsCheckedAndMade := by
  refine ⟨fun f s h => ⟨fun hoff => ?_, fun hjoin => ⟨fun hbad => ?_, fun h1 h56 hown => ⟨fun hnone => ?_, fun c hc => ?_⟩⟩⟩,
    fun f c s h hjoin h1 h56 hown hc hcls => ⟨fun role hb hheld hundisputed hrole hpeer hpeerRole hroute hroom => ?_,
      fun hcounting hnone => ?_, fun hcounting hsome => ?_⟩⟩
  · refine (exec_offer h f).trans (congrArg _ (if_neg ?_))
    change ¬ joiningOrJoined s.member.state = true
    rw [hoff]
    decide
  · have hno : (newSelect s).namesPeer f.receiver = false := by
      change s.namesPeer f.receiver = false
      rw [← Bool.not_eq_true, namesPeer_iff]
      omega
    rw [exec_offer h, onLoop, if_pos (show joiningOrJoined (newSelect s).member.state = true from hjoin), offer, hno]
    rfl
  · rw [exec_offer_named h hjoin ((namesPeer_iff s _).mpr ⟨h1, h56, hown⟩), hnone]
    rfl
  · have hn := (namesPeer_iff s _).mpr ⟨h1, h56, hown⟩
    refine ⟨fun hsack => ?_, fun hcls hcounting hheld => ?_, fun hcls hheld => ?_⟩
    · exact (exec_offer_found h hjoin hn hc).trans (congrArg _ (if_pos hsack))
    · refine (exec_offer_found h hjoin hn hc).trans (congrArg _ ?_)
      exact (if_neg hcls).trans ((if_neg hcounting).trans (if_pos hheld))
    · rw [exec_offer_held h hjoin hn hc hcls hheld]
      refine ⟨fun hdisputed => congrArg _ (if_pos hdisputed), fun hundisputed => ?_⟩
      intro p
      refine ⟨fun habsent => ?_, fun hthere hrole => ⟨fun hno => ?_, fun hroute => ?_⟩⟩
      · have hreach : peerReachable ((newSelect s).peer f.receiver) = false := peerReachable_absent (e := p) habsent
        rw [offerHeld, hundisputed, hreach]
        rfl
      · have hreach : peerReachable ((newSelect s).peer f.receiver) = true := (peerReachable_iff p).mpr ⟨hthere, hrole⟩
        have hroute : routed (newSelect s).unit.role ((newSelect s).peer f.receiver).role c.cls = false := hno
        rw [offerHeld, hundisputed, hreach, hroute]
        rfl
      · rw [offerHeld_checked ⟨hundisputed, (peerReachable_iff p).mpr ⟨hthere, hrole⟩, hroute⟩]
        refine ⟨fun hfull => ?_, fun hports hroom => ⟨_, rfl, ?_⟩⟩
        · rw [(portRoom_eq_false s).mpr hfull]
          rfl
        · rw [(portRoom_iff s).mpr ⟨hports, hroom⟩]
          rfl
  · have hn := (namesPeer_iff s _).mpr ⟨h1, h56, hown⟩
    intro k payload
    refine ⟨_, exec_offer_held h hjoin hn hc hcls hheld, ?_⟩
    rw [offerHeld_checked ⟨hundisputed, (peerReachable_iff _).mpr ⟨hpeer, hpeerRole⟩, hroute⟩,
      (portRoom_iff s).mpr ⟨hroom.ports, hroom.room⟩, if_pos rfl, makeOffer_newSelect hb.distinct hc hrole]
    exact ⟨rfl, toldOffer_giver f.receiver f.purpose c.tag s.service.requests⟩
  · have hn := (namesPeer_iff s _).mpr ⟨h1, h56, hown⟩
    rw [exec_offer_counting h hjoin hn hc hcls hcounting, offerDeferred, if_neg (by simp [hnone]), updateContainer_eq,
      tag_of_container? hc]
    rfl
  · have hn := (namesPeer_iff s _).mpr ⟨h1, h56, hown⟩
    rw [exec_offer_counting h hjoin hn hc hcls hcounting, offerDeferred, if_pos (Option.isSome_iff_ne_none.mpr hsome)]
    rfl

/-! ### The report of a frame (R36) -/

/-- The queued kinds that leave nothing ready behind. -/
def queuedKind (p : Payload) : Bool :=
  match p with
  | .beacon _ => false
  | .announce _ => false
  | .conflict _ => false
  | _ => true

/-- A queued frame that ends cleanly: it has left the line, the score is lower by 1, and its block is told. -/
theorem sentOf_reported {s : State} {target : Nat} {p : Payload} (h : OnLine s target p) (hp : queuedKind p = true)
    {kind : Payload → Bool} (hk : kind p = true) (ack : Bool) : ∃ q : QueuedFrame, q.target = target ∧ q.payload = p ∧
      event s (sentOf kind ack) = .next (report q ack { s with loop := s.loop.ended }) := by
  obtain ⟨q, hq, htarget, hpayload⟩ := h.line
  have hline : s.lineFrame = some q := hq
  have hleave : setScore (s.loop.faultScore - 1) (leaveLine p s) = { s with loop := s.loop.ended } := by
    cases p <;> first | rfl | cases hp
  have hann : isAnnounce p = false := by cases p <;> first | rfl | cases hp
  refine ⟨q, htarget, hpayload, (event_running h.running _).trans (congrArg _ ?_)⟩
  unfold sentOf
  rw [h.sending]
  dsimp only
  rw [if_pos hk, finishFrame, hline]
  dsimp only
  rw [hleave, startWait, hann]
  rfl

theorem exec_offerReport {s : State} {target : Nat} {p : OfferPayload} (h : OnLine s target (.offer p)) (ack : Bool) :
    exec (.offerReport ack) s = .next (offerReported p.tag p.number ack { s with loop := s.loop.ended }) := by
  obtain ⟨q, -, hq, hexec⟩ := sentOf_reported h rfl (kind := isOffer) rfl ack
  refine hexec.trans (congrArg _ ?_)
  unfold report
  rw [hq]

/-! ### The report of an OFFER (R66) -/

section Report

variable {s : State} {tag : Nat} {c : Container} {h : HandoverFields}

theorem offerReported_acked (hc : s.container? tag = some c) (hst : c.state = .offering) (hh : c.handover = some h) :
    offerReported tag h.number true s =
      if h.deadline ≤ s.clock then becomeOverdue c (raiseResult tag .giver .outbound (updateContainer tag (fun c => { c with state := .outbound }) s))
      else raiseResult tag .giver .outbound (updateContainer tag (fun c => { c with state := .outbound }) s) := by
  simp [offerReported, hc, hst, hh]

theorem offerReported_lost (hc : s.container? tag = some c) (hst : c.state = .offering) (hh : c.handover = some h) :
    offerReported tag h.number false s = raiseResult tag .giver .noAnswer (toldSetback true tag (updateContainer tag (fun c => { c with
      state := .held, handover := none, lastResult := .noAnswer,
      refusal := some { receiver := h.peer, number := h.number, closes := s.clock + 500 } }) s)) := by
  simp [offerReported, hc, hst, hh, Config.refusalWindow]

/-- A container that has become OVERDUE, and its alarm (R82). -/
theorem becomeOverdue_eq (c : Container) (s : State) : becomeOverdue c s = { s with
    custody := { s.custody with table := s.tableWith c.tag (fun c => { c with
      state := .overdue, recallEnds := none, overdueAlarm := true }) },
    loop := { s.loop with queue := (becomeOverdue c s).loop.queue }, attn := (becomeOverdue c s).attn } := by
  unfold becomeOverdue
  rw [updateContainer_eq]
  dsimp only
  split
  · rfl
  · rw [alarmFrame_queue_attn]
    rfl

theorem louder_becomeOverdue (c : Container) (s : State) : Louder s (becomeOverdue c s) := by
  unfold becomeOverdue
  dsimp only
  split
  · exact .of_attn rfl
  · have hset : Louder s (updateContainer c.tag (fun c => { c with
        state := .overdue, recallEnds := none, overdueAlarm := true }) s) := .of_attn rfl
    exact hset.trans (louder_alarmFrame ..)

theorem alarmSet_becomeOverdue {d : Container} (hd : d ∈ s.custody.table) (htag : d.tag = c.tag) :
    (becomeOverdue c s).alarmSet .overdue = true := by
  rw [becomeOverdue_eq]
  refine List.any_eq_true.mpr ⟨_, List.mem_map_of_mem hd, ?_⟩
  rw [if_pos htag]

end Report

/-! ### Timers (R66, R69, R82) -/

section Timers

variable {s : State} {tag : Nat} {c : Container}

theorem transitDeadline_none (hc : s.container? tag = some c) (h : overdueNow s.clock c = false) :
    transitDeadline tag s = s := by
  simp [transitDeadline, hc, Option.filter, h]

theorem transitDeadline_some (hc : s.container? tag = some c) (h : overdueNow s.clock c = true) :
    transitDeadline tag s = becomeOverdue c s := by
  simp [transitDeadline, hc, Option.filter, h]

theorem overdueNow_outbound (hst : c.state = .outbound) {h : HandoverFields} (hh : c.handover = some h) (clock : Nat) :
    overdueNow clock c = decide (h.deadline ≤ clock) := by
  simp [overdueNow, hst, deadlinePassed, hh]

theorem inboundLapse_some {e : InboundEntry} (he : s.inbound? tag = some e) (hst : e.state = .expected) (hdue : e.lapse ≤ s.clock) :
    inboundLapse tag s = { s with
      custody := { s.custody with inbound := s.custody.inbound.filter (fun d => d.tag ≠ tag) },
      service := { s.service with requests := s.service.requests.map (fun r =>
        if linkedTo tag r = true ∧ r.kind ≠ .pickup then { r with phase := backToClaimed r.phase } else r) },
      attn := s.attn.with .inboundLapsed } := by
  have htag : e.tag = tag := tag_of_inbound? he
  have hfound : (s.inbound? tag).filter (lapsed s.clock) = some e := by
    rw [he, Option.filter, if_pos (by simp [lapsed, hst, hdue])]
  unfold inboundLapse
  rw [hfound]
  dsimp only
  rw [lapseEntry, unresolvedCleared, if_neg (by rw [hst]; decide), removeInbound_eq, toldSetback_receiver, htag]
  rfl

theorem inboundLapse_none {e : InboundEntry} (he : s.inbound? tag = some e) (h : e.state ≠ .expected ∨ s.clock < e.lapse) :
    inboundLapse tag s = s := by
  have hfound : (s.inbound? tag).filter (lapsed s.clock) = none := by
    rw [he, Option.filter, if_neg]
    simp only [lapsed, Bool.and_eq_true, beq_iff_eq, decide_eq_true_eq]
    rintro ⟨hst, hdue⟩
    exact h.elim (fun hne => hne hst) (fun hearly => absurd hdue (Nat.not_le.mpr hearly))
  unfold inboundLapse
  rw [hfound]

end Timers

/-- Settles O22: the OFFER's report by `offerReported_acked` and `offerReported_lost`, then the three timers. -/
theorem offerReportAndHandoverTimers : Obligations.OfferReportAndHandoverTimers := by
  refine ⟨fun target p c h s hline hc hst hh hnumber => ⟨fun hearly => ?_, fun hdue halarm => ?_, ?_⟩,
    fun tag s hp => ⟨fun c h hc hst hh => ⟨fun hearly => ?_, fun hdue => ?_⟩, fun c hc hst => ?_,
      fun e he => ⟨fun hst hdue => ?_, fun hno => ?_⟩, fun c w hc hw => ⟨fun hearly => ?_, fun hdue => ?_⟩⟩⟩
  · rw [exec_offerReport hline, ← hnumber,
      offerReported_acked (s := { s with loop := s.loop.ended }) hc hst hh, if_neg (Nat.not_le.mpr hearly), updateContainer_eq]
    rfl
  · have htag := tag_of_container? hc
    have heq : exec (.offerReport true) s = .next (becomeOverdue c (raiseResult p.tag .giver .outbound
        (updateContainer p.tag (fun c => { c with state := .outbound }) { s with loop := s.loop.ended }))) := by
      rw [exec_offerReport hline, ← hnumber, offerReported_acked (s := { s with loop := s.loop.ended }) hc hst hh, if_pos hdue]
    rw [updateContainer_eq] at heq
    have htwice := tableWith_tableWith (s := s)
      (t := raiseResult p.tag .giver .outbound (setTable (s.tableWith p.tag (fun c => { c with state := .outbound })) { s with loop := s.loop.ended }))
      (f := fun c => { c with state := .outbound }) (g := fun c => { c with state := .overdue, recallEnds := none, overdueAlarm := true })
      rfl (fun _ => rfl)
    refine ⟨_, heq, ?_, ?_, ?_⟩
    · refine (becomeOverdue_eq c _).trans ?_
      rw [htag]
      exact congrArg (fun l => ({ s with
        custody := { s.custody with table := l },
        loop := { s.loop.ended with queue := (becomeOverdue c (raiseResult p.tag .giver .outbound (setTable
          (s.tableWith p.tag (fun c => { c with state := .outbound })) { s with loop := s.loop.ended }))).loop.queue },
        attn := (becomeOverdue c (raiseResult p.tag .giver .outbound (setTable
          (s.tableWith p.tag (fun c => { c with state := .outbound })) { s with loop := s.loop.ended }))).attn } : State)) htwice
    · exact (louder_becomeOverdue c _).raised _ (raised_raise .handoverResult _)
    · refine alarmSet_becomeOverdue (d := { c with state := .outbound }) ?_ rfl
      refine List.mem_map.mpr ⟨c, mem_of_container? hc, ?_⟩
      rw [if_pos htag]
  · rw [exec_offerReport hline, ← hnumber, offerReported_lost (s := { s with loop := s.loop.ended }) hc hst hh,
      updateContainer_eq, toldSetback_giver]
    rfl
  · refine (event_running hp _).trans (congrArg _ (transitDeadline_none hc ?_))
    rw [overdueNow_outbound hst hh]
    exact decide_eq_false (Nat.not_le.mpr hearly)
  · refine ⟨becomeOverdue c s, (event_running hp _).trans (congrArg _ (transitDeadline_some hc ?_)),
      alarmSet_becomeOverdue (mem_of_container? hc) rfl, ?_⟩
    · rw [overdueNow_outbound hst hh]
      exact decide_eq_true hdue
    · rw [← tag_of_container? hc]
      exact becomeOverdue_eq c s
  · refine (event_running hp _).trans (congrArg _ (transitDeadline_none hc ?_))
    simp [overdueNow, hst]
  · exact (event_running hp _).trans (congrArg _ (inboundLapse_some he hst hdue))
  · exact (event_running hp _).trans (congrArg _ (inboundLapse_none he hno))
  · refine (event_running hp (refusalWindowEnd tag)).trans (congrArg _ ?_)
    have hfound : (s.container? tag).filter (windowUp s.clock) = none := by
      rw [hc, Option.filter, if_neg (by simp [windowUp, hw, timeUp, hearly])]
    unfold refusalWindowEnd
    rw [hfound]
  · refine (event_running hp (refusalWindowEnd tag)).trans (congrArg _ ?_)
    have hfound : (s.container? tag).filter (windowUp s.clock) = some c := by
      rw [hc, Option.filter, if_pos (by simp [windowUp, hw, timeUp, hdue])]
    unfold refusalWindowEnd
    rw [hfound]
    dsimp only
    rw [updateContainer_eq, tag_of_container? hc]
    rfl

end Sys2Proof.Machine

/-! PROOFS. A TAKEN received, and a RECALL at both ends (O23, O24). -/

namespace Sys2Proof.Machine

/-! ### What a station ON_LOOP answers -/

section Heard

variable {s : State} {sender target : Nat} {p : Payload}

/-- A chip frame that answers a frame heard joins a queue with room. -/
theorem chipFrame_heard (h : Hears s sender target p) (hroom : s.loop.queue.length < 12) {t : State}
    (hloop : t.loop = (s.heard sender false).loop) (hmember : t.member = (s.heard sender false).member) (n : Nat) (q : Payload) :
    chipFrame n q t = enqueue false n q t := by
  refine chipFrame_joins (queueTakes_of_joining ?_) ?_ n q
  · have hstate : t.member.state = .onLoop := (congrArg _ hmember).trans h.onLoop
    rw [hstate]
    rfl
  · rw [hloop]
    exact (yielded_length s).trans_lt hroom

end Heard

/-! ### A TAKEN (R71) -/

/-- The books of a release: the total, the table and the list of releases, before the alarm clears and the service unit is told. -/
def bookRelease (c : Container) (h : HandoverFields) (s : State) : State :=
  let t := removeContainer c.tag (changeTotal .released c.value s)
  let entry : ReleaseEntry := { tag := c.tag, receiver := h.peer, number := h.number, value := c.value }
  { t with custody := { t.custody with releases := keepLast Config.releaseCap (t.custody.releases ++ [entry]) } }

theorem bookRelease_custody (c : Container) (h : HandoverFields) (s : State) :
    (bookRelease c h s).custody.table = s.custody.table.filter (fun d => d.tag ≠ c.tag) ∧
    (bookRelease c h s).custody.releases = keepLast 16
      (s.custody.releases ++ [{ tag := c.tag, receiver := h.peer, number := h.number, value := c.value }]) ∧
    (saturates (s.custody.totals.released + c.value) = false →
      (bookRelease c h s).custody.totals = s.totalsWith .released c.value ∧
      (bookRelease c h s).custody.saturated = s.custody.saturated) := by
  have hkept : Within [.totals, .queue, .attn] s (changeTotal .released c.value s) := by simp
  refine ⟨?_, ?_, fun hsat => ?_⟩
  · rw [bookRelease, removeContainer_eq, hkept .table (by simp)]
    rfl
  · have hreleases : (removeContainer c.tag (changeTotal .released c.value s)).custody.releases = s.custody.releases :=
      hkept .releases (by simp)
    simp only [bookRelease, hreleases]
  · have hsat : saturates (s.custody.totals.get .released + c.value) = false := hsat
    rw [bookRelease, changeTotal_within hsat]
    exact ⟨rfl, rfl⟩

theorem within_releaseTold (c : Container) (h : HandoverFields) (s : State) :
    Within [.requests, .list, .queue, .attn] (bookRelease c h s) (releaseContainer c h s) := by
  change Within _ _ (raiseResult _ _ _ (toldRelease _ _ _ (overdueCleared c (bookRelease c h s))))
  simp

/-- The parts of the state that a release touches. -/
theorem releaseContainer_frame (c : Container) (h : HandoverFields) (s : State) : releaseContainer c h s = { s with
    custody := { s.custody with
      table := (releaseContainer c h s).custody.table, releases := (releaseContainer c h s).custody.releases,
      totals := (releaseContainer c h s).custody.totals, saturated := (releaseContainer c h s).custody.saturated },
    loop := { s.loop with queue := (releaseContainer c h s).loop.queue }, attn := (releaseContainer c h s).attn,
    service := (releaseContainer c h s).service } := by
  have hframe : Within [.table, .releases, .totals, .requests, .list, .queue, .attn] s (releaseContainer c h s) := by simp
  exact hframe.overlay

theorem releaseContainer_note (c : Container) (h : HandoverFields) (s : State) :
    Raised .handoverResult (releaseContainer c h s) ∧
      (releaseContainer c h s).attn.note = some { tag := c.tag, side := .giver, outcome := .taken (c.state == .overdue) } :=
  ⟨raised_raise .handoverResult _, rfl⟩

theorem releasedBy_some {s : State} {sender : Nat} {p : TakenPayload} {c : Container} {h : HandoverFields}
    (hc : s.container? p.tag = some c) (hh : c.handover = some h) (ht : inTransit c.state = true) (hpeer : h.peer = sender)
    (hnumber : p.number = h.number ∨ p.number = 0) (hvalue : p.value = c.value) : s.releasedBy sender p = some (c, h) := by
  simp [State.releasedBy, hc, hh, releases, ht, hpeer, hnumber, hvalue]

theorem releasedBy_none {s : State} {sender : Nat} {p : TakenPayload}
    (hno : ∀ c h, s.container? p.tag = some c → c.handover = some h → inTransit c.state = false ∨ h.peer ≠ sender ∨
      (p.number ≠ h.number ∧ p.number ≠ 0) ∨ p.value ≠ c.value) : s.releasedBy sender p = none := by
  unfold State.releasedBy
  split
  · rfl
  · next c hc =>
    split
    · rfl
    · next h hh =>
      refine if_neg ?_
      simp only [releases, Bool.and_eq_true, Bool.or_eq_true, beq_iff_eq]
      rintro ⟨⟨⟨ht, hpeer⟩, hnumber⟩, hvalue⟩
      obtain hout | hother | ⟨hne, hne0⟩ | hdiff := hno c h hc hh
      · rw [ht] at hout
        cases hout
      · exact hother hpeer
      · exact hnumber.elim hne hne0
      · exact hdiff hvalue

/-- Settles O23: what fits is `releaseContainer`, whose books are `bookRelease`; what does not is answered NOT_OFFERED. -/
theorem takenReleases : Obligations.TakenReleases := by
  intro sender target p s hhears
  have hexec := event_heard hhears rfl (r := hearTaken sender p (s.heard sender false)) rfl
  refine ⟨fun c h hc hh ht hpeer hnumber hvalue => ?_, fun hno hroom => ?_⟩
  · have hfound : (s.heard sender false).releasedBy sender p = some (c, h) := releasedBy_some hc hh ht hpeer hnumber hvalue
    obtain ⟨htable, hreleases, htotals⟩ := bookRelease_custody c h (s.heard sender false)
    have htold := within_releaseTold c h (s.heard sender false)
    obtain ⟨hraised, hnote⟩ := releaseContainer_note c h (s.heard sender false)
    rw [tag_of_container? hc, hpeer] at hreleases
    rw [tag_of_container? hc] at htable hnote
    refine ⟨driveSlot (releaseContainer c h (s.heard sender false)), hexec.trans ?_, Eq.trans (htold .table (by simp)) htable,
      Eq.trans (htold .releases (by simp)) hreleases, fun hsat => ?_, hraised, hnote, ?_⟩
    · rw [hearTaken, hfound]
      rfl
    · obtain ⟨htotal, hsaturated⟩ := htotals hsat
      have hkept := htold .totals (by simp)
      exact ⟨(congrArg Prod.fst hkept).trans htotal, (congrArg Prod.snd hkept).trans hsaturated⟩
    · exact congrArg driveSlot (releaseContainer_frame c h (s.heard sender false))
  · refine hexec.trans ?_
    rw [hearTaken, releasedBy_none (s := s.heard sender false) hno, chipFrame_heard hhears hroom rfl rfl]
    rfl

/-! ### RECALL and its end (R77, R79, R82) -/

section Giver

variable {s : State} {tag : Nat} {c : Container} {h : HandoverFields}

/-- A container back in HELD out of a handover (R79, R81). -/
theorem returnToHeld_frame (hc : s.container? tag = some c) (r : LastResult) (o : NoteOutcome) : returnToHeld c r o s = { s with
    custody := { s.custody with table := s.tableWith tag (fun c => { c with
      state := .held, handover := none, recallEnds := none, overdueAlarm := false, lastResult := r }) },
    service := { s.service with requests := s.service.requests.map (fun r =>
      if linkedTo tag r = true ∧ r.kind = .pickup then { r with phase := backToClaimed r.phase } else r) },
    loop := { s.loop with queue := (returnToHeld c r o s).loop.queue }, attn := (returnToHeld c r o s).attn } := by
  have hcleared : Within [.queue, .attn] (updateContainer tag (returned r) s)
      (overdueCleared c (updateContainer tag (returned r) s)) := by simp
  unfold returnToHeld
  rw [tag_of_container? hc, toldSetback_giver, hcleared.overlay, updateContainer_eq]
  rfl

theorem inTransitTo_some (hc : s.container? tag = some c) (ht : inTransit c.state = true) (hh : c.handover = some h) :
    s.inTransitTo h.peer tag h.number = some c := by
  rw [State.inTransitTo, hc, Option.filter, if_pos]
  simp [ht, Container.offeredTo, hh]

theorem exec_recall (h : PortRoom s) (hc : s.container? tag = some c) (hst : c.state = .outbound ∨ c.state = .overdue)
    {k : HandoverFields} (hk : c.handover = some k) :
    exec (.recall (.fields tag)) s = .next (recallAccepted c k (newSelect s)) := by
  refine (request_fields h.ready tag (onLoop recallRequest)).trans (congrArg _ ?_)
  have hfound : (newSelect s).container? tag = some c := hc
  have hroom : (newSelect s).portRoom = true := (portRoom_iff s).mpr ⟨h.ports, h.room⟩
  rw [onLoop, if_pos (show joiningOrJoined (newSelect s).member.state = true from h.state), recallRequest, hfound]
  dsimp only
  rw [recallFound, if_neg (by tauto), hroom, hk]
  rfl

theorem recallTimeout_early (hc : s.container? tag = some c) {w : Nat} (hw : c.recallEnds = some w) (hearly : s.clock < w) :
    recallTimeout tag s = s := by
  have hfound : (s.container? tag).filter (recallOver s.clock) = none := by
    rw [hc, Option.filter, if_neg (by simp [recallOver, hw, timeUp, hearly])]
  rw [recallTimeout, hfound]

theorem recallTimeout_due (hc : s.container? tag = some c) (hst : c.state = .recalling) {w : Nat} (hw : c.recallEnds = some w)
    (hdue : w ≤ s.clock) : recallTimeout tag s = raise .recallUnanswered (endRecall c s) := by
  have hfound : (s.container? tag).filter (recallOver s.clock) = some c := by
    rw [hc, Option.filter, if_pos (by simp [recallOver, hst, hw, timeUp, hdue])]
  rw [recallTimeout, hfound]

end Giver

/-! ### A RECALL at the receiver (R78) -/

section Receiver

variable {s : State} {sender : Nat} {p : TagNumber}

theorem entryFrom_some {e : InboundEntry} (he : s.inbound? p.tag = some e) (hgiver : e.giver = sender) :
    s.entryFrom sender p.tag = some e := by
  rw [State.entryFrom, he, Option.filter, if_pos (by simpa using hgiver)]

theorem entryFrom_none (hno : ∀ e, s.inbound? p.tag = some e → e.giver ≠ sender) : s.entryFrom sender p.tag = none := by
  cases he : s.inbound? p.tag with
  | none => rw [State.entryFrom, he]; rfl
  | some e => rw [State.entryFrom, he, Option.filter, if_neg (by simpa using hno e he)]

end Receiver

/-- Settles O24: at the giver `recallAccepted`, `returnToHeld` and `endRecall`; at the receiver `hearRecall`, case by case of R78. -/
theorem recallsAtBothEnds : Obligations.RecallsAtBothEnds := by
  refine ⟨fun tag c h s hc hh => ⟨fun hroom hst => ?_, fun target hhears ht => ?_, fun w hp hst hw => ⟨fun hearly => ?_,
    fun hdue hwithin => ?_, fun hdue hover => ?_⟩⟩, fun sender target p s hhears hroom => ?_⟩
  · rw [exec_recall hroom hc hst hh, recallAccepted, updateContainer_eq, tag_of_container? hc]
    rfl
  · have hexec := event_heard hhears rfl
      (r := hearRecallOk h.peer { tag := tag, number := h.number } (s.heard h.peer false)) rfl
    have hc' : (s.heard h.peer false).container? tag = some c := hc
    refine ⟨driveSlot (returnToHeld c .recalled .recalled (s.heard h.peer false)), hexec.trans ?_, ?_,
      raised_raise .handoverResult _, congrArg driveSlot (returnToHeld_frame hc' .recalled .recalled)⟩
    · rw [hearRecallOk, inTransitTo_some hc' ht hh]
      rfl
    · rw [← tag_of_container? hc]
      rfl
  · exact (event_running hp _).trans (congrArg _ (recallTimeout_early hc hw hearly))
  · refine (event_running hp _).trans (congrArg _ ?_)
    rw [recallTimeout_due hc hst hw hdue, endRecall, if_neg (by simp [deadlinePassed, hh, hwithin]), updateContainer_eq,
      tag_of_container? hc]
    rfl
  · refine ⟨raise .recallUnanswered (becomeOverdue c s), (event_running hp _).trans (congrArg _ ?_), raised_raise _ _, ?_⟩
    · rw [recallTimeout_due hc hst hw hdue, endRecall, if_pos (by simp [deadlinePassed, hh, hover])]
    · rw [← tag_of_container? hc]
      exact congrArg (raise .recallUnanswered) (becomeOverdue_eq c s)
  · have hexec := event_heard hhears rfl (r := hearRecall sender p (s.heard sender false)) rfl
    intro tooLate given
    have hlate : hearRecall sender p (s.heard sender false) = recallTooLate sender p (s.heard sender false) → tooLate := by
      intro heq
      refine hexec.trans ?_
      rw [heq, recallTooLate, chipFrame_heard hhears hroom rfl rfl]
      rfl
    refine ⟨fun e he hgiver hst => ?_, fun e he hgiver hst => hlate ?_, fun hno hsome => hlate ?_, fun hno hnone => ?_⟩
    · have hfrom : (s.heard sender false).entryFrom sender p.tag = some e := entryFrom_some he hgiver
      have hr : hearRecall sender p (s.heard sender false) = acted (giveBack sender p (s.heard sender false)) := by
        rw [hearRecall, hfrom]
        exact if_pos hst
      refine (event_heard hhears rfl hr).trans ?_
      rw [giveBack, toldSetback_receiver, removeInbound_eq,
        chipFrame_heard hhears hroom (t := raiseResult p.tag .receiver .recalled _) rfl rfl]
      rfl
    · have hfrom : (s.heard sender false).entryFrom sender p.tag = some e := entryFrom_some he hgiver
      rw [hearRecall, hfrom]
      exact if_neg hst
    · have hfrom : (s.heard sender false).entryFrom sender p.tag = none := entryFrom_none hno
      rw [hearRecall, hfrom]
      exact if_pos hsome
    · have hfrom : (s.heard sender false).entryFrom sender p.tag = none := entryFrom_none hno
      have hbooks : (s.heard sender false).container? p.tag = none := hnone
      refine hexec.trans ?_
      rw [hearRecall, hfrom, hbooks, chipFrame_heard hhears hroom rfl rfl]
      rfl

end Sys2Proof.Machine

/-! PROOFS. A REFUSE received, by its reason (O25). -/

namespace Sys2Proof.Machine

section Refuse

variable {s : State} {sender : Nat} {p : RefusePayload} {c : Container}

/-! ### What a REFUSE fits (R81) -/

theorem heldWithWindow_some (hc : s.container? p.tag = some c) (hst : c.state = .held) {w : RefusalWindow}
    (hw : c.refusal = some w) (hreceiver : w.receiver = sender) (hnumber : w.number = p.number) :
    s.heldWithWindow sender p.tag p.number = some c := by
  rw [State.heldWithWindow, hc, Option.filter, if_pos]
  simp [hst, windowFor, hw, hreceiver, hnumber]

theorem heldWithWindow_none (hno : ∀ c w, s.container? p.tag = some c → c.state = .held → c.refusal = some w →
    w.receiver ≠ sender ∨ w.number ≠ p.number) : s.heldWithWindow sender p.tag p.number = none := by
  cases hc : s.container? p.tag with
  | none => rw [State.heldWithWindow, hc]; rfl
  | some c =>
    rw [State.heldWithWindow, hc, Option.filter, if_neg]
    rw [Bool.and_eq_true, beq_iff_eq]
    rintro ⟨hst, hw⟩
    unfold windowFor at hw
    split at hw
    · cases hw
    · next w hr =>
      rw [Bool.and_eq_true, beq_iff_eq, beq_iff_eq] at hw
      exact (hno c w hc hst hr).elim (fun h => h hw.1) (fun h => h hw.2)

theorem inTransitTo_none (hno : ∀ c h, s.container? p.tag = some c → inTransit c.state = true → c.handover = some h →
    h.peer ≠ sender ∨ h.number ≠ p.number) : s.inTransitTo sender p.tag p.number = none := by
  cases hc : s.container? p.tag with
  | none => rw [State.inTransitTo, hc]; rfl
  | some c =>
    rw [State.inTransitTo, hc, Option.filter, if_neg]
    rw [Bool.and_eq_true]
    rintro ⟨ht, hto⟩
    unfold Container.offeredTo at hto
    split at hto
    · cases hto
    · next h hh =>
      rw [Bool.and_eq_true, beq_iff_eq, beq_iff_eq] at hto
      exact (hno c h hc ht hh).elim (fun h => h hto.1) (fun h => h hto.2)

/-- A HELD container is not in transit. -/
theorem inTransitTo_held (hc : s.container? p.tag = some c) (hst : c.state = .held) :
    s.inTransitTo sender p.tag p.number = none := by
  rw [State.inTransitTo, hc, Option.filter, if_neg]
  simp [hst, inTransit]

theorem takingFrom_iff (sender tag : Nat) : s.takingFrom sender tag = true ↔
    ∃ e, s.inbound? tag = some e ∧ e.giver = sender ∧ (e.state = .taking ∨ e.state = .unsure) := by
  unfold State.takingFrom
  cases s.inbound? tag <;> simp

/-! ### What it does -/

theorem hearRefuse_refused (hreason : p.reason = .classNotAccepted ∨ p.reason = .duplicateTag ∨ p.reason = .inboundFull) :
    hearRefuse sender p s = hearRefused sender p s := by
  unfold hearRefuse
  obtain h | h | h := hreason <;> rw [h]

theorem hearRefuse_declined (h : p.reason = .declined) : hearRefuse sender p s = hearDeclined sender p s := by
  rw [hearRefuse, h]

theorem hearRefuse_tooLate (h : p.reason = .tooLate) : hearRefuse sender p s = hearTooLate sender p s := by
  rw [hearRefuse, h]

theorem hearRefuse_notOffered (h : p.reason = .notOffered) : hearRefuse sender p s = hearNotOffered sender p s := by
  rw [hearRefuse, h]

theorem applyWindow_eq (tag : Nat) (r : LastResult) (o : NoteOutcome) : applyWindow tag r o s = { s with
    custody := { s.custody with table := s.tableWith tag (fun c => { c with lastResult := r, refusal := none }) },
    service := { s.service with requests := s.service.requests.map (fun r =>
      if linkedTo tag r = true ∧ r.kind = .pickup then { r with phase := backToClaimed r.phase } else r) },
    attn := s.attn.withResult tag .giver o } := by
  rw [applyWindow, toldSetback_giver, updateContainer_eq]
  rfl

/-- A container without an OVERDUE alarm goes back to HELD with its result. -/
theorem returnToHeld_quiet (hc : s.container? p.tag = some c) (hno : c.overdueAlarm = false) (r : LastResult) (o : NoteOutcome) :
    returnToHeld c r o s = { s with
      custody := { s.custody with table := s.tableWith p.tag (fun c => { c with
        state := .held, handover := none, recallEnds := none, overdueAlarm := false, lastResult := r }) },
      service := { s.service with requests := s.service.requests.map (fun r =>
        if linkedTo p.tag r = true ∧ r.kind = .pickup then { r with phase := backToClaimed r.phase } else r) },
      attn := s.attn.withResult p.tag .giver o } := by
  rw [returnToHeld, overdueCleared, hno, tag_of_container? hc, toldSetback_giver, updateContainer_eq]
  rfl

/-- The OVERDUE alarm of a container that goes back to HELD clears with its ALARM, or the frame is dropped (R82, R171). -/
theorem returnToHeld_cleared (hc : s.container? p.tag = some c) (halarm : c.overdueAlarm = true)
    (hon : s.member.state = .onLoop) (r : LastResult) (o : NoteOutcome) :
    (s.loop.queue.length < 12 → (returnToHeld c r o s).attn = s.attn.withResult p.tag .giver o ∧
      (returnToHeld c r o s).loop.queue = s.queueWith false 0
        (.alarm { kind := .overdue, action := .cleared, active := (returnToHeld c r o s).activeAlarm, tag := p.tag })) ∧
    (12 ≤ s.loop.queue.length → (returnToHeld c r o s).attn = (s.attn.with .loopFrameDropped).withResult p.tag .giver o ∧
      (returnToHeld c r o s).loop.queue = s.loop.queue) := by
  generalize hu : updateContainer p.tag (returned r) s = u
  have hloop : u.loop = s.loop := by rw [← hu]; rfl
  have hattn : u.attn = s.attn := by rw [← hu]; rfl
  have hstate : u.member.state = .onLoop := by rw [← hu]; exact hon
  have htakes : u.queueTakes = true := by simp [State.queueTakes, hstate]
  have heq : returnToHeld c r o s = raiseResult p.tag .giver o (toldSetback true p.tag
      (chipFrame 0 (.alarm { kind := .overdue, action := .cleared, active := u.activeAlarm, tag := p.tag }) u)) := by
    rw [returnToHeld, overdueCleared, halarm, tag_of_container? hc, hu, alarmFrame, hstate]
    rfl
  have hactive (t : State) (hevents : t.attn.events = u.attn.events) (hcustody : t.custody = u.custody) :
      t.activeAlarm = u.activeAlarm := by
    have hset : t.alarmSet = u.alarmSet := funext (alarmSet_congr hevents (congrArg _ hcustody)
      (congrArg (fun k : CustodyUnit => k.inbound.any (fun e => e.state == .unresolved)) hcustody) (congrArg _ hcustody))
    rw [State.activeAlarm, State.activeAlarm, hset]
  refine ⟨fun hroom => ?_, fun hfull => ?_⟩
  · rw [heq, chipFrame_joins htakes (by rw [hloop]; exact hroom)]
    refine ⟨?_, ?_⟩
    · rw [raiseResult_attn, ← hattn]
      rfl
    · rw [hactive (raiseResult p.tag .giver o (toldSetback true p.tag (enqueue false 0 _ u))) rfl rfl, State.queueWith, ← hloop]
      rfl
  · have hchip : u.chipRoom = false := by
      rw [State.chipRoom, hloop]
      simpa [Config.queueCap] using hfull
    rw [heq, chipFrame, htakes, hchip]
    refine ⟨?_, ?_⟩
    · rw [← hattn]
      rfl
    · rw [← hloop]
      rfl

end Refuse

/-- Settles O25: reason by reason `applyWindow`, `returnToHeld` or the result alone. -/
theorem refusalsAreApplied : Obligations.RefusalsAreApplied := by
  intro sender target p s hhears backed
  have hon : (s.heard sender false).member.state = .onLoop := hhears.onLoop
  have hexec := fun r => event_heard hhears rfl (r := r)
  refine ⟨fun c w hreason hc hst hw hreceiver hnumber => ?_, fun c h hreason hc ht hh hpeer hnumber hquiet => ?_,
    fun c h hreason hc ht hh hpeer hnumber halarm => ?_, fun c w hreason hc hst hw hreceiver hnumber => ?_,
    fun c h hreason hc ht hh hpeer hnumber => ?_, fun e hreason he hgiver hst => ?_, ?_⟩
  · have hfound := heldWithWindow_some (s := s.heard sender false) hc hst hw hreceiver hnumber
    refine (hexec (acted (applyWindow p.tag (.refused p.reason) (.refused p.reason) (s.heard sender false))) ?_).trans ?_
    · exact (hearRefuse_refused hreason).trans (by rw [hearRefused, hfound])
    · rw [applyWindow_eq]
      rfl
  · subst hpeer
    have hfound : (s.heard h.peer false).inTransitTo h.peer p.tag p.number = some c := by
      rw [← hnumber]
      exact inTransitTo_some hc ht hh
    refine (hexec (acted (returnToHeld c .declined .declined (s.heard h.peer false))) ?_).trans ?_
    · exact (hearRefuse_declined hreason).trans (by rw [hearDeclined, hfound])
    · rw [returnToHeld_quiet (s := s.heard h.peer false) hc hquiet]
      rfl
  · subst hpeer
    have hfound : (s.heard h.peer false).inTransitTo h.peer p.tag p.number = some c := by
      rw [← hnumber]
      exact inTransitTo_some hc ht hh
    obtain ⟨hroom, hfull⟩ := returnToHeld_cleared (s := s.heard h.peer false) hc halarm hon .declined .declined
    have hlength : (s.heard h.peer false).loop.queue.length = s.loop.queue.length := yielded_length s
    rw [hlength] at hroom hfull
    refine ⟨driveSlot (returnToHeld c .declined .declined (s.heard h.peer false)),
      hexec (acted (returnToHeld c .declined .declined (s.heard h.peer false))) ?_,
      congrArg driveSlot (returnToHeld_frame (s := s.heard h.peer false) hc .declined .declined), hroom, hfull⟩
    exact (hearRefuse_declined hreason).trans (by rw [hearDeclined, hfound])
  · have hfound := heldWithWindow_some (s := s.heard sender false) hc hst hw hreceiver hnumber
    have hnone := inTransitTo_held (s := s.heard sender false) (sender := sender) hc hst
    refine (hexec (acted (applyWindow p.tag .declined .declined (s.heard sender false))) ?_).trans ?_
    · exact (hearRefuse_declined hreason).trans (by rw [hearDeclined, hnone, hfound])
    · rw [applyWindow_eq]
      rfl
  · subst hpeer
    have hfound : (s.heard h.peer false).inTransitTo h.peer p.tag p.number = some c := by
      rw [← hnumber]
      exact inTransitTo_some hc ht hh
    refine (hexec (acted (raiseResult p.tag .giver (.refused .tooLate)
      (updateContainer p.tag (fun c => { c with lastResult := .refused .tooLate }) (s.heard h.peer false)))) ?_).trans ?_
    · exact (hearRefuse_tooLate hreason).trans (by rw [hearTooLate, hfound])
    · rw [updateContainer_eq]
      rfl
  · have hfrom : (s.heard sender false).takingFrom sender p.tag = true := (takingFrom_iff ..).mpr ⟨e, he, hgiver, hst⟩
    refine (hexec (acted (raiseResult p.tag .receiver (.refused .notOffered) (s.heard sender false))) ?_)
    exact (hearRefuse_notOffered hreason).trans (by rw [hearNotOffered, if_pos hfrom])
  · intro noWindow noTransit noTaking notActedOn
    have hkept (h : hearRefuse sender p (s.heard sender false) = notActed (s.heard sender false)) : notActedOn := hexec _ h
    have hwindow (hw : noWindow) : (s.heard sender false).heldWithWindow sender p.tag p.number = none := heldWithWindow_none hw
    have htransit (ht : noTransit) : (s.heard sender false).inTransitTo sender p.tag p.number = none := inTransitTo_none ht
    refine ⟨fun hreason hw => hkept ?_, fun hreason hw ht => hkept ?_, fun hreason ht => hkept ?_, fun hreason hno => hkept ?_⟩
    · rw [hearRefuse_refused hreason, hearRefused, hwindow hw]
    · rw [hearRefuse_declined hreason, hearDeclined, htransit ht, hwindow hw]
    · rw [hearRefuse_tooLate hreason, hearTooLate, htransit ht]
    · rw [hearRefuse_notOffered hreason]
      refine if_neg fun hfrom => ?_
      obtain ⟨e, he, hgiver, hst⟩ := (takingFrom_iff ..).mp hfrom
      obtain hother | ⟨htaking, hunsure⟩ := hno e he
      · exact hother hgiver
      · exact hst.elim htaking hunsure

end Sys2Proof.Machine

/-! PROOFS. TAKE, the report of a TAKEN, and QUERY (O26, O27, O28). -/

namespace Sys2Proof.Machine

/-! ### The operations that these share -/

/-- A request that is taken on the loop, for a station there. -/
theorem request_onLoop {α : Type} {s : State} (h : Ready s) (hjoin : joiningOrJoined s.member.state = true) (a : α)
    (run : α → State → State) : request (.fields a) s (onLoop run) = .next (run a (newSelect s)) :=
  (request_fields h a (onLoop run)).trans
    (congrArg _ (if_pos (show joiningOrJoined (newSelect s).member.state = true from hjoin)))

theorem updateInbound_eq (tag : Nat) (f : InboundEntry → InboundEntry) (s : State) : updateInbound tag f s =
    { s with custody := { s.custody with inbound := s.inboundWith tag f } } := by
  simp [updateInbound, State.inboundWith, setInbound]

/-- The list of a state in which an entry has been changed twice. -/
theorem inboundWith_inboundWith {s t : State} {tag : Nat} {f g : InboundEntry → InboundEntry}
    (ht : t.custody.inbound = s.inboundWith tag f) (hf : ∀ e, (f e).tag = e.tag) :
    t.inboundWith tag g = s.inboundWith tag (fun e => g (f e)) := by
  rw [State.inboundWith, ht, State.inboundWith, List.map_map]
  refine List.map_congr_left fun e _ => ?_
  by_cases h : e.tag = tag <;> simp [h, hf]

theorem mem_of_inbound? {s : State} {tag : Nat} {e : InboundEntry} (h : s.inbound? tag = some e) : e ∈ s.custody.inbound :=
  List.mem_of_find?_eq_some h

theorem tableFull_iff (s : State) : s.tableFull = true ↔ 48 ≤ s.custody.table.length + s.reserved := by
  simp [State.tableFull]

theorem tableFull_eq_false (s : State) : s.tableFull = false ↔ ¬ 48 ≤ s.custody.table.length + s.reserved := by
  rw [← Bool.not_eq_true, tableFull_iff]

/-! ### TAKE (R70) -/

section Take

variable {f : TakeFields} {cls : ContainerClass} {e : InboundEntry} {s : State}

theorem exec_take (h : PortRoom s) (hcls : classOfCode f.cls = some cls) (htag : f.tag ≠ 0) :
    exec (.take (.fields f)) s = .next (match s.inbound? f.tag with
      | some e => takeListed e f (newSelect s)
      | none => takeUnlisted f cls (newSelect s)) := by
  refine (request_onLoop h.ready h.state f take).trans (congrArg _ ?_)
  rw [take, hcls]
  exact if_neg htag

theorem exec_take_listed (h : PortRoom s) (hcls : classOfCode f.cls = some cls) (htag : f.tag ≠ 0)
    (he : s.inbound? f.tag = some e) : exec (.take (.fields f)) s = .next (takeListed e f (newSelect s)) := by
  rw [exec_take h hcls htag, he]

theorem exec_take_unlisted (h : PortRoom s) (hcls : classOfCode f.cls = some cls) (htag : f.tag ≠ 0)
    (hnone : s.inbound? f.tag = none) : exec (.take (.fields f)) s = .next (takeUnlisted f cls (newSelect s)) := by
  rw [exec_take h hcls htag, hnone]

/-- The giver of the request is the entry's, or is left open. -/
theorem takeListed_matching (hgiver : f.giver = 0 ∨ f.giver = e.giver) (t : State) : takeListed e f t =
    match e.state with
    | .expected => takeRoom (takeExpected e) t
    | .taking => refuse .busy t
    | .unsure => refuse .busy t
    | .unresolved => refuse .badState t := if_neg (by tauto)

theorem takeRoom_full (hfull : 48 ≤ s.custody.table.length + s.reserved) (accept : State → State) :
    takeRoom accept (newSelect s) = refused .tableFull s := by
  have hfull' : (newSelect s).tableFull = true := (tableFull_iff s).mpr hfull
  exact if_pos hfull'

theorem takeRoom_room (h : PortRoom s) (hroom : ¬ 48 ≤ s.custody.table.length + s.reserved) (accept : State → State) :
    takeRoom accept (newSelect s) = accept (newSelect s) := by
  have hfull : (newSelect s).tableFull = false := (tableFull_eq_false s).mpr hroom
  have hports : (newSelect s).portRoom = true := (portRoom_iff s).mpr ⟨h.ports, h.room⟩
  rw [takeRoom, hfull, hports]
  rfl

/-- A TAKE without an expectation, of a class and from a station that may be. -/
theorem takeUnlisted_named (hsack : cls ≠ .courierSack) (hn : s.namesPeer f.giver = true) :
    takeUnlisted f cls (newSelect s) =
      if !canHold s.unit.role cls then refuse .classNotAllowed (newSelect s)
      else if (s.container? f.tag).isSome then refuse .duplicateTag (newSelect s)
      else if 16 ≤ s.custody.inbound.length then refuse .tableFull (newSelect s)
      else takeRoom (takeNew f cls) (newSelect s) := by
  have hn' : (newSelect s).namesPeer f.giver = true := hn
  refine if_neg ?_
  rw [hn']
  tauto

end Take

/-- Settles O26: the checks of R70 in their order, then `takeExpected` and `takeNew`. -/
theorem takeReservesAPlace : Obligations.TakeReservesAPlace := by
  intro f cls s h hcls htag full
  refine ⟨fun e he => ?_, fun hnone => ?_⟩
  · rw [exec_take_listed h hcls htag he]
    refine ⟨fun h0 hother => congrArg _ (if_pos ⟨h0, hother⟩), fun hgiver => ?_⟩
    rw [takeListed_matching hgiver]
    refine ⟨fun hst => ?_, fun hst => ?_, fun hst hfull => ?_, fun hst hroom => ?_⟩
    · obtain hst | hst := hst <;> rw [hst] <;> rfl
    · rw [hst]
      rfl
    · rw [hst]
      exact congrArg _ (takeRoom_full hfull _)
    · rw [hst]
      refine congrArg _ ((takeRoom_room h hroom _).trans ?_)
      rw [takeExpected, updateInbound_eq, takenPayload, tag_of_inbound? he]
      rfl
  · rw [exec_take_unlisted h hcls htag hnone]
    refine ⟨fun hbad => congrArg _ (if_pos ?_), fun hsack h1 h56 hown => ?_⟩
    · have hnames : (newSelect s).namesPeer f.giver = true ↔ 1 ≤ f.giver ∧ f.giver ≤ 56 ∧ f.giver ≠ s.own := namesPeer_iff s _
      rw [← Bool.not_eq_true, hnames]
      obtain hbad | hbad := hbad
      · exact .inl hbad
      · exact .inr (by omega)
    · rw [takeUnlisted_named hsack ((namesPeer_iff s _).mpr ⟨h1, h56, hown⟩)]
      refine ⟨fun hhold => ?_, fun hhold hsome => ?_, fun hhold hno hfull => ?_, fun hhold hno hroom hplace => ?_⟩
      · rw [hhold]
        rfl
      · rw [hhold]
        exact congrArg _ (if_pos hsome)
      · rw [hhold, hno]
        by_cases hlist : 16 ≤ s.custody.inbound.length
        · exact congrArg _ (if_pos hlist)
        · exact congrArg _ ((if_neg hlist).trans (takeRoom_full (hfull.resolve_left hlist) _))
      · rw [hhold, hno]
        exact congrArg _ ((if_neg (Nat.not_le.mpr hroom)).trans (takeRoom_room h hplace _))

/-! ### A container enters (R72) -/

section Enter

variable {s : State} {e : InboundEntry}

/-- The books of an entry that completes, before the service unit is told. -/
def bookEntry (e : InboundEntry) (s : State) : State :=
  removeInbound e.tag (changeTotal .received e.value (appendContainer (enteringContainer s.cfg e) s))

theorem bookEntry_custody (e : InboundEntry) (s : State) :
    (bookEntry e s).custody.table = s.custody.table ++ [enteringContainer s.cfg e] ∧
    (bookEntry e s).custody.inbound = s.custody.inbound.filter (fun d => d.tag ≠ e.tag) ∧
    (saturates (s.custody.totals.received + e.value) = false →
      (bookEntry e s).custody.totals = s.totalsWith .received e.value ∧
      (bookEntry e s).custody.saturated = s.custody.saturated) := by
  generalize ha : appendContainer (enteringContainer s.cfg e) s = a
  have hkept : Within [.totals, .queue, .attn] a (changeTotal .received e.value a) := by simp
  have hinbound : (changeTotal .received e.value a).custody.inbound = a.custody.inbound := hkept .inbound (by simp)
  have htotals : a.custody.totals = s.custody.totals := by rw [← ha]; rfl
  rw [bookEntry, ha, removeInbound_eq]
  dsimp only
  rw [hinbound]
  refine ⟨Eq.trans (hkept .table (by simp)) ?_, ?_, fun hsat => ?_⟩
  · rw [← ha]
    rfl
  · rw [← ha]
    rfl
  · have hsat : saturates (a.custody.totals.get .received + e.value) = false := by rw [htotals]; exact hsat
    rw [changeTotal_within hsat, ← ha]
    exact ⟨rfl, rfl⟩

theorem within_entryTold (e : InboundEntry) (s : State) :
    Within [.requests, .list, .queue, .attn] (bookEntry e s) (completeEntry e s) := by
  change Within _ _ (raiseResult _ _ _ (toldEntry e (bookEntry e s)))
  simp

/-- What the completion of an entry writes in the books. -/
theorem completeEntry_custody (e : InboundEntry) (s : State) :
    (completeEntry e s).custody.table = s.custody.table ++ [enteringContainer s.cfg e] ∧
    (completeEntry e s).custody.inbound = s.custody.inbound.filter (fun d => d.tag ≠ e.tag) ∧
    (saturates (s.custody.totals.received + e.value) = false →
      (completeEntry e s).custody.totals = s.totalsWith .received e.value ∧
      (completeEntry e s).custody.saturated = s.custody.saturated) := by
  obtain ⟨htable, hinbound, htotals⟩ := bookEntry_custody e s
  have htold := within_entryTold e s
  refine ⟨Eq.trans (htold .table (by simp)) htable, Eq.trans (htold .inbound (by simp)) hinbound, fun hsat => ?_⟩
  obtain ⟨htotal, hsaturated⟩ := htotals hsat
  have hkept := htold .totals (by simp)
  exact ⟨(congrArg Prod.fst hkept).trans htotal, (congrArg Prod.snd hkept).trans hsaturated⟩

/-- The parts of the state that the completion of an entry touches. -/
theorem completeEntry_frame (e : InboundEntry) (s : State) : completeEntry e s = { s with
    custody := { s.custody with
      table := (completeEntry e s).custody.table, inbound := (completeEntry e s).custody.inbound,
      totals := (completeEntry e s).custody.totals, saturated := (completeEntry e s).custody.saturated },
    loop := { s.loop with queue := (completeEntry e s).loop.queue }, attn := (completeEntry e s).attn,
    service := (completeEntry e s).service } := by
  have hframe : Within [.table, .inbound, .totals, .requests, .list, .queue, .attn] s (completeEntry e s) := by simp
  exact hframe.overlay

theorem completeEntry_note (e : InboundEntry) (s : State) :
    Raised .handoverResult (completeEntry e s) ∧
      (completeEntry e s).attn.note = some { tag := e.tag, side := .receiver, outcome := .taken false } :=
  ⟨raised_raise .handoverResult _, rfl⟩

theorem enteringComp_some {cfg : Settings} {k : Composition} (hk : e.comp = some k) :
    enteringComp cfg e = if compProper k = true ∧ cfg.valueOf k = e.value then some k else none := by
  simp [enteringComp, hk]

/-- A container that enters is disputed when it is over or short by more than the tolerance (R3, R113). -/
theorem disputes_classify (cfg : Settings) (counted declared : Nat) :
    disputes (cfg.classify counted declared) = true ↔ (cfg.tolerance declared : Int) < |(counted : Int) - (declared : Int)| := by
  have hv : varianceOf counted declared = (counted : Int) - (declared : Int) := rfl
  unfold Settings.classify
  rw [hv]
  generalize (counted : Int) - (declared : Int) = v
  dsimp only
  rw [lt_abs]
  split
  · simp only [disputes, Bool.false_eq_true, false_iff]
    omega
  · split
    · simp only [disputes, Bool.false_eq_true, false_iff]
      omega
    · split
      · simp only [disputes, true_iff]
        omega
      · simp only [disputes, true_iff]
        omega

theorem exec_takenReport_line {target : Nat} {p : TakenPayload} (h : OnLine s target (.taken p)) (ack : Bool) :
    exec (.takenReport ack) s = .next (takenReported p.tag ack { s with loop := s.loop.ended }) := by
  obtain ⟨q, -, hq, hexec⟩ := sentOf_reported h rfl (kind := isTaken) rfl ack
  refine hexec.trans (congrArg _ ?_)
  unfold report
  rw [hq]

/-- With its line frame gone the queue has room again. -/
theorem ended_queue_lt {target : Nat} {p : Payload} (h : OnLine s target p) (hlength : s.loop.queue.length ≤ 12) :
    s.loop.ended.queue.length < 12 := by
  obtain ⟨q, hq, -, -⟩ := h.line
  have hlt : (s.loop.queue.filter (fun f => !f.onLine)).length < s.loop.queue.length :=
    List.length_filter_lt_length_iff_exists.mpr ⟨q, List.mem_of_find?_eq_some hq, by simp [List.find?_some hq]⟩
  exact hlt.trans_le hlength

end Enter

/-- Settles O27: an acknowledged TAKEN is `completeEntry`; without acknowledge a QUERY joins. -/
theorem takenReportEnters : Obligations.TakenReportEnters := by
  intro target p e s hline he htaking
  have he' : ({ s with loop := s.loop.ended } : State).inbound? p.tag = some e := he
  refine ⟨?_, fun hstopped hduplicate hlength => ?_⟩
  · obtain ⟨htable, hinbound, htotals⟩ := completeEntry_custody e { s with loop := s.loop.ended }
    obtain ⟨hraised, hnote⟩ := completeEntry_note e { s with loop := s.loop.ended }
    rw [tag_of_inbound? he] at hinbound hnote
    refine ⟨completeEntry e { s with loop := s.loop.ended }, enteringContainer s.cfg e, ?_, htable,
      ⟨rfl, rfl, rfl, rfl, rfl, rfl, rfl, rfl, rfl, rfl, rfl, rfl⟩, fun hnone => ?_, fun k hk => enteringComp_some hk,
      fun hnone => ?_, fun v hv => ?_, hinbound, htotals, hraised, hnote, completeEntry_frame ..⟩
    · rw [exec_takenReport_line hline, takenReported, he']
      exact congrArg _ (if_neg (not_not.mpr htaking))
    · simp [enteringContainer, enteringComp, hnone]
    · simp [enteringContainer, enteringGroup, hnone]
    · refine ⟨by simp [enteringContainer, enteringGroup, hv], ?_⟩
      rw [← disputes_classify]
      simp [enteringContainer, hv]
  · rw [exec_takenReport_line hline, takenReported, he', updateInbound_eq]
    dsimp only
    rw [if_neg (not_not.mpr htaking), if_neg Bool.false_ne_true, if_pos, queryPayload, tag_of_inbound? he]
    · rfl
    · simp [State.chipJoins, State.queueTakes, hstopped, hduplicate, State.chipRoom, ended_queue_lt hline hlength]

/-! ### QUERY (R73) -/

section Query

variable {s : State} {tag : Nat} {e : InboundEntry}

theorem exec_query (h : PortRoom s) (he : s.inbound? tag = some e) : exec (.query (.fields tag)) s = .next (
    if e.state = .expected ∨ e.state = .taking then refuse .badState (newSelect s)
    else if e.queryPending then refuse .busy (newSelect s)
    else queryAccepted e (newSelect s)) := by
  have he' : (newSelect s).inbound? tag = some e := he
  have hroom : (newSelect s).portRoom = true := (portRoom_iff s).mpr ⟨h.ports, h.room⟩
  refine (request_onLoop h.ready h.state tag queryRequest).trans (congrArg _ ?_)
  rw [queryRequest, he', hroom]
  rfl

theorem exec_queryReport {target : Nat} {p : TagNumber} (h : OnLine s target (.query p)) (ack : Bool) :
    exec (.queryReport ack) s = .next (queryReported p.tag p.number ack { s with loop := s.loop.ended }) := by
  obtain ⟨q, -, hq, hexec⟩ := sentOf_reported h rfl (kind := isQuery) rfl ack
  refine hexec.trans (congrArg _ ?_)
  unfold report
  rw [hq]

/-- An entry that becomes UNRESOLVED, with its alarm (R75, R76). -/
theorem becomeUnresolved_frame (hst : e.state ≠ .unresolved) (s : State) : becomeUnresolved e s = { s with
    custody := { s.custody with inbound := s.inboundWith e.tag (fun e => { e with state := .unresolved }) },
    loop := { s.loop with queue := (becomeUnresolved e s).loop.queue }, attn := (becomeUnresolved e s).attn } := by
  rw [becomeUnresolved, if_neg (by simpa using hst), updateInbound_eq, alarmFrame_queue_attn]

theorem louder_becomeUnresolved (e : InboundEntry) (s : State) : Louder s (becomeUnresolved e s) := by
  unfold becomeUnresolved
  split
  · exact .refl s
  · have hset : Louder s (updateInbound e.tag (fun e => { e with state := .unresolved }) s) := .of_attn rfl
    exact hset.trans (louder_alarmFrame ..)

/-- The wait of a QUERY whose giver is gone has ended without an answer, as R73 has it. -/
def GivenUp (s : State) (e : InboundEntry) : Prop :=
  e.state = .unsure ∧ ((s.peer e.giver).state = .unknown ∨ (s.peer e.giver).state = .gone)

theorem queryUnanswered_eq (hno : ¬ GivenUp s e) : queryUnanswered e s = { s with
    custody := { s.custody with inbound := s.inboundWith e.tag (fun e => { e with queryPending := false, queryWaitEnds := none }) },
    attn := s.attn.with .queryUnanswered } := by
  unfold queryUnanswered
  dsimp only
  rw [if_neg (by simpa [GivenUp] using hno), updateInbound_eq]
  rfl

theorem queryUnanswered_given (hgiven : GivenUp s e) (he : e ∈ s.custody.inbound) :
    (queryUnanswered e s).alarmSet .unresolved = true ∧ Raised .queryUnanswered (queryUnanswered e s) ∧
    queryUnanswered e s = { s with
      custody := { s.custody with inbound := s.inboundWith e.tag (fun e =>
        { e with state := .unresolved, queryPending := false, queryWaitEnds := none }) },
      loop := { s.loop with queue := (queryUnanswered e s).loop.queue }, attn := (queryUnanswered e s).attn } := by
  have hst : e.state ≠ .unresolved := by rw [hgiven.1]; decide
  have hbecome : queryUnanswered e s = becomeUnresolved e (raise .queryUnanswered (updateInbound e.tag clearQuery s)) := by
    unfold queryUnanswered
    dsimp only
    rw [if_pos (by simpa [GivenUp] using hgiven)]
  have htwice := inboundWith_inboundWith (s := s) (t := raise .queryUnanswered (updateInbound e.tag clearQuery s)) (tag := e.tag)
    (f := clearQuery) (g := fun e => { e with state := .unresolved }) (by rw [updateInbound_eq]; rfl) (fun _ => rfl)
  have hframe := becomeUnresolved_frame hst (raise .queryUnanswered (updateInbound e.tag clearQuery s))
  rw [htwice, ← hbecome] at hframe
  refine ⟨?_, ?_, hframe.trans ?_⟩
  · rw [hframe]
    refine List.any_eq_true.mpr ⟨_, List.mem_map_of_mem he, ?_⟩
    rw [if_pos rfl]
    rfl
  · rw [hbecome]
    exact (louder_becomeUnresolved ..).raised _ (raised_raise ..)
  · rw [updateInbound_eq]
    rfl

theorem queryWaitEnd_early (he : s.inbound? tag = some e) {w : Nat} (hw : e.queryWaitEnds = some w) (hearly : s.clock < w) :
    queryWaitEnd tag s = s := by
  have hfound : (s.inbound? tag).filter (queryOver s.clock) = none := by
    rw [he, Option.filter, if_neg (by simp [queryOver, hw, timeUp, hearly])]
  rw [queryWaitEnd, hfound]

theorem queryWaitEnd_due (he : s.inbound? tag = some e) (hpending : e.queryPending = true) {w : Nat}
    (hw : e.queryWaitEnds = some w) (hdue : w ≤ s.clock) : queryWaitEnd tag s = queryUnanswered e s := by
  have hfound : (s.inbound? tag).filter (queryOver s.clock) = some e := by
    rw [he, Option.filter, if_pos (by simp [queryOver, hpending, hw, timeUp, hdue])]
  rw [queryWaitEnd, hfound]

end Query

/-- Settles O28: the request is `queryAccepted`; an unanswered QUERY ends in `queryUnanswered`. -/
theorem queriesArePending : Obligations.QueriesArePending := by
  intro tag e s he given unanswered
  have htag := tag_of_inbound? he
  have hmem := mem_of_inbound? he
  refine ⟨fun h hst hno => ?_, fun h hst hpending => ?_, fun h hst => ?_, fun target hline hpending => ⟨?_, ?_⟩,
    fun w hp hpending hw => ⟨fun hearly => ?_, fun hdue => ?_⟩⟩
  · rw [exec_query h he, if_neg (by obtain hst | hst := hst <;> rw [hst] <;> decide), hno, queryAccepted, updateInbound_eq,
      queryPayload, htag]
    rfl
  · rw [exec_query h he, if_neg (by obtain hst | hst := hst <;> rw [hst] <;> decide), hpending]
    rfl
  · exact (exec_query h he).trans (congrArg _ (if_pos hst))
  · have he' : ({ s with loop := s.loop.ended } : State).inbound? tag = some e := he
    rw [exec_queryReport hline, queryReported, he']
    dsimp only
    rw [hpending, updateInbound_eq, beq_self_eq_true]
    rfl
  · have he' : ({ s with loop := s.loop.ended } : State).inbound? tag = some e := he
    refine ⟨queryUnanswered e { s with loop := s.loop.ended }, ?_, fun hno => ?_, fun hgiven => ?_⟩
    · rw [exec_queryReport hline, queryReported, he']
      dsimp only
      rw [hpending, beq_self_eq_true]
      rfl
    · rw [← htag]
      exact queryUnanswered_eq (s := { s with loop := s.loop.ended }) hno
    · rw [← htag]
      exact queryUnanswered_given (s := { s with loop := s.loop.ended }) hgiven hmem
  · exact (event_running hp _).trans (congrArg _ (queryWaitEnd_early he hw hearly))
  · refine ⟨queryUnanswered e s, (event_running hp _).trans (congrArg _ (queryWaitEnd_due he hpending hw hdue)), fun hno => ?_,
      fun hgiven => ?_⟩
    · rw [← htag]
      exact queryUnanswered_eq hno
    · rw [← htag]
      exact queryUnanswered_given hgiven hmem

end Sys2Proof.Machine

/-! PROOFS. An ANSWER received, TAKE_RESOLVE, DECLINE, and an OFFER received (O30, O31, O32). -/

namespace Sys2Proof.Machine

/-! ### An UNRESOLVED alarm that clears (R76) -/

section Cleared

variable {s : State} {e : InboundEntry}

theorem unresolvedCleared_frame (e : InboundEntry) (s : State) : unresolvedCleared e s = { s with
    loop := { s.loop with queue := (unresolvedCleared e s).loop.queue }, attn := (unresolvedCleared e s).attn } := by
  have hframe : Within [.queue, .attn] s (unresolvedCleared e s) := by simp
  exact hframe.overlay

theorem unresolvedCleared_quiet (h : e.state ≠ .unresolved) (s : State) : unresolvedCleared e s = s :=
  if_neg (by simpa using h)

theorem louder_unresolvedCleared (e : InboundEntry) (s : State) : Louder s (unresolvedCleared e s) := by
  unfold unresolvedCleared
  split
  · exact louder_alarmFrame ..
  · exact .refl s

theorem chipFrame_note (target : Nat) (p : Payload) (s : State) : (chipFrame target p s).attn.note = s.attn.note := by
  unfold chipFrame
  split
  · rfl
  · split <;> rfl

theorem unresolvedCleared_note (e : InboundEntry) (s : State) : (unresolvedCleared e s).attn.note = s.attn.note := by
  unfold unresolvedCleared alarmFrame
  split
  · split
    · exact chipFrame_note ..
    · rfl
  · rfl

theorem resolveEntry_custody (e : InboundEntry) (s : State) : (resolveEntry e s).custody = (completeEntry e s).custody := by
  rw [resolveEntry, unresolvedCleared_frame]

theorem resolveEntry_frame (e : InboundEntry) (s : State) : resolveEntry e s = { s with
    custody := { s.custody with
      table := (resolveEntry e s).custody.table, inbound := (resolveEntry e s).custody.inbound,
      totals := (resolveEntry e s).custody.totals, saturated := (resolveEntry e s).custody.saturated },
    loop := { s.loop with queue := (resolveEntry e s).loop.queue }, attn := (resolveEntry e s).attn,
    service := (resolveEntry e s).service } := by
  have hframe : Within [.table, .inbound, .totals, .requests, .list, .queue, .attn] s (resolveEntry e s) := by
    simp [resolveEntry]
  exact hframe.overlay

theorem resolveEntry_note (e : InboundEntry) (s : State) :
    Raised .handoverResult (resolveEntry e s) ∧
      (resolveEntry e s).attn.note = some { tag := e.tag, side := .receiver, outcome := .taken false } := by
  obtain ⟨hraised, hnote⟩ := completeEntry_note e s
  exact ⟨(louder_unresolvedCleared ..).raised _ hraised, (unresolvedCleared_note ..).trans hnote⟩

end Cleared

/-! ### An ANSWER (R75) -/

section Answer

variable {s : State} {sender : Nat} {p : AnswerPayload} {e : InboundEntry}

section Fits

variable (he : s.inbound? p.tag = some e) (hst : e.state = .unsure ∨ e.state = .unresolved)
  (hnumber : e.number = p.number ∨ e.number = 0)

include he hst hnumber

theorem answersEntry_fits : (s.inbound? p.tag).filter (answersEntry e.giver p) = some e := by
  rw [he, Option.filter, if_pos]
  simpa [answersEntry] using ⟨hst, hnumber⟩

theorem hearAnswer_held (h : p.answer = .heldForYou) : hearAnswer e.giver p s = acted (answerHeld p e s) := by
  rw [hearAnswer, answersEntry_fits he hst hnumber, h]

theorem hearAnswer_released (h : p.answer = .releasedToYou) : hearAnswer e.giver p s = answerReleased p e s := by
  rw [hearAnswer, answersEntry_fits he hst hnumber, h]

theorem hearAnswer_notKnown (h : p.answer = .notKnown) : hearAnswer e.giver p s = acted (answerNotKnown e s) := by
  rw [hearAnswer, answersEntry_fits he hst hnumber, h]

end Fits

/-- The Inbound List after HELD_FOR_YOU (R75). -/
theorem answerHeld_frame (he : e.tag = p.tag) (s : State) : answerHeld p e s = { s with
    custody := { s.custody with inbound := s.custody.inbound.map (fun d =>
      if d.tag = p.tag then { d with
        state := .expected, queryPending := false, queryWaitEnds := none, number := p.number,
        lapse := s.clock + p.remaining * 6000 + 60 * 6000 }
      else if d.giver = e.giver ∧ d.number = p.number then { d with number := 0 } else d) },
    loop := { s.loop with queue := (answerHeld p e s).loop.queue }, attn := (answerHeld p e s).attn } := by
  have hlist : s.custody.inbound.map (fun d => if d.tag == e.tag then heldEntry p s d else giveUpNumber e.giver p.number d) =
      s.custody.inbound.map (fun d =>
        if d.tag = p.tag then { d with
          state := .expected, queryPending := false, queryWaitEnds := none, number := p.number,
          lapse := s.clock + p.remaining * 6000 + 60 * 6000 }
        else if d.giver = e.giver ∧ d.number = p.number then { d with number := 0 } else d) := by
    refine List.map_congr_left fun d _ => if_congr (by rw [beq_iff_eq, he]) rfl (if_congr ?_ rfl rfl)
    rw [Bool.and_eq_true, beq_iff_eq, beq_iff_eq]
  unfold answerHeld
  rw [hlist, unresolvedCleared_frame]
  rfl

theorem answerNotKnown_frame (hb : BooksInv s) (he : e ∈ s.custody.inbound) :
    (answerNotKnown e s).alarmSet .unresolved = true ∧
    answerNotKnown e s = { s with
      custody := { s.custody with inbound := s.inboundWith e.tag (fun e => { e with
        state := .unresolved, queryPending := false, queryWaitEnds := none }) },
      loop := { s.loop with queue := (answerNotKnown e s).loop.queue }, attn := (answerNotKnown e s).attn } ∧
    (e.state = .unresolved → (answerNotKnown e s).attn = s.attn) := by
  have hset (t : State) (hinbound : t.custody.inbound = s.inboundWith e.tag (fun e => { e with
      state := .unresolved, queryPending := false, queryWaitEnds := none })) : t.alarmSet .unresolved = true := by
    refine List.any_eq_true.mpr ⟨{ e with state := .unresolved, queryPending := false, queryWaitEnds := none }, ?_, rfl⟩
    rw [hinbound]
    exact List.mem_map.mpr ⟨e, he, if_pos rfl⟩
  by_cases hst : e.state = .unresolved
  · have hkept : answerNotKnown e s = updateInbound e.tag clearQuery s := by
      rw [answerNotKnown, becomeUnresolved, hst]
      rfl
    have hlist : s.inboundWith e.tag clearQuery = s.inboundWith e.tag (fun e => { e with
        state := .unresolved, queryPending := false, queryWaitEnds := none }) := by
      refine List.map_congr_left fun d hd => ?_
      split
      · next htag =>
        obtain rfl : d = e := List.inj_on_of_nodup_map hb.inboundTags hd he htag
        rw [clearQuery, ← hst]
      · rfl
    rw [hkept, updateInbound_eq, hlist]
    exact ⟨hset _ rfl, rfl, fun _ => rfl⟩
  · have htwice := inboundWith_inboundWith (s := s) (t := updateInbound e.tag clearQuery s) (tag := e.tag) (f := clearQuery)
      (g := fun e => { e with state := .unresolved }) (by rw [updateInbound_eq]) (fun _ => rfl)
    have hframe := becomeUnresolved_frame hst (updateInbound e.tag clearQuery s)
    rw [htwice] at hframe
    have hlist : (answerNotKnown e s).custody.inbound = s.inboundWith e.tag (fun e => { e with
        state := .unresolved, queryPending := false, queryWaitEnds := none }) := congrArg (·.custody.inbound) hframe
    have hkept : Within [.inbound, .queue, .attn] s (answerNotKnown e s) := by simp
    have hwhole : answerNotKnown e s = { s with
        custody := { s.custody with inbound := s.inboundWith e.tag (fun e => { e with
          state := .unresolved, queryPending := false, queryWaitEnds := none }) },
        loop := { s.loop with queue := (answerNotKnown e s).loop.queue }, attn := (answerNotKnown e s).attn } := by
      rw [← hlist]
      exact hkept.overlay
    exact ⟨hset _ (congrArg (·.custody.inbound) hwhole), hwhole, fun h => absurd h hst⟩

end Answer

/-! ### TAKE_RESOLVE (R76) -/

theorem exec_takeResolve {s : State} {tag : Nat} {e : InboundEntry} (h : Ready s) (hconf : s.member.state ≠ .unconfigured)
    (he : s.inbound? tag = some e) : exec (.takeResolve (.fields tag)) s = .next (
      if e.state ≠ .unresolved then refuse .badState (newSelect s)
      else if s.tableFull then refuse .tableFull (newSelect s)
      else answer .ok [] (resolveEntry e (newSelect s))) := by
  have he' : (newSelect s).inbound? tag = some e := he
  have hconf' : (newSelect s).member.state ≠ .unconfigured := hconf
  refine (request_fields h tag takeResolve).trans (congrArg _ ?_)
  rw [takeResolve, if_neg hconf', he']
  rfl

/-- Settles O30: each answer is `answerHeld`, `answerNotKnown` or `resolveEntry`; TAKE_RESOLVE is `resolveEntry`. -/
theorem answersSettleEntries : Obligations.AnswersSettleEntries := by
  intro target p e s hb he
  have htag := tag_of_inbound? he
  have hmem := mem_of_inbound? he
  refine ⟨fun hhears hst hnumber => ?_, fun h hconf => ⟨fun hst => ?_, fun hst hfull => ?_, fun hst hroom => ?_⟩⟩
  · have he' : (s.heard e.giver false).inbound? p.tag = some e := he
    have hexec := fun r => event_heard hhears rfl (r := r)
    refine ⟨fun hheld => ?_, fun hnot => ?_, fun hreleased hvalue hunresolved hfull => ?_, fun hreleased hvalue hplace => ?_⟩
    · exact ⟨_, hexec _ (hearAnswer_held he' hst hnumber hheld), raised_raise _ _,
        congrArg driveSlot (answerHeld_frame htag (s.heard e.giver false))⟩
    · have hnotKnown : hearAnswer e.giver p (s.heard e.giver false) = acted (answerNotKnown e (s.heard e.giver false)) := by
        obtain hnot | ⟨hreleased, hvalue⟩ := hnot
        · exact hearAnswer_notKnown he' hst hnumber hnot
        · exact (hearAnswer_released he' hst hnumber hreleased).trans (if_pos hvalue)
      have hb' : BooksInv (s.heard e.giver false) := ⟨hb.1, hb.2, hb.3, hb.4, hb.5, hb.6, hb.7, hb.8⟩
      obtain ⟨halarm, hframe, hkept⟩ := answerNotKnown_frame (s := s.heard e.giver false) hb' hmem
      refine ⟨_, hexec _ hnotKnown, halarm, (congrArg driveSlot hframe).trans ?_, hkept⟩
      rw [htag]
      rfl
    · have hfull' : (s.heard e.giver false).tableFull = true := (tableFull_iff s).mpr hfull
      refine hexec (notActed (s.heard e.giver false)) ((hearAnswer_released he' hst hnumber hreleased).trans ?_)
      exact (if_neg (not_not.mpr hvalue)).trans (if_pos ⟨hunresolved, hfull'⟩)
    · have hresolves : hearAnswer e.giver p (s.heard e.giver false) = acted (resolveEntry e (s.heard e.giver false)) := by
        refine (hearAnswer_released he' hst hnumber hreleased).trans ((if_neg (not_not.mpr hvalue)).trans (if_neg ?_))
        rintro ⟨hunresolved, hfull⟩
        have hfull' : 48 ≤ s.custody.table.length + s.reserved := (tableFull_iff s).mp hfull
        obtain hunsure | hroom := hplace
        · rw [hunsure] at hunresolved
          cases hunresolved
        · omega
      obtain ⟨htable, hinbound, htotals⟩ := completeEntry_custody e (s.heard e.giver false)
      obtain ⟨-, hnote⟩ := resolveEntry_note e (s.heard e.giver false)
      have hcustody := resolveEntry_custody e (s.heard e.giver false)
      rw [htag] at hinbound hnote
      rw [← hcustody] at htable hinbound htotals
      exact ⟨_, hexec _ hresolves, rfl, htable, hinbound, fun hsat => (htotals hsat).1, hnote⟩
  · exact (exec_takeResolve h hconf he).trans (congrArg _ (if_pos hst))
  · refine (exec_takeResolve h hconf he).trans (congrArg _ ((if_neg (not_not.mpr hst)).trans (if_pos ?_)))
    exact (tableFull_iff s).mpr hfull
  · obtain ⟨htable, hinbound, htotals⟩ := completeEntry_custody e (newSelect s)
    obtain ⟨hraised, -⟩ := resolveEntry_note e (newSelect s)
    have hcustody := resolveEntry_custody e (newSelect s)
    rw [htag] at hinbound
    rw [← hcustody] at htable hinbound htotals
    refine ⟨answer .ok [] (resolveEntry e (newSelect s)), (exec_takeResolve h hconf he).trans (congrArg _ ?_), rfl, hraised, htable,
      hinbound, fun hsat => (htotals hsat).1, congrArg (answer .ok []) (resolveEntry_frame e (newSelect s))⟩
    have hfull : s.tableFull = false := (tableFull_eq_false s).mpr (Nat.not_le.mpr hroom)
    rw [if_neg (not_not.mpr hst), hfull]
    rfl

/-! ### DECLINE (R80) -/

theorem exec_decline {s : State} (h : Ready s) (hjoin : joiningOrJoined s.member.state = true) {tag : Nat} {e : InboundEntry}
    (he : s.inbound? tag = some e) : exec (.decline (.fields tag)) s = .next (
      if e.state ≠ .expected then refuse .badState (newSelect s)
      else if !s.portRoom then refuse .loopQueueFull (newSelect s)
      else declineAccepted e (newSelect s)) := by
  have he' : (newSelect s).inbound? tag = some e := he
  refine (request_onLoop h hjoin tag decline).trans (congrArg _ ?_)
  rw [decline, he']
  rfl

/-- Settles O31: the checks of R80 in their order, then `declineAccepted`. -/
theorem declineRemovesTheEntry : Obligations.DeclineRemovesTheEntry := by
  intro tag s h hjoin
  refine ⟨fun hnone => ?_, fun e he => ⟨fun hst => ?_, fun hst hfull => ?_, fun hst hports hroom => ?_⟩⟩
  · have hnone' : (newSelect s).inbound? tag = none := hnone
    refine (request_onLoop h hjoin tag decline).trans (congrArg _ ?_)
    rw [decline, hnone']
    rfl
  · exact (exec_decline h hjoin he).trans (congrArg _ (if_pos hst))
  · rw [exec_decline h hjoin he, if_neg (not_not.mpr hst), (portRoom_eq_false s).mpr hfull]
    rfl
  · rw [exec_decline h hjoin he, if_neg (not_not.mpr hst), (portRoom_iff s).mpr ⟨hports, hroom⟩, declineAccepted,
      toldSetback_receiver, removeInbound_eq, tag_of_inbound? he]
    rfl

end Sys2Proof.Machine

/-! PROOFS. An OFFER received (O32). -/

namespace Sys2Proof.Machine

section Offer

variable {s : State} {sender : Nat} {p : OfferPayload}

/-! ### The checks of an OFFER (R67) -/

theorem listedElsewhere_iff (sender tag : Nat) :
    s.listedElsewhere sender tag = true ↔ ∃ e, s.inbound? tag = some e ∧ e.giver ≠ sender := by
  unfold State.listedElsewhere
  cases s.inbound? tag <;> simp

theorem listedElsewhere_own (h : ∀ e, s.inbound? p.tag = some e → e.giver = sender) : s.listedElsewhere sender p.tag = false := by
  rw [← Bool.not_eq_true, listedElsewhere_iff]
  rintro ⟨e, he, hne⟩
  exact hne (h e he)

theorem sameNumber_eq (giver number tag : Nat) : s.sameNumber giver number tag =
    s.custody.inbound.filter (fun e => decide (e.giver = giver ∧ e.number = number ∧ e.tag ≠ tag)) := by
  refine List.filter_congr fun e _ => ?_
  rw [Bool.eq_iff_iff]
  simp [and_assoc]

theorem underTake_iff (e : InboundEntry) : underTake e = true ↔ e.state = .taking ∨ e.state = .unsure := by
  simp [underTake]

/-- An OFFER of a tag that neither the books nor another giver has. -/
theorem hearOffer_numbered (hrouted : routed (some p.role) s.unit.role p.cls = true) (hbooks : s.container? p.tag = none)
    (hown : ∀ e, s.inbound? p.tag = some e → e.giver = sender) : hearOffer sender p s = offerNumbered sender p s := by
  rw [hearOffer, hrouted, hbooks, listedElsewhere_own hown]
  rfl

theorem offerNumbered_alone (h : s.sameNumber sender p.number p.tag = []) : offerNumbered sender p s = placeOffer sender p s := by
  rw [offerNumbered, h]
  rfl

theorem offerNumbered_under (h : ∃ d ∈ s.sameNumber sender p.number p.tag, d.state = .taking ∨ d.state = .unsure) :
    offerNumbered sender p s = refuseOffer sender p .duplicateTag s := by
  obtain ⟨d, hd, hst⟩ := h
  exact if_pos (List.any_eq_true.mpr ⟨d, hd, (underTake_iff d).mpr hst⟩)

theorem offerNumbered_lapses {d : InboundEntry} (h : s.sameNumber sender p.number p.tag = [d])
    (hst : d.state = .expected ∨ d.state = .unresolved) :
    offerNumbered sender p s = placeOffer sender p (lapseEntry d s) := by
  have hnot : underTake d = false := by
    rw [← Bool.not_eq_true, underTake_iff]
    obtain hst | hst := hst <;> rw [hst] <;> decide
  have hany : [d].any underTake = false := by rw [List.any_cons, hnot]; rfl
  rw [offerNumbered, h, hany]
  rfl

/-! ### What it writes (R68, R69) -/

/-- The requests after an OFFER for the receiver's need has come (R140). -/
def linkedRequests (sender : Nat) (p : OfferPayload) (l : List OwnRequest) : List OwnRequest :=
  l.map (fun r => if r.id = p.purpose ∧ r.kind ≠ .pickup then { r with phase := linkPhase sender p.tag r.phase } else r)

theorem toldOffer_receiver (s : State) : toldOffer false sender p.purpose p.tag s =
    { s with service := { s.service with requests := linkedRequests sender p s.service.requests } } := by
  have hmap : s.service.requests.map (fun r =>
      if r.id == p.purpose && requesterGives r.kind == false then { r with phase := linkPhase sender p.tag r.phase } else r) =
      linkedRequests sender p s.service.requests :=
    List.map_congr_left fun r _ => if_congr (by simp [requesterGives_eq]) rfl rfl
  unfold toldOffer
  rw [hmap]
  rfl

theorem stateUpdated_eq (st : InboundState) : stateUpdated st = if st = .taking then .taking else .expected := by
  cases st <;> rfl

/-- The entry that an OFFER leaves in its place. -/
def freshEntry (sender : Nat) (p : OfferPayload) (st : InboundState) (s : State) : InboundEntry :=
  { offeredEntry sender p s with state := if st = .taking then .taking else .expected }

theorem updateOffered_eq (sender : Nat) (p : OfferPayload) (e : InboundEntry) (s : State) : updateOffered sender p e s =
    offerTold sender p (unresolvedCleared e (updateInbound p.tag (fun _ => freshEntry sender p e.state s) s)) := by
  rw [freshEntry, ← stateUpdated_eq]
  rfl

theorem updateOffered_frame (sender : Nat) (p : OfferPayload) (e : InboundEntry) (s : State) : updateOffered sender p e s = { s with
    custody := { s.custody with inbound := s.inboundWith p.tag (fun _ => freshEntry sender p e.state s) },
    service := { s.service with requests := linkedRequests sender p s.service.requests },
    loop := { s.loop with queue := (updateOffered sender p e s).loop.queue }, attn := (updateOffered sender p e s).attn } := by
  rw [updateOffered_eq, offerTold, toldOffer_receiver, updateInbound_eq, unresolvedCleared_frame]
  rfl

theorem updateOffered_quiet {e : InboundEntry} (h : e.state ≠ .unresolved) : updateOffered sender p e s = { s with
    custody := { s.custody with inbound := s.inboundWith p.tag (fun _ => freshEntry sender p e.state s) },
    service := { s.service with requests := linkedRequests sender p s.service.requests },
    attn := s.attn.with .offerArrived } := by
  rw [updateOffered_eq, offerTold, toldOffer_receiver, updateInbound_eq, unresolvedCleared_quiet h]
  rfl

theorem placeOffer_listed {e : InboundEntry} (h : s.inbound? p.tag = some e) :
    placeOffer sender p s = acted (updateOffered sender p e s) := by
  rw [placeOffer, h]

theorem placeOffer_full (h : s.inbound? p.tag = none) (hfull : 16 ≤ s.custody.inbound.length) :
    placeOffer sender p s = refuseOffer sender p .inboundFull s := by
  rw [placeOffer, h]
  exact if_pos hfull

theorem placeOffer_new (h : s.inbound? p.tag = none) (hroom : s.custody.inbound.length < 16) :
    placeOffer sender p s = acted { s with
      custody := { s.custody with inbound := s.custody.inbound ++ [freshEntry sender p .expected s] },
      service := { s.service with requests := linkedRequests sender p s.service.requests },
      attn := s.attn.with .offerArrived } := by
  rw [placeOffer, h]
  refine (if_neg (Nat.not_le.mpr hroom)).trans ?_
  rw [offerTold, toldOffer_receiver]
  rfl

/-- The state without an entry that has lapsed, with the queue and the reasons as they then are. -/
def lapsedState (e : InboundEntry) (q : List QueuedFrame) (a : Attention) (s : State) : State := { s with
    custody := { s.custody with inbound := s.custody.inbound.filter (fun f => f.tag ≠ e.tag) },
    service := { s.service with requests := s.service.requests.map (fun r =>
      if linkedTo e.tag r = true ∧ r.kind ≠ .pickup then { r with phase := backToClaimed r.phase } else r) },
    loop := { s.loop with queue := q }, attn := a }

theorem lapseEntry_frame (e : InboundEntry) (s : State) :
    lapseEntry e s = lapsedState e (lapseEntry e s).loop.queue (lapseEntry e s).attn s := by
  unfold lapseEntry
  rw [toldSetback_receiver, removeInbound_eq, unresolvedCleared_frame]
  rfl

theorem lapseEntry_raised (e : InboundEntry) (s : State) : Raised .inboundLapsed (lapseEntry e s) :=
  (louder_unresolvedCleared ..).raised _ (raised_raise ..)

theorem louder_updateOffered (sender : Nat) (p : OfferPayload) (e : InboundEntry) (s : State) :
    Louder s (updateOffered sender p e s) := by
  have hset (f : InboundEntry → InboundEntry) : Louder s (updateInbound p.tag f s) := .of_attn rfl
  have htold (t : State) : Louder t (offerTold sender p t) := by
    have hlinked : Louder t (toldOffer false sender p.purpose p.tag t) := .of_attn rfl
    exact hlinked.trans (louder_raise ..)
  exact ((hset _).trans (louder_unresolvedCleared ..)).trans (htold _)

/-- Another tag is found in the list as before once an entry has been removed. -/
theorem inbound?_lapsed {d : InboundEntry} {tag : Nat} (hne : d.tag ≠ tag) :
    (lapseEntry d s).inbound? tag = s.inbound? tag := by
  have hlist : (lapseEntry d s).custody.inbound = s.custody.inbound.filter (fun f => f.tag ≠ d.tag) := by
    rw [lapseEntry_frame]
    rfl
  rw [State.inbound?, hlist, List.find?_filter]
  refine congrArg (fun q => s.custody.inbound.find? q) (funext fun f => ?_)
  by_cases hf : f.tag = tag
  · simp [hf, Ne.symm hne]
  · simp [hf]

end Offer

/-- Settles O32: the checks of R67 in their order, then `updateOffered` or a new entry, after the entry of another tag under the
number has lapsed. -/
theorem offerIsRegistered : Obligations.OfferIsRegistered := by
  intro sender target p s hhears fresh refusedFor linked others
  have hexec := fun r => event_heard hhears rfl (r := r)
  have hothers : (s.heard sender false).sameNumber sender p.number p.tag = others := sameNumber_eq ..
  have hrefuse (r : RefuseReason) (h : hearOffer sender p (s.heard sender false) = refuseOffer sender p r (s.heard sender false)) :
      refusedFor r := by
    intro hroom
    refine (hexec (notActed _) (h.trans (congrArg notActed (chipFrame_heard hhears hroom rfl rfl _ _)))).trans ?_
    rfl
  refine ⟨fun hno => hrefuse _ ?_, fun hrouted hbooks => hrefuse _ ?_, fun hrouted hbooks => ⟨fun e he hgiver => hrefuse _ ?_,
    fun e he hgiver halone hst => ?_, fun e he hgiver halone hst => ?_, fun hnone halone => ⟨fun hfull => hrefuse _ ?_,
    fun hroom => ?_⟩, fun hown => ⟨fun hunder => hrefuse _ ?_, fun d hone hst hlength => ?_⟩⟩⟩
  · have hno' : routed (some p.role) (s.heard sender false).unit.role p.cls = false := hno
    rw [hearOffer, hno']
    rfl
  · have hrouted' : routed (some p.role) (s.heard sender false).unit.role p.cls = true := hrouted
    rw [hearOffer, hrouted']
    exact if_pos hbooks
  · have hrouted' : routed (some p.role) (s.heard sender false).unit.role p.cls = true := hrouted
    have hbooks' : (s.heard sender false).container? p.tag = none := hbooks
    have helse : (s.heard sender false).listedElsewhere sender p.tag = true := (listedElsewhere_iff ..).mpr ⟨e, he, hgiver⟩
    rw [hearOffer, hrouted', hbooks', helse]
    rfl
  · have hown : ∀ d, s.inbound? p.tag = some d → d.giver = sender := fun d hd => by
      rw [he] at hd
      exact Option.some.inj hd ▸ hgiver
    refine (hexec (acted (updateOffered sender p e (s.heard sender false))) ?_).trans ?_
    · rw [← placeOffer_listed (s := s.heard sender false) he, ← offerNumbered_alone (hothers.trans halone)]
      exact hearOffer_numbered hrouted hbooks hown
    · rw [updateOffered_quiet hst]
      rfl
  · have hown : ∀ d, s.inbound? p.tag = some d → d.giver = sender := fun d hd => by
      rw [he] at hd
      exact Option.some.inj hd ▸ hgiver
    refine ⟨_, hexec (acted (updateOffered sender p e (s.heard sender false))) ?_, raised_raise _ _, ?_⟩
    · rw [← placeOffer_listed (s := s.heard sender false) he, ← offerNumbered_alone (hothers.trans halone)]
      exact hearOffer_numbered hrouted hbooks hown
    · refine (congrArg driveSlot (updateOffered_frame sender p e (s.heard sender false))).trans ?_
      rw [hst]
      rfl
  · have hown : ∀ d, s.inbound? p.tag = some d → d.giver = sender := fun d hd => by
      rw [hnone] at hd
      cases hd
    rw [hearOffer_numbered (s := s.heard sender false) hrouted hbooks hown, offerNumbered_alone (hothers.trans halone)]
    exact placeOffer_full hnone hfull
  · have hown : ∀ d, s.inbound? p.tag = some d → d.giver = sender := fun d hd => by
      rw [hnone] at hd
      cases hd
    have hplace := placeOffer_new (s := s.heard sender false) (sender := sender) hnone hroom
    have hhear := hearOffer_numbered (s := s.heard sender false) hrouted hbooks hown
    exact hexec (acted _) (hhear.trans ((offerNumbered_alone (hothers.trans halone)).trans hplace))
  · rw [hearOffer_numbered (s := s.heard sender false) hrouted hbooks hown]
    exact offerNumbered_under (hothers ▸ hunder)
  · have hd : d ∈ others := hone ▸ List.mem_singleton_self d
    obtain ⟨hmem, hd⟩ := List.mem_filter.mp hd
    obtain ⟨-, -, htag⟩ := of_decide_eq_true hd
    obtain ⟨q, a, hlapse⟩ : ∃ q a, lapseEntry d (s.heard sender false) = lapsedState d q a (s.heard sender false) :=
      ⟨_, _, lapseEntry_frame ..⟩
    have hlapsed := lapseEntry_raised d (s.heard sender false)
    have hfind : (lapseEntry d (s.heard sender false)).inbound? p.tag = s.inbound? p.tag := inbound?_lapsed htag
    have hhear := (hearOffer_numbered (s := s.heard sender false) hrouted hbooks hown).trans
      (offerNumbered_lapses (hothers.trans hone) hst)
    rw [hlapse] at hlapsed hfind hhear
    cases he : s.inbound? p.tag with
    | some e =>
      have hplace := placeOffer_listed (sender := sender) (hfind.trans he)
      have hupdated := updateOffered_frame sender p e (lapsedState d q a (s.heard sender false))
      have hlist := congrArg (·.custody.inbound) hupdated
      refine ⟨driveSlot (updateOffered sender p e (lapsedState d q a (s.heard sender false))),
        hexec (acted _) (hhear.trans hplace), (louder_updateOffered ..).raised _ hlapsed, raised_raise .offerArrived _, ?_, ?_⟩
      · intro rest
        refine ⟨fun hnone => (nomatch hnone), fun f hf => ?_⟩
        obtain rfl := Option.some.inj hf
        exact hlist
      · dsimp only at hlist
        rw [← hlist] at hupdated
        exact congrArg driveSlot hupdated
    | none =>
      have hshort : (s.custody.inbound.filter (fun f => f.tag ≠ d.tag)).length < 16 :=
        (List.length_filter_lt_length_iff_exists.mpr ⟨d, hmem, by simp⟩).trans_le hlength
      have hplace := placeOffer_new (sender := sender) (hfind.trans he) hshort
      refine ⟨driveSlot _, hexec (acted _) (hhear.trans hplace), (louder_raise .offerArrived _).raised _ hlapsed,
        raised_raise .offerArrived _, ?_, rfl⟩
      intro rest
      exact ⟨fun _ => rfl, fun f hf => (nomatch hf)⟩

end Sys2Proof.Machine

/-! PROOFS. MAKE_UP and COUNT_OPEN (O34, O39). -/

namespace Sys2Proof.Machine

/-! ### MAKE_UP (R11) -/

section MakeUp

variable {f : MakeUpFields} {cls : ContainerClass} {s : State}

theorem exec_makeUp (h : Ready s) (hcls : classOfCode f.cls = some cls) : exec (.makeUp (.fields f)) s = .next (
    if s.member.state = .unconfigured then refuse .badState (newSelect s)
    else if f.tag = 0 ∨ compRequired f.comp = false then refuse .badLength (newSelect s)
    else makeUpChecked f cls (newSelect s)) := by
  refine (request_fields h f makeUp).trans (congrArg _ ?_)
  rw [makeUp, hcls]
  rfl

theorem tagKnown_iff (tag : Nat) :
    s.tagKnown tag = true ↔ (s.container? tag).isSome = true ∨ (s.inbound? tag).isSome = true := by
  simp [State.tagKnown]

theorem covers_iff (k : Composition) : s.covers k = true ↔ ∀ q ∈ k, q.2 ≤ s.pieces q.1 := by
  simp [State.covers]

/-- An accepted MAKE_UP: the pieces out of the position, the container at the end of the table, the float levels evaluated. -/
theorem makeUpAccepted_newSelect (f : MakeUpFields) (cls : ContainerClass) (s : State) :
    ∃ t, makeUpAccepted f cls (newSelect s) = t ∧
      (∀ d, d < 12 → t.pieces d = s.pieces d - compAt f.comp d) ∧
      t = { answered .ok [] s with
        custody := { s.custody with
          table := s.custody.table ++ [freshContainer f.tag cls s.own (s.cfg.valueOf f.comp) (some f.comp)] },
        position := { counts := t.position.counts, float := floatStateOf s.unit.role s.cfg t.pieces },
        loop := { s.loop with queue := t.loop.queue }, service := t.service, attn := t.attn } := by
  unfold makeUpAccepted
  obtain ⟨q, v, a, he⟩ := evaluate_servedFrom (appendContainer
    (freshContainer f.tag cls (newSelect s).own ((newSelect s).cfg.valueOf f.comp) (some f.comp)) (takeComp f.comp (newSelect s)))
  rw [he]
  exact ⟨_, rfl, fun d hd => pieces_takeComp f.comp s hd, rfl⟩

end MakeUp

/-- Settles O34: the checks of `makeUp` one after another, then the effect by `makeUpAccepted_newSelect`. -/
theorem makeUpCreatesAContainer : Obligations.MakeUpCreatesAContainer := by
  intro f cls s h hcls
  rw [exec_makeUp h hcls]
  refine ⟨fun hun => congrArg _ (if_pos hun), fun hconf => ?_⟩
  rw [if_neg hconf]
  refine ⟨fun hbad => congrArg _ (if_pos hbad), fun htag hcomp => ?_⟩
  have hrole : (newSelect s).unit.role = s.unit.role := rfl
  rw [if_neg (by rw [hcomp]; tauto), makeUpChecked, hrole]
  refine ⟨fun hno => ?_, fun hcan => ?_⟩
  · rw [hno]
    rfl
  rw [hcan]
  refine ⟨fun hknown => congrArg _ (if_pos ((tagKnown_iff (s := s) f.tag).mpr hknown)), fun hc he => ?_⟩
  have hnew : (newSelect s).tagKnown f.tag = false := by
    rw [← Bool.not_eq_true]
    rintro hknown
    obtain hsome | hsome := (tagKnown_iff (s := s) f.tag).mp hknown
    · rw [hc] at hsome
      cases hsome
    · rw [he] at hsome
      cases hsome
  rw [hnew]
  refine ⟨fun hfull => congrArg _ (if_pos ((tableFull_iff s).mpr hfull)), fun hroom => ?_⟩
  have hplace : (newSelect s).tableFull = false := (tableFull_eq_false s).mpr (Nat.not_le.mpr hroom)
  rw [hplace]
  refine ⟨fun ⟨q, hq, hshort⟩ => ?_, fun hcovers => ?_⟩
  · have hno : (newSelect s).covers f.comp = false := by
      rw [← Bool.not_eq_true]
      exact fun hcov => absurd ((covers_iff (s := s) f.comp).mp hcov q hq) (Nat.not_le.mpr hshort)
    rw [hno]
    rfl
  · have hyes : (newSelect s).covers f.comp = true := (covers_iff (s := s) f.comp).mpr hcovers
    rw [hyes]
    obtain ⟨t, ht, hpieces, heq⟩ := makeUpAccepted_newSelect f cls s
    exact ⟨t, congrArg _ ht, hpieces, heq⟩

/-! ### COUNT_OPEN (R91) -/

section CountOpen

variable {f : CountOpenFields} {m : CountMode} {s : State}

theorem exec_countOpen (h : Ready s) (hmode : modeOfCode f.mode = some m) : exec (.countOpen (.fields f)) s = .next (
    if s.member.state = .unconfigured then refuse .badState (newSelect s)
    else if !countOpenForm m f then refuse .badLength (newSelect s)
    else if s.count.state.sessionOpen then refuse .busy (newSelect s)
    else if isStanding m then countOpenStanding m f (newSelect s)
    else countOpenTarget m f (newSelect s)) := by
  refine (request_fields h f countOpen).trans (congrArg _ ?_)
  rw [countOpen, hmode]
  rfl

theorem standing_iff (m : CountMode) : isStanding m = true ↔ m = .intake ∨ m = .payout := by
  cases m <;> simp [isStanding]

theorem not_standing_iff (m : CountMode) : isStanding m = false ↔ m = .recount ∨ m = .unpack := by
  cases m <;> simp [isStanding]

theorem countOpenForm_iff (m : CountMode) (f : CountOpenFields) :
    countOpenForm m f = true ↔ f.expected ≤ 999999 ∧ (if m = .intake ∨ m = .payout then f.tag = 0 else f.tag ≠ 0) := by
  rw [countOpenForm, Bool.and_eq_true, decide_eq_true_iff, and_comm]
  refine and_congr_right fun _ => ?_
  split
  · next hm => simp [(standing_iff m).mpr hm]
  · next hm => simp [Bool.eq_false_iff.mpr (mt (standing_iff m).mp hm)]

theorem countOpenTarget_none (hc : s.container? f.tag = none) : countOpenTarget m f s = refuse .notFound s := by
  rw [countOpenTarget, hc]

theorem countOpenTarget_found {c : Container} (hc : s.container? f.tag = some c) : countOpenTarget m f s =
    if c.cls = .courierSack then refuse .classNotAllowed s
    else if c.state ≠ .held then refuse .badState s
    else answer .ok [] (updateContainer f.tag locked (setCount (openedEngine s m f) s)) := by
  rw [countOpenTarget, hc]

end CountOpen

/-- Settles O39: the checks of `countOpen` one after another, then the session opened and its target locked. -/
theorem countOpenStartsASession : Obligations.CountOpenStartsASession := by
  intro f m s h hmode opened formed
  have hopened : opened = openedEngine (newSelect s) m f := by
    cases m <;> rfl
  rw [exec_countOpen h hmode, hopened]
  refine ⟨fun hun => congrArg _ (if_pos hun), fun hconf hbad => ?_, fun hconf hform hbusy => ?_, fun hconf hform hfree => ?_⟩
  · have hno : countOpenForm m f = false := Bool.eq_false_iff.mpr (mt (countOpenForm_iff m f).mp hbad)
    rw [if_neg hconf, hno]
    rfl
  · have hopen : s.count.state.sessionOpen = true := (sessionOpen_iff _).mpr hbusy
    rw [if_neg hconf, (countOpenForm_iff m f).mpr hform, hopen]
    rfl
  · have hshut : s.count.state.sessionOpen = false := by obtain hst | hst := hfree <;> rw [hst] <;> rfl
    rw [if_neg hconf, (countOpenForm_iff m f).mpr hform, hshut]
    refine ⟨fun hm => ?_, fun hm => ?_⟩
    · rw [(standing_iff m).mpr hm]
      rfl
    · rw [(not_standing_iff m).mpr hm]
      refine ⟨fun hnone => ?_, fun c hc => ?_⟩
      · have hnone' : (newSelect s).container? f.tag = none := hnone
        exact congrArg _ (countOpenTarget_none hnone')
      · have hc' : (newSelect s).container? f.tag = some c := hc
        refine ⟨fun hsack => congrArg _ ((countOpenTarget_found hc').trans (if_pos hsack)), fun hcls hst => congrArg _ ?_,
          fun hcls hst => congrArg _ ?_⟩
        · exact (countOpenTarget_found hc').trans ((if_neg hcls).trans (if_pos hst))
        · refine (countOpenTarget_found hc').trans ((if_neg hcls).trans ((if_neg (not_not.mpr hst)).trans ?_))
          rw [updateContainer_eq]
          rfl

end Sys2Proof.Machine

/-! PROOFS. COUNT_CLOSE, COUNT_ABORT and the no-record timer (O40). -/

namespace Sys2Proof.Machine

section Close

variable {s : State} {j : CountJob} {c : Container}

theorem exec_countClose (h : Ready s) (hj : s.count.job = some j) : exec (.countClose (.fields ())) s = .next (
    if isStanding j.mode then closeStanding j (newSelect s) else refuse .badState (newSelect s)) := by
  have hj' : (newSelect s).count.job = some j := hj
  refine (request_fields h () (fun _ => countClose)).trans (congrArg _ ?_)
  rw [countClose, hj']

theorem exec_countAbort (h : Ready s) (hopen : s.count.state.sessionOpen = true) (hj : s.count.job = some j) :
    exec (.countAbort (.fields ())) s = .next (answer .ok [] (abortSession j (newSelect s))) := by
  have hj' : (newSelect s).count.job = some j := hj
  refine (request_fields h () (fun _ => countAbort)).trans (congrArg _ ((if_pos hopen).trans ?_))
  rw [hj']

theorem exec_countAbort_shut (h : Ready s) (hshut : s.count.state = .idle ∨ s.count.state = .closed) :
    exec (.countAbort (.fields ())) s = .next (refused .badState s) := by
  have hno : (newSelect s).count.state.sessionOpen = false := (sessionOpen_eq_false_iff s.count.state).mpr hshut
  refine (request_fields h () (fun _ => countAbort)).trans (congrArg _ ?_)
  rw [countAbort, hno]
  rfl

theorem closedResult_outcome (e : CountEngine) (j : CountJob) (o : CountOutcome) : (closedResult e j o).outcome = o := by
  unfold closedResult
  split <;> rfl

theorem closedResult_kept {e : CountEngine} {q : CountResult} (h : e.result = some q) (j : CountJob) (o : CountOutcome) :
    closedResult e j o = { q with outcome := o } := by
  rw [closedResult, h]

/-- COUNT_CLOSE of a standing session in OPEN or PAUSED. -/
theorem closeStanding_completed (hst : s.count.state = .opened ∨ s.count.state = .paused) :
    closeStanding j s = answer .ok [] (closeSession j .completed s) := by
  unfold closeStanding
  obtain hst | hst := hst <;> rw [hst]

theorem closeStanding_shut (hst : s.count.state = .idle ∨ s.count.state = .closed) :
    closeStanding j s = refuse .badState s := by
  unfold closeStanding
  obtain hst | hst := hst <;> rw [hst]

theorem closeStanding_running (hst : s.count.state = .running) : closeStanding j s = refuse .busy s := by
  rw [closeStanding, hst]

/-- A session without a deferred offer is abandoned: closed with its outcome, the container back in HELD (R96, R98). -/
theorem abandonCount_plain (hc : s.container? j.tag = some c) (hcounting : c.state = .counting) (hd : c.deferred = none)
    (reason : AbortReason) : abandonCount j reason s = { s with
      count := { s.count with state := .closed, batch := noBatch, fifo := [], noRecordEnds := none,
                              result := some (closedResult s.count j (.aborted reason)) },
      custody := { s.custody with table := s.tableWith j.tag (fun c =>
        if c.state = .counting then { c with state := .held } else c) } } := by
  have hlocked := releaseLock_container (s := closeSession j (.aborted reason) s) hc hcounting
  have hno : ({ c with state := .held } : Container).deferred = none := hd
  rw [abandonCount, settleDeferred_none hlocked hno, releaseLock, updateContainer_eq]
  rfl

/-- A session with a deferred offer is abandoned: the offer is dropped with COUNT_BLOCKED (R84). -/
theorem abandonCount_deferred (hc : s.container? j.tag = some c) (hcounting : c.state = .counting) (hd : c.deferred.isSome = true)
    (reason : AbortReason) : Blocked j.tag (abandonCount j reason s) ∧ (abandonCount j reason s).count.state = .closed ∧
      (abandonCount j reason s).container? j.tag =
        some { c with state := .held, deferred := none, lastResult := .refused .countBlocked } := by
  have hlocked := releaseLock_container (s := closeSession j (.aborted reason) s) hc hcounting
  obtain ⟨d, hd⟩ := Option.isSome_iff_exists.mp hd
  have hsome : ({ c with state := .held } : Container).deferred = some d := hd
  obtain ⟨hblocked, hfound⟩ := settleDeferred_dropped hlocked hsome (ok := false) nofun
  have hcount : Within [.table, .requests, .counter, .queue, .attn] (closeSession j (.aborted reason) s)
      (abandonCount j reason s) := by simp [abandonCount]
  refine ⟨hblocked, ?_, hfound⟩
  rw [hcount .count (by simp)]
  rfl

theorem abortSession_target (hmode : j.mode = .recount ∨ j.mode = .unpack) : abortSession j s = abandonCount j .request s := by
  rw [abortSession, (not_standing_iff _).mpr hmode]
  rfl

theorem abortSession_waiting (hmode : j.mode = .intake ∨ j.mode = .payout) (hst : s.count.state = .opened ∨ s.count.state = .paused) :
    abortSession j s = closeSession j (.aborted .request) s := by
  have hnot : s.count.state ≠ .running := by obtain hst | hst := hst <;> rw [hst] <;> decide
  rw [abortSession, (standing_iff _).mpr hmode, if_pos rfl, if_neg hnot]

theorem abortSession_running (hmode : j.mode = .intake ∨ j.mode = .payout) (hst : s.count.state = .running) :
    abortSession j s = endBatch .abort none s := by
  rw [abortSession, (standing_iff _).mpr hmode]
  exact if_pos hst

theorem stateAfter_abort (m : CountMode) : stateAfter m .abort = .closed := by
  unfold stateAfter
  split <;> rfl

/-- A running standing batch is applied by an abort, and the session is closed. -/
theorem endBatch_abort (hj : s.count.job = some j) (hmode : j.mode = .intake ∨ j.mode = .payout) :
    ∃ r b, Raised .countDone (endBatch .abort none s) ∧
      (endBatch .abort none s).count = { s.count with
        state := .closed, batch := noBatch, fifo := [], noRecordEnds := none, result := some r } ∧
      r.outcome = .aborted .request ∧ r.batch = some b ∧ b.incomplete = true ∧ b.cause = .abort ∧
      ∀ d, d < 12 → (endBatch .abort none s).pieces d =
        if j.mode = .intake then min 65535 (s.pieces d + tallyAt s.cfg s.count.fifo false d)
        else s.pieces d - tallyAt s.cfg s.count.fifo false d := by
  obtain ⟨v, happlied, heq⟩ := endBatch_applied hj hmode .abort none
  have hend : Within [.attn] v (endBatch .abort none s) := by
    rw [heq]
    simp
  have hcount : (endBatch .abort none s).count = endedEngine j .abort none s :=
    Eq.trans (hend .count (by simp)) (happlied.within .count (by simp))
  refine ⟨endedResult j .abort none s, _, ?_, ?_, ?_, rfl, rfl, rfl, fun d hd => ?_⟩
  · rw [heq]
    exact Raised.raiseIf (raised_raise .countDone v) _ _
  · rw [hcount, endedEngine, stateAfter_abort]
  · change outcomeAfter j.mode .abort _ = _
    rw [outcomeAfter, (standing_iff _).mpr hmode]
    rfl
  · rw [pieces_congr (hend .counts (by simp)), happlied.pieces d hd, atSlot_endedTally j s hd, tallyAt_eq]
    rfl

theorem noRecords_early {w : Nat} (hw : s.count.noRecordEnds = some w) (hearly : s.clock < w) : noRecords s = s := by
  rw [noRecords, hw]
  exact if_neg (by simpa [reached] using hearly)

theorem noRecords_due {w : Nat} (hw : s.count.noRecordEnds = some w) (hdue : w ≤ s.clock) (hj : s.count.job = some j) :
    noRecords s = raise .countDone (abandonCount j .noRecords s) := by
  have hreached : reached s.count.noRecordEnds s = true := by
    rw [hw]
    exact decide_eq_true hdue
  rw [noRecords, hreached, hj]
  rfl

end Close

/-- Settles O40: `closeStanding` and `abortSession` by mode and state; the timer abandons the session. -/
theorem sessionsCloseWithoutABatch : Obligations.SessionsCloseWithoutABatch := by
  refine ⟨fun s h => ⟨fun j hst hj hmode => ?_, fun j hst hj hmode => ?_, fun j hj hmode => ?_, fun hst => ?_⟩,
    fun j s hj => ?_⟩
  · refine ⟨_, closedResult s.count j .completed, (exec_countClose h hj).trans (congrArg _ ?_), rfl, closedResult_outcome ..,
      fun q hq => closedResult_kept hq ..⟩
    rw [(standing_iff _).mpr hmode, if_pos rfl, closeStanding_completed (s := newSelect s) hst]
    rfl
  · refine (exec_countClose h hj).trans (congrArg _ ?_)
    rw [(standing_iff _).mpr hmode, if_pos rfl, closeStanding_running (s := newSelect s) hst]
    rfl
  · refine (exec_countClose h hj).trans (congrArg _ ?_)
    rw [(not_standing_iff _).mpr hmode]
    rfl
  · cases hj : s.count.job with
    | none =>
      have hj' : (newSelect s).count.job = none := hj
      refine (request_fields h () (fun _ => countClose)).trans (congrArg _ ?_)
      rw [countClose, hj']
      rfl
    | some j =>
      refine (exec_countClose h hj).trans (congrArg _ ?_)
      rw [closeStanding_shut (s := newSelect s) hst]
      split <;> rfl
  · intro closed
    refine ⟨fun h hst => exec_countAbort_shut h hst, fun h hopen hmode c hc hcounting hd => ?_,
      fun h hopen hmode c hc hcounting hd => ?_, fun h hst hmode => ?_, fun h hst hmode => ?_,
      fun w c hp hw hmode hc hcounting => ⟨fun hearly => ?_, fun hdue hd => ?_, fun hdue hd => ?_⟩⟩
    · refine ⟨_, closedResult s.count j (.aborted .request), (exec_countAbort h hopen hj).trans (congrArg _ ?_),
        closedResult_outcome .., rfl⟩
      rw [abortSession_target hmode, abandonCount_plain (s := newSelect s) hc hcounting hd]
      rfl
    · obtain ⟨hblocked, hclosed, hfound⟩ := abandonCount_deferred (s := newSelect s) (j := j) hc hcounting hd .request
      refine ⟨answer .ok [] (abandonCount j .request (newSelect s)), (exec_countAbort h hopen hj).trans (congrArg _ ?_), rfl, hclosed,
        hblocked.1, hblocked.2, hfound⟩
      rw [abortSession_target hmode]
    · have hopen : s.count.state.sessionOpen = true := (sessionOpen_iff _).mpr (hst.imp_right .inr)
      refine ⟨_, closedResult s.count j (.aborted .request), (exec_countAbort h hopen hj).trans (congrArg _ ?_),
        closedResult_outcome .., rfl⟩
      rw [abortSession_waiting (s := newSelect s) hmode hst]
      rfl
    · have hopen : s.count.state.sessionOpen = true := (sessionOpen_iff _).mpr (.inr (.inl hst))
      obtain ⟨r, b, hdone, hcount, hrest⟩ := endBatch_abort (s := newSelect s) hj hmode
      refine ⟨answer .ok [] (endBatch .abort none (newSelect s)), r, b, (exec_countAbort h hopen hj).trans (congrArg _ ?_), rfl,
        hdone, hcount, hrest⟩
      rw [abortSession_running (s := newSelect s) hmode hst]
    · exact (event_running hp _).trans (congrArg _ (noRecords_early hw hearly))
    · refine ⟨_, closedResult s.count j (.aborted .noRecords), (event_running hp _).trans (congrArg _ ?_),
        closedResult_outcome .., rfl⟩
      rw [noRecords_due hw hdue hj, abandonCount_plain hc hcounting hd]
      rfl
    · obtain ⟨hblocked, hclosed, -⟩ := abandonCount_deferred (j := j) hc hcounting hd .noRecords
      exact ⟨_, (event_running hp _).trans (congrArg _ (noRecords_due hw hdue hj)), hclosed, hblocked.2⟩

end Sys2Proof.Machine

/-! PROOFS. The records of the count line (O41). -/

namespace Sys2Proof.Machine

section Records

variable {s : State}

/-- While the receiver does not discard, what the line brings is seen. -/
theorem event_countLine (hp : s.unit.power = .running) (hopen : s.count.discarding = false) (run : State → State) :
    event s (onCountLine run) = .next (run s) := by
  rw [event_running hp, onCountLine, hopen]
  rfl

/-- While it discards, nothing is. -/
theorem event_discarding (hp : s.unit.power = .running) (hshut : s.count.discarding = true) (run : State → State) :
    event s (onCountLine run) = .next s := by
  rw [event_running hp, onCountLine, hshut]
  rfl

theorem dropPossible_iff (cfg : Settings) (r : DropReason) :
    dropPossible cfg r = true ↔ (r = .parity → cfg.countLine.parity ≠ 0) := by
  cases r <;> simp [dropPossible, parityChecked]

theorem droppedRecord_possible {r : DropReason} (h : r = .parity → s.cfg.countLine.parity ≠ 0) :
    droppedRecord r s = dropAndDiscard r s := if_pos ((dropPossible_iff s.cfg r).mpr h)

theorem droppedRecord_impossible {r : DropReason} (h : ¬ (r = .parity → s.cfg.countLine.parity ≠ 0)) :
    droppedRecord r s = s := if_neg (mt (dropPossible_iff s.cfg r).mp h)

/-! ### Records by the state of the session (R89, R92) -/

/-- The count engine with a batch begun: as it is while one is RUNNING (R92). -/
def begun (s : State) : CountEngine :=
  { s.count with
    state := .running,
    batchNumber := if s.count.state = .running then s.count.batchNumber else min 65535 (s.count.batchNumber + 1),
    noRecordEnds := if s.count.state = .running then s.count.noRecordEnds else none }

theorem beginBatch_eq (hopen : s.count.state.sessionOpen = true) : beginBatch s = setCount (begun s) s := by
  unfold beginBatch begun
  obtain hst | hst | hst := (sessionOpen_iff _).mp hopen
  · simp only [hst]
    rfl
  · have hsame : setCount { s.count with state := .running } s = s := by rw [← hst]; rfl
    simp only [hst, if_true]
    exact hsame.symm
  · simp only [hst]
    rfl

/-- A record dropped in an open session is counted in the batch with its damage. -/
theorem recordDropped_open (hopen : s.count.state.sessionOpen = true) (r : DropReason) : recordDropped r s = { s with
    count := { begun s with batch := { s.count.batch with
      dropped := min 255 (s.count.batch.dropped + 1), damage := s.count.batch.damage.add (dropDamage r) } } } := by
  rw [recordDropped, if_pos hopen, beginBatch_eq hopen]
  rfl

theorem recordDropped_shut (hshut : s.count.state.sessionOpen = false) (r : DropReason) : recordDropped r s = strayRecord s := by
  rw [recordDropped, hshut]
  rfl

/-- An intact record with room for it joins the batch (R88, R92). -/
theorem recordCounted_room (hopen : s.count.state.sessionOpen = true) (hroom : s.count.fifo.length < 32) (r : CountEntry) :
    let b := s.count.batch
    let good := if r.suspect then b.good else b.good + r.count
    let reaches := progressReached s.cfg.threshold b good
    recordCounted r s = raiseIf reaches .countProgress { s with count := { begun s with
      fifo := s.count.fifo ++ [r],
      batch := { b with taken := b.taken + 1, good := good, progressed := b.progressed || reaches } } } := by
  intro b good reaches
  unfold recordCounted
  rw [beginBatch_eq hopen]
  exact if_neg (Nat.not_le.mpr hroom)

theorem recordCounted_full (hrun : s.count.state = .running) (hfull : 32 ≤ s.count.fifo.length) (r : CountEntry) :
    recordCounted r s = { s with count := { s.count with batch := { s.count.batch with
      lost := min 255 (s.count.batch.lost + 1), damage := s.count.batch.damage.add .overflow } } } := by
  have hsame : beginBatch s = s := by rw [beginBatch, hrun]
  unfold recordCounted
  rw [hsame]
  exact if_pos hfull

theorem progressReached_iff (threshold : Nat) (b : BatchFigures) (good : Nat) : progressReached threshold b good = true ↔
    b.progressed = false ∧ threshold ≠ 0 ∧ b.good < threshold ∧ threshold ≤ good := by
  simp [progressReached, and_assoc]

theorem countRecord_intact {r : CountEntry} (hcount : r.count ≠ 0) (huse : s.cfg.inUse r.slot = true) :
    countRecord r s = if s.count.state.sessionOpen then recordCounted r s else strayRecord s := by
  rw [countRecord, if_neg hcount, huse]
  rfl

end Records

/-- Settles O41: what the line shows of a record, then the record by the state of the session. -/
theorem recordsJoinTheBatch : Obligations.RecordsJoinTheBatch := by
  intro slot count suspect s hp isBegun strayed possible number timer
  refine ⟨fun hshut => ⟨event_discarding hp hshut _, event_discarding hp hshut _, event_discarding hp hshut _,
      fun r => event_discarding hp hshut _, event_discarding hp hshut _⟩, event_running hp _,
    fun hseen => ⟨fun r hno => ?_, fun hzero => ?_, fun hcount hno => ?_⟩,
    fun hseen hclosed => ⟨fun r hpossible => ?_, fun hcount huse => ?_, ?_⟩,
    fun hseen hopen hcount huse hroom => ?_, fun hseen hrun hcount huse hfull => ?_,
    fun hseen hopen => ⟨fun r hpossible => ?_, ?_⟩⟩
  · exact (event_countLine hp hseen _).trans (congrArg _ (droppedRecord_impossible hno))
  · refine (event_countLine hp hseen _).trans (Eq.trans (congrArg _ ?_) (event_countLine hp hseen _).symm)
    rw [droppedRecord_possible (r := .format) nofun]
    exact if_pos hzero
  · refine (event_countLine hp hseen _).trans (Eq.trans (congrArg _ ?_) (event_countLine hp hseen _).symm)
    rw [droppedRecord_possible (r := .slot) nofun, countRecord, if_neg hcount, hno]
    rfl
  · refine (event_countLine hp hseen _).trans (congrArg _ ?_)
    rw [droppedRecord_possible hpossible, dropAndDiscard, recordDropped_shut (s := endAssembly s) hclosed]
    rfl
  · refine (event_countLine hp hseen _).trans (congrArg _ ?_)
    rw [countRecord_intact hcount huse, hclosed]
    rfl
  · refine (event_countLine hp hseen _).trans (congrArg _ ?_)
    rw [recordAbandoned, recordDropped_shut (s := endAssembly s) hclosed]
    rfl
  · generalize hr : ({ slot := slot, suspect := suspect, count := count } : CountEntry) = r
    have hgood : (if r.suspect then s.count.batch.good else s.count.batch.good + r.count) =
        s.count.batch.good + if suspect = true then 0 else count := by
      rw [← hr]
      cases suspect <;> rfl
    have hjoins := recordCounted_room hopen hroom r
    dsimp only at hjoins
    rw [hgood] at hjoins
    generalize hreaches : progressReached s.cfg.threshold s.count.batch
      (s.count.batch.good + if suspect = true then 0 else count) = reaches at hjoins
    have hiff := progressReached_iff s.cfg.threshold s.count.batch
      (s.count.batch.good + if suspect = true then 0 else count)
    rw [hreaches] at hiff
    refine ⟨recordCounted r s, (event_countLine hp hseen _).trans (congrArg _ ?_), ?_⟩
    · rw [hr]
      exact (countRecord_intact (by rw [← hr]; exact hcount) (by rw [← hr]; exact huse)).trans (if_pos hopen)
    · rw [hjoins]
      cases reaches with
      | true =>
        obtain ⟨hno, hset, hbelow, habove⟩ := hiff.mp rfl
        refine ⟨rfl, fun _ _ _ _ => ⟨rfl, Bool.or_true _⟩, fun hnot => absurd hnot ?_⟩
        rintro (h | h | h | h)
        · rw [hno] at h
          cases h
        · exact hset h
        · omega
        · exact absurd habove (Nat.not_le.mpr h)
      | false =>
        refine ⟨rfl, fun hno hset hbelow habove => ?_, fun _ => ⟨rfl, Bool.or_false _⟩⟩
        cases hiff.mpr ⟨hno, hset, hbelow, habove⟩
  · have hopen : s.count.state.sessionOpen = true := by rw [hrun]; rfl
    refine (event_countLine hp hseen _).trans (congrArg _ ?_)
    rw [countRecord_intact hcount huse, if_pos hopen, recordCounted_full hrun hfull]
  · refine (event_countLine hp hseen _).trans (congrArg _ ?_)
    rw [droppedRecord_possible hpossible, dropAndDiscard, recordDropped_open (s := endAssembly s) hopen]
    rfl
  · refine (event_countLine hp hseen _).trans (congrArg _ ?_)
    rw [recordAbandoned, recordDropped_open (s := endAssembly s) hopen]
    rfl

end Sys2Proof.Machine

/-! PROOFS. RAISE_NEED, CANCEL_NEED, and the timers of a request (O44). -/

namespace Sys2Proof.Machine

section Raise

variable {s : State}

theorem exec_raiseNeed (h : PortRoom s) (k : NeedKind) (u : Urgency) (c : Composition) :
    exec (.raiseNeed (.fields { kind := needCode k, urgency := urgencyCode u, comp := c })) s = .next (
      if needComp s.cfg c then raiseNeedChecked k u c (newSelect s) else refuse .badLength (newSelect s)) := by
  refine (request_onLoop h.ready h.state _ raiseNeed).trans (congrArg _ ?_)
  cases k <;> cases u <;> rfl

theorem needComp_iff (cfg : Settings) (c : Composition) :
    needComp cfg c = true ↔ compRequired c = true ∧ ∀ q ∈ c, cfg.inUse q.1 = true := by
  simp [needComp]

/-- The next number is given unless a request has it. -/
theorem newId_next (h : ∀ r ∈ s.service.requests, r.id ≠ s.service.nextId) : s.newId = s.service.nextId := by
  have hany : s.service.requests.any (fun r => r.id == s.service.nextId) = false := by simpa using h
  rw [State.newId, freeId, hany]
  rfl

/-- An accepted RAISE_NEED: the request with its NEED in the queue, and NEED_RAISED. -/
theorem raiseNeedAccepted_newSelect (k : NeedKind) (u : Urgency) (c : Composition) (s : State) :
    raiseNeedAccepted k u c (newSelect s) = { answered .ok (numBytes 1 s.newId) s with
      service := { s.service with
        requests := s.service.requests ++ [newRequest k u c (s.cfg.valueOf c) s],
        nextId := if 255 ≤ s.newId then 1 else s.newId + 1 },
      loop := { s.loop with
        queue := s.queueWith true (if k = .change then 59 else 58)
          (.need { id := s.newId, kind := k, urgency := u, reopened := false, value := s.cfg.valueOf c, comp := c }) },
      attn := { s.attn.with .needRaised with returned := 0 } } := by
  have hattn : (newSelect s).attn.with .needRaised = { s.attn.with .needRaised with returned := 0 } := by
    have hzero : (0 : FlagWord) &&& ~~~(reasonMask .needRaised) = 0 := BitVec.zero_and
    change { s.attn.with .needRaised with returned := 0 &&& ~~~(reasonMask .needRaised) } = _
    rw [hzero]
  rw [raiseNeedAccepted, needTarget_eq, ← hattn]
  rfl

theorem raiseNeedChecked_room (h : PortRoom s) (k : NeedKind) (u : Urgency) (c : Composition) :
    raiseNeedChecked k u c (newSelect s) =
      if !raisesNeed s.unit.role k then refuse .roleNotAllowed (newSelect s)
      else if 4 ≤ s.service.requests.length then refuse .tableFull (newSelect s)
      else raiseNeedAccepted k u c (newSelect s) := by
  have hroom : (newSelect s).portRoom = true := (portRoom_iff s).mpr ⟨h.ports, h.room⟩
  rw [raiseNeedChecked, hroom]
  rfl

end Raise

/-! ### CANCEL_NEED (R135) -/

section Cancel

variable {s : State} {id : Nat} {r : OwnRequest}

theorem id_of_request? (h : s.request? id = some r) : r.id = id := by
  simpa using List.find?_some h

theorem exec_cancelNeed (h : Ready s) (hconf : s.member.state ≠ .unconfigured) (hr : s.request? id = some r) :
    exec (.cancelNeed (.fields id)) s = .next (cancelNeedFound r (newSelect s)) := by
  have hr' : (newSelect s).request? id = some r := hr
  have hconf' : (newSelect s).member.state ≠ .unconfigured := hconf
  refine (request_fields h id cancelNeed).trans (congrArg _ ?_)
  rw [cancelNeed, if_neg hconf', hr']

theorem removeRequest_eq (id : Nat) (s : State) : removeRequest id s =
    { s with service := { s.service with requests := s.service.requests.filter (fun q => q.id ≠ id) } } := by
  have hfilter : s.service.requests.filter (fun r => r.id != id) = s.service.requests.filter (fun q => q.id ≠ id) :=
    List.filter_congr fun r _ => by simp [bne, beq_eq_decide]
  unfold removeRequest
  rw [hfilter]
  rfl

theorem updateRequest_eq (id : Nat) (f : OwnRequest → OwnRequest) (s : State) : updateRequest id f s =
    { s with service := { s.service with requests := s.service.requests.map (fun q => if q.id = id then f q else q) } } := by
  simp [updateRequest, setRequests]

theorem isServing_iff (p : RequestPhase) : isServing p = true ↔ ∃ n a g, p = .serving n a g := by
  cases p <;> simp [isServing]

theorem not_unconfigured (h : joiningOrJoined s.member.state = true) : s.member.state ≠ .unconfigured := by
  intro hst
  rw [hst] at h
  cases h

end Cancel

/-! ### The timers of a request (R136, R139) -/

section Timers

variable {s : State} {id : Nat} {r : OwnRequest}

theorem requestExpiry_found (hr : s.request? id = some r) :
    requestExpiry id s = if expired s.cfg r then expireRequest r s else s := by
  rw [requestExpiry, hr]

theorem escalate_found (hr : s.request? id = some r) : escalate id s =
    if escalates s.cfg r then sendNeed (urgentRequest r) (updateRequest id urgentRequest s) else s := by
  rw [escalate, hr]

theorem claimLapse_found (hr : s.request? id = some r) :
    claimLapse id s = if claimOver s.cfg r then lapseRequest s r else s := by
  rw [claimLapse, hr]

/-- An expired request is gone, with its WITHDRAW where one is sent. -/
theorem expireRequest_frame (r : OwnRequest) (s : State) : expireRequest r s = { s with
    service := { s.service with requests := s.service.requests.filter (fun q => q.id ≠ r.id) },
    loop := { s.loop with queue := (expireRequest r s).loop.queue }, attn := (expireRequest r s).attn } := by
  have hframe : Within [.queue, .attn] (removeRequest r.id s) (expireRequest r s) := by
    simp [expireRequest, dropRequest]
  refine hframe.overlay.trans ?_
  rw [removeRequest_eq]
  rfl

theorem sendNeed_frame (r : OwnRequest) (s : State) : sendNeed r s =
    { s with loop := { s.loop with queue := (sendNeed r s).loop.queue }, attn := (sendNeed r s).attn } := by
  have hframe : Within [.queue, .attn] s (sendNeed r s) := by simp
  exact hframe.overlay

theorem lapseRequest_frame (r : OwnRequest) (s : State) : lapseRequest s r = { s with
    service := { s.service with requests := s.service.requests.map (fun q =>
      if q.id = r.id then { q with phase := .opened, openAge := 0, reopened := true } else q) },
    loop := { s.loop with queue := (lapseRequest s r).loop.queue }, attn := (lapseRequest s r).attn } := by
  have hframe : Within [.queue, .attn] (updateRequest r.id reopenRequest s) (lapseRequest s r) := by simp [lapseRequest]
  refine hframe.overlay.trans ?_
  rw [updateRequest_eq]
  rfl

end Timers

/-- Settles O44: the checks of RAISE_NEED and CANCEL_NEED in their order; each timer acts when the age has reached its limit. -/
theorem requestsAreRaisedAndEnd : Obligations.RequestsAreRaisedAndEnd := by
  refine ⟨fun k u c s h => ?_, fun id r s hp hr => ?_⟩
  · intro body
    have hexec := exec_raiseNeed h k u c
    have hconf := not_unconfigured h.state
    refine ⟨fun hbad => hexec.trans (congrArg _ (if_neg ?_)), fun hform huse => ?_, fun id hnone => ?_, fun id r hr hserving => ?_,
      fun id r hr hnot => ?_⟩
    · rw [needComp_iff]
      rintro ⟨hform, huse⟩
      obtain hno | ⟨q, hq, hno⟩ := hbad
      · rw [hform] at hno
        cases hno
      · rw [huse q hq] at hno
        cases hno
    · rw [hexec, (needComp_iff s.cfg c).mpr ⟨hform, huse⟩, if_pos rfl, raiseNeedChecked_room h]
      refine ⟨fun hno => ?_, fun hraises hfull => ?_, fun hraises hroom => ?_⟩
      · rw [hno]
        rfl
      · rw [hraises]
        exact congrArg _ (if_pos hfull)
      · rw [hraises]
        refine ⟨s.newId, _, congrArg _ (if_neg (Nat.not_le.mpr hroom)), newId_fresh hroom,
          fun h1 h255 => freeId_range _ _ ⟨h1, h255⟩, newId_next, raiseNeedAccepted_newSelect k u c s⟩
    · have hnone' : (newSelect s).request? id = none := hnone
      have hconf' : (newSelect s).member.state ≠ .unconfigured := hconf
      refine (request_fields h.ready id cancelNeed).trans (congrArg _ ?_)
      rw [cancelNeed, if_neg hconf', hnone']
      rfl
    · exact (exec_cancelNeed h.ready hconf hr).trans (congrArg _ (if_pos ((isServing_iff _).mpr hserving)))
    · have hno : isServing r.phase = false := by
        rw [← Bool.not_eq_true, isServing_iff]
        rintro ⟨n, a, g, hphase⟩
        exact hnot n a g hphase
      have hjoin : joiningOrJoined (newSelect s).member.state = true := h.state
      have hroom : (newSelect s).portRoom = true := (portRoom_iff s).mpr ⟨h.ports, h.room⟩
      rw [exec_cancelNeed h.ready hconf hr, cancelNeedFound, hno, hjoin, hroom, dropRequest, removeRequest_eq, withdrawPayload,
        id_of_request? hr]
      rfl
  · have hid := id_of_request? hr
    refine ⟨fun hopen hlimit => ?_, fun hnot => ?_, fun hopen hnormal hset hlimit => ?_, fun hnot => ?_,
      fun n a hphase => ⟨fun hlimit => ?_, fun hearly => ?_⟩, fun hnot => ?_⟩
    · refine ⟨expireRequest r s, (event_running hp _).trans (congrArg _ ?_), raised_raise _ _, ?_⟩
      · exact (requestExpiry_found hr).trans (if_pos ((expired_iff s.cfg r).mpr ⟨hopen, hlimit⟩))
      · rw [← hid]
        exact expireRequest_frame r s
    · refine (event_running hp _).trans (congrArg _ ((requestExpiry_found hr).trans (if_neg ?_)))
      rw [expired_iff]
      rintro ⟨hopen, hlimit⟩
      obtain hno | hearly := hnot
      · exact hno hopen
      · omega
    · refine ⟨sendNeed (urgentRequest r) (updateRequest id urgentRequest s), (event_running hp _).trans (congrArg _ ?_),
        fun hjoin hroom => ?_, ?_⟩
      · exact (escalate_found hr).trans (if_pos ((escalates_iff s.cfg r).mpr ⟨hopen, hnormal, hset, hlimit⟩))
      · rw [← hid]
        exact (sendNeed_waits (s := updateRequest r.id urgentRequest s) hjoin hroom (urgentRequest r)).1
      · refine (sendNeed_frame ..).trans ?_
        rw [updateRequest_eq]
        rfl
    · refine (event_running hp _).trans (congrArg _ ((escalate_found hr).trans (if_neg ?_)))
      rw [escalates_iff]
      rintro ⟨hopen, hnormal, hset, hlimit⟩
      obtain hno | hurgent | hoff | hearly := hnot
      · exact hno hopen
      · rw [hnormal] at hurgent
        cases hurgent
      · exact hset hoff
      · omega
    · refine ⟨lapseRequest s r, (event_running hp _).trans (congrArg _ ?_), raised_raise _ _, ?_⟩
      · exact (claimLapse_found hr).trans (if_pos ((claimOver_iff s.cfg r).mpr ⟨n, a, hphase, hlimit⟩))
      · rw [← hid]
        exact lapseRequest_frame r s
    · refine (event_running hp _).trans (congrArg _ ((claimLapse_found hr).trans (if_neg ?_)))
      rw [claimOver_iff]
      rintro ⟨m, b, hother, hlimit⟩
      rw [hphase] at hother
      cases hother
      omega
    · refine (event_running hp _).trans (congrArg _ ((claimLapse_found hr).trans (if_neg ?_)))
      rw [claimOver_iff]
      rintro ⟨m, b, hphase, -⟩
      exact hnot m b hphase

end Sys2Proof.Machine

/-! PROOFS. CLAIM_NEXT and CLAIM, the report of a CLAIM, and the award at the requester (O45). -/

namespace Sys2Proof.Machine

/-! ### The Service List -/

section Lists

variable {s : State}

theorem updateService_eq (requester id : Nat) (f : ServiceEntry → ServiceEntry) (s : State) : updateService requester id f s =
    { s with service := { s.service with list := s.service.list.map (fun d =>
      if d.requester = requester ∧ d.id = id then f d else d) } } := by
  rw [updateService, mapService_eq]
  rfl

theorem removeService_eq (requester id : Nat) (s : State) : removeService requester id s =
    { s with service := { s.service with list := s.service.list.filter (fun d => ¬ (d.requester = requester ∧ d.id = id)) } } := by
  have hfilter : s.service.list.filter (fun e => !(e.requester == requester && e.id == id)) =
      s.service.list.filter (fun d => ¬ (d.requester = requester ∧ d.id = id)) :=
    List.filter_congr fun e _ => by
      rw [Bool.eq_iff_iff]
      simp
  unfold removeService
  rw [hfilter]
  rfl

theorem commitments_eq (s : State) : s.commitments = (s.service.list.filter (fun e => e.state ≠ .listed)).length := by
  refine congrArg List.length (List.filter_congr fun e _ => ?_)
  cases e.state <;> rfl

theorem serviceOrder_eq (l : List ServiceEntry) :
    serviceOrder l = l.filter (·.urgency = .urgent) ++ l.filter (·.urgency = .normal) := by
  refine congrArg₂ _ (List.filter_congr fun e _ => ?_) (List.filter_congr fun e _ => ?_)
  · cases e.urgency <;> rfl
  · cases e.urgency <;> rfl

theorem mem_serviceOrder {e : ServiceEntry} {l : List ServiceEntry} (h : e ∈ serviceOrder l) : e ∈ l := by
  obtain h | h := List.mem_append.mp h
  · exact (List.mem_filter.mp h).1
  · exact (List.mem_filter.mp h).1

theorem nextEligible_none (h : ∀ e ∈ s.service.list, s.eligible e = false) : s.nextEligible = none :=
  List.find?_eq_none.mpr fun e he => by simp [h e (mem_serviceOrder he)]

theorem nextEligible_some {before after : List ServiceEntry} {e : ServiceEntry}
    (horder : s.service.list.filter (·.urgency = .urgent) ++ s.service.list.filter (·.urgency = .normal) = before ++ [e] ++ after)
    (hbefore : ∀ d ∈ before, s.eligible d = false) (he : s.eligible e = true) : s.nextEligible = some e := by
  rw [State.nextEligible, serviceOrder_eq, horder, List.append_assoc, List.find?_append,
    List.find?_eq_none.mpr fun d hd => by simp [hbefore d hd]]
  simp [he]

end Lists

/-! ### CLAIM_NEXT and CLAIM (R145) -/

section Claim

variable {s : State} {role : Role}

/-- The state after a claim of an entry by a station of the role. -/
def claimedEntry (role : Role) (e : ServiceEntry) (s : State) : State :=
  { answered .started (numBytes 1 e.requester ++ numBytes 1 e.id) s with
    service := { s.service with list := s.service.list.map (fun d =>
      if d.requester = e.requester ∧ d.id = e.id then { d with state := .claiming } else d) },
    loop := { s.loop with queue := s.queueWith true e.requester (.claim { id := e.id, kind := e.kind, role := role }) } }

theorem claimAccepted_newSelect (hrole : s.unit.role = some role) (e : ServiceEntry) :
    claimAccepted e (newSelect s) = claimedEntry role e s := by
  have hrole' : (newSelect s).unit.role.getD .desk = role := by
    change s.unit.role.getD .desk = role
    rw [hrole]
    rfl
  rw [claimAccepted, hrole', updateService_eq]
  rfl

/-- A server below its limit of commitments. -/
structure MayClaim (s : State) (role : Role) : Prop where
  room : PortRoom s
  serves : s.unit.role = some role
  server : isServer (some role) = true

theorem isServer_of_ne (h : role ≠ .till) : isServer (some role) = true := by
  cases role with
  | till => exact absurd rfl h
  | desk => rfl
  | safe => rfl

theorem exec_claimNext (h : MayClaim s role) : exec (.claimNext (.fields ())) s = .next (
    if 4 ≤ s.commitments then refuse .limit (newSelect s)
    else match s.nextEligible with
      | none => refuse .notFound (newSelect s)
      | some e => claimAccepted e (newSelect s)) := by
  have hserver : isServer (newSelect s).unit.role = true := (congrArg isServer h.serves).trans h.server
  have hroom : (newSelect s).portRoom = true := (portRoom_iff s).mpr ⟨h.room.ports, h.room.room⟩
  have hnext : (newSelect s).nextEligible = s.nextEligible := rfl
  refine (request_onLoop h.room.ready h.room.state () (fun _ => claimNext)).trans (congrArg _ ?_)
  rw [claimNext, hserver, hroom, hnext]
  cases s.nextEligible <;> rfl

theorem exec_claim (h : MayClaim s role) {n id : Nat} (hn : s.namesPeer n = true) (h1 : 1 ≤ id) (h255 : id ≤ 255)
    (hfew : s.commitments < 4) {e : ServiceEntry} (he : s.service? n id = some e) :
    exec (.claim (.fields { requester := n, id := id })) s = .next (
      if e.state ≠ .listed then refuse .badState (newSelect s) else claimedEntry role e s) := by
  have hserver : isServer (newSelect s).unit.role = true := (congrArg isServer h.serves).trans h.server
  have hroom : (newSelect s).portRoom = true := (portRoom_iff s).mpr ⟨h.room.ports, h.room.room⟩
  have hn' : (newSelect s).namesPeer n = true := hn
  have he' : (newSelect s).service? n id = some e := he
  have hid : (id == 0) = false := by simpa using Nat.ne_of_gt h1
  have hlimit : ¬ Config.commitmentCap ≤ (newSelect s).commitments := Nat.not_le.mpr hfew
  refine (request_onLoop h.room.ready h.room.state _ claim).trans (congrArg _ ?_)
  rw [claim, if_neg (by simp [hn', hid, h255]), hserver, if_neg (by decide), if_neg hlimit, he']
  dsimp only
  rw [claimFound, hroom, claimAccepted_newSelect h.serves]
  rfl

theorem exec_claimReport {n : Nat} {p : ClaimPayload} (h : OnLine s n (.claim p)) (ack : Bool) :
    exec (.claimReport ack) s = .next (claimReported n p.id ack { s with loop := s.loop.ended }) := by
  obtain ⟨q, htarget, hq, hexec⟩ := sentOf_reported h rfl (kind := isClaim) rfl ack
  refine hexec.trans (congrArg _ ?_)
  unfold report
  rw [hq, htarget]

end Claim

/-! ### The award at the requester (R138) -/

section Award

variable {s : State} {p : ClaimPayload} {r : OwnRequest}

theorem claimFits_iff (p : ClaimPayload) (r : OwnRequest) : claimFits p r = true ↔
    r.phase = .opened ∧ r.kind = p.kind ∧ servesNeed (some p.role) p.kind = true := by
  simp [claimFits, and_assoc]

theorem hearClaim_fits (sender : Nat) (hr : s.request? p.id = some r) (hfits : claimFits p r = true) :
    hearClaim sender p s = acted (awardRequest sender r s) := by
  have hfound : (s.request? p.id).filter (claimFits p) = some r := by rw [hr, Option.filter, if_pos hfits]
  rw [hearClaim, hfound]

theorem hearClaim_other (sender : Nat) (h : ∀ r, s.request? p.id = some r → claimFits p r = false) :
    hearClaim sender p s = notActed s := by
  have hfound : (s.request? p.id).filter (claimFits p) = none := by
    cases hr : s.request? p.id with
    | none => rfl
    | some r => rw [Option.filter, if_neg (Bool.eq_false_iff.mp (h r hr))]
  rw [hearClaim, hfound]

/-- A waiting NEED is not on the line, so that every frame of the request waits once the line has been yielded. -/
theorem yielded_waiting (id : Nat) (s : State) : (s.loop.yielded.queue.filter (fun f => !isWaitingNeed id f)).length =
    (s.loop.queue.filter (fun f => !isWaitingNeed id { f with onLine := false })).length := by
  change ((s.loop.queue.map (fun f => { f with onLine := false })).filter _).length = _
  rw [List.filter_map, List.length_map]
  rfl

end Award

/-- Settles O45: CLAIM_NEXT takes the first eligible entry, CLAIM a LISTED one; the report and the award by `claimReported` and
`awardRequest`. -/
theorem claimsAreMadeAndAwarded : Obligations.ClaimsAreMadeAndAwarded := by
  refine ⟨fun s role => ?_, fun sender target p s hhears => ⟨fun r hr hopen hkind hserves hroom => ?_, fun hnot => ?_⟩⟩
  · intro claimed
    refine ⟨fun h hrole htill => ⟨fun hmany => ?_, fun hfew => ⟨fun hnone => ?_, fun before e after horder hbefore he => ?_,
        fun n id e h1 h56 hown hid h255 he => ?_⟩⟩, fun h hrole => ?_, fun n p e hline he => ?_⟩
    · rw [exec_claimNext ⟨h, hrole, isServer_of_ne htill⟩, if_pos ((commitments_eq s).symm ▸ hmany)]
      rfl
    · rw [exec_claimNext ⟨h, hrole, isServer_of_ne htill⟩, if_neg (by rw [commitments_eq]; omega), nextEligible_none hnone]
      rfl
    · rw [exec_claimNext ⟨h, hrole, isServer_of_ne htill⟩, if_neg (by rw [commitments_eq]; omega),
        nextEligible_some horder hbefore he]
      exact congrArg _ (claimAccepted_newSelect hrole e)
    · rw [exec_claim ⟨h, hrole, isServer_of_ne htill⟩ ((namesPeer_iff s n).mpr ⟨h1, h56, hown⟩) hid h255
        (by rw [commitments_eq]; exact hfew) he]
      exact ⟨fun hlisted => congrArg _ (if_neg (not_not.mpr hlisted)), fun hnot => congrArg _ (if_pos hnot)⟩
    · have hserver : isServer (newSelect s).unit.role = false := congrArg isServer hrole
      refine (request_onLoop h.ready h.state () (fun _ => claimNext)).trans (congrArg _ ?_)
      rw [claimNext, hserver]
      rfl
    · have he' : ({ s with loop := s.loop.ended } : State).service? n p.id = some e := he
      refine ⟨fun hst => ⟨?_, ?_⟩, fun hst ack => ?_⟩
      · rw [exec_claimReport hline, claimReported, he']
        dsimp only
        rw [if_neg (not_not.mpr hst), updateService_eq]
        rfl
      · rw [exec_claimReport hline, claimReported, he']
        dsimp only
        rw [if_neg (not_not.mpr hst), removeService_eq]
        rfl
      · rw [exec_claimReport hline, claimReported, he']
        exact congrArg _ (if_pos hst)
  · have hr' : (s.heard sender false).request? p.id = some r := hr
    have hhear := hearClaim_fits sender hr' ((claimFits_iff p r).mpr ⟨hopen, hkind, hserves⟩)
    refine (event_heard hhears rfl hhear).trans ?_
    have hstate : (dropNeed p.id (updateRequest p.id (fun r => { r with phase := .claimed sender 0 })
        (s.heard sender false))).member.state = .onLoop := hhears.onLoop
    have hlength : (dropNeed p.id (updateRequest p.id (fun r => { r with phase := .claimed sender 0 })
        (s.heard sender false))).loop.queue.length < 12 := (yielded_waiting p.id s).trans_lt hroom
    rw [awardRequest, awardPayload, id_of_request? hr, chipFrame_joins (queueTakes_of_joining (by rw [hstate]; rfl)) hlength, updateRequest_eq]
    rfl
  · refine event_heard hhears rfl (r := notActed (s.heard sender false)) (hearClaim_other sender fun r hr => ?_)
    rw [← Bool.not_eq_true, claimFits_iff]
    rintro ⟨hopen, hkind, hserves⟩
    obtain hno | hno | hno := hnot r hr
    · exact hno hopen
    · exact hno hkind
    · rw [hserves] at hno
      cases hno

end Sys2Proof.Machine

/-! PROOFS. NEED, AWARD and WITHDRAW received, and the backup delay (O46). -/

namespace Sys2Proof.Machine

section Eligible

variable {s : State}

/-- Eligibility looks at the settings and the clock only (R143). -/
theorem eligible_congr {s t : State} (hcfg : t.cfg = s.cfg) (hclock : t.clock = s.clock) (e : ServiceEntry) :
    t.eligible e = s.eligible e := by
  rw [State.eligible, hcfg, hclock]
  rfl

/-- An entry that joins the list as LISTED. -/
theorem listEntry_eq (e : ServiceEntry) (s : State) : listEntry e s = { s with
    service := { s.service with list := s.service.list ++ [{ e with listedRaised := s.eligible e }] },
    attn := if s.eligible e = true then s.attn.with .serviceListed else s.attn } := by
  have heligible : (setServiceList (s.service.list ++ [markListed s e]) s).eligible e = s.eligible e := eligible_congr rfl rfl e
  rw [listEntry, announceListed, heligible, raiseIf_attn Iff.rfl]
  rfl

end Eligible

/-! ### A NEED (R144) -/

section Need

variable {s : State} {sender : Nat} {p : NeedPayload} {e : ServiceEntry}

theorem hearNeed_foreign (h : servesNeed s.unit.role p.kind = false) : hearNeed sender p s = notActed s := by
  rw [hearNeed, h]
  rfl

theorem hearNeed_known (h : servesNeed s.unit.role p.kind = true) (he : s.service? sender p.id = some e) :
    hearNeed sender p s = acted (needKnown p e s) := by
  rw [hearNeed, h, he]
  rfl

theorem hearNeed_new (h : servesNeed s.unit.role p.kind = true) (hnone : s.service? sender p.id = none) :
    hearNeed sender p s = if s.service.list.length < 16 then acted (listEntry (neededEntry sender p s) s) else needFull sender p s := by
  rw [hearNeed, h, hnone]
  rfl

theorem needKnown_updates (he : s.service? sender p.id = some e) (hwon : e.state ≠ .won) : needKnown p e s =
    { s with service := { s.service with list := s.service.list.map (fun d =>
      if d.requester = sender ∧ d.id = p.id then heardNeed p d else d) } } := by
  obtain ⟨hrequester, hid⟩ := key_of_service? he
  rw [needKnown, if_neg hwon, updateService_eq, hrequester, hid]

/-- A WON entry turned back (R143, R144). -/
theorem needKnown_relists (he : s.service? sender p.id = some e) (hwon : e.state = .won) :
    let back : ServiceEntry := { heardNeed p e with state := .listed }
    Raised .claimLapsed (needKnown p e s) ∧ (s.eligible back = true → Raised .serviceListed (needKnown p e s)) ∧
    needKnown p e s = { s with
      service := { s.service with list := s.service.list.map (fun d =>
        if d.requester = sender ∧ d.id = p.id then { back with listedRaised := s.eligible back } else d) },
      attn := (needKnown p e s).attn } := by
  intro back
  obtain ⟨hrequester, hid⟩ := key_of_service? he
  have heq : needKnown p e s = announceListed back (raise .claimLapsed (updateService sender p.id (fun _ => markListed s back) s)) := by
    rw [needKnown, if_pos hwon, relistEntry, hrequester, hid]
  have heligible : (raise .claimLapsed (updateService sender p.id (fun _ => markListed s back) s)).eligible back =
      s.eligible back := eligible_congr rfl rfl back
  have hframe : Within [.attn] (updateService sender p.id (fun _ => markListed s back) s) (needKnown p e s) := by
    rw [heq]
    simp
  refine ⟨?_, fun hnow => ?_, hframe.overlay.trans ?_⟩
  · rw [heq]
    exact Raised.raiseIf (raised_raise ..) _ _
  · rw [heq, announceListed, heligible, hnow]
    exact raised_raise ..
  · rw [updateService_eq]
    rfl

theorem needFull_kept (h : s.outranked p = none) : needFull sender p s = notActed (raise .serviceListFull s) := by
  unfold needFull
  rw [h]

theorem needFull_outranks (h : s.outranked p = some e) : needFull sender p s =
    acted (listEntry (neededEntry sender p s) (removeService e.requester e.id (raise .serviceListFull s))) := by
  unfold needFull
  rw [h]

theorem serviceOrder_listed (l : List ServiceEntry) : (serviceOrder l).filter (fun e => e.state == .listed) =
    l.filter (fun e => e.urgency == .urgent && e.state == .listed) ++ l.filter (fun e => e.urgency == .normal && e.state == .listed) := by
  rw [serviceOrder, List.filter_append, List.filter_filter, List.filter_filter]
  refine congrArg₂ _ ?_ ?_ <;> exact List.filter_congr fun e _ => Bool.and_comm ..

/-- The last LISTED entry is urgent when every LISTED entry is. -/
theorem outranked_none (h : p.urgency = .normal ∨ ∀ e ∈ s.service.list, e.state = .listed → e.urgency = .urgent) :
    s.outranked p = none := by
  refine Option.filter_eq_none_iff.mpr fun e he hboth => ?_
  have hmem := List.mem_filter.mp (List.mem_of_getLast? he)
  have hlisted : e.state = .listed := by simpa using hmem.2
  simp only [Bool.and_eq_true, beq_iff_eq] at hboth
  obtain hnormal | hall := h
  · rw [hnormal] at hboth
    exact absurd hboth.1 (by decide)
  · rw [hall e (mem_serviceOrder hmem.1) hlisted] at hboth
    exact absurd hboth.2 (by decide)

/-- The last LISTED entry is the last normal one, where there is one. -/
theorem outranked_some {before after : List ServiceEntry} (hp : p.urgency = .urgent)
    (hlist : s.service.list = before ++ [e] ++ after) (hst : e.state = .listed) (hnormal : e.urgency = .normal)
    (hafter : ∀ d ∈ after, d.state = .listed → d.urgency = .urgent) : s.outranked p = some e := by
  have hrest : after.filter (fun d => d.urgency == .normal && d.state == .listed) = [] := by
    refine List.filter_eq_nil_iff.mpr fun d hd hboth => ?_
    simp only [Bool.and_eq_true, beq_iff_eq] at hboth
    rw [hafter d hd hboth.2] at hboth
    exact absurd hboth.1 (by decide)
  have hlast : s.lastListed = some e := by
    rw [State.lastListed, serviceOrder_listed, hlist]
    simp [List.filter_append, hrest, hnormal, hst]
  rw [State.outranked, hlast, Option.filter, if_pos]
  simp [hp, hnormal]

end Need

/-! ### An AWARD and a WITHDRAW (R146) -/

section Award

variable {s : State} {sender : Nat} {p : AwardPayload} {e : ServiceEntry}

theorem hearAward_known (he : s.service? sender p.id = some e) :
    hearAward sender p s = if p.claimant = s.own then awardedHere p e s else awardedElsewhere e s := by
  rw [hearAward, he]

theorem hearAward_unknown (hnone : s.service? sender p.id = none) :
    hearAward sender p s = if p.claimant = s.own then awardedAnew sender p s else notActed s := by
  rw [hearAward, hnone]

theorem awardedHere_wins (hwon : e.state ≠ .won) :
    awardedHere p e s = acted (raise .claimWon (updateService e.requester e.id (wonBy p) s)) := by
  unfold awardedHere
  cases hst : e.state with
  | listed => rfl
  | claiming => rfl
  | won => exact absurd hst hwon

theorem awardedAnew_room (hroom : s.service.list.length < 16) (hfew : s.commitments < 4) : awardedAnew sender p s =
    acted (raise .claimWon (setServiceList (s.service.list ++ [awardedEntry sender p s]) s)) := if_pos ⟨hroom, hfew⟩

theorem awardedAnew_full (h : ¬ (s.service.list.length < 16 ∧ s.commitments < 4)) : awardedAnew sender p s = notActed s := if_neg h

theorem hearWithdraw_known {p : WithdrawPayload} (he : s.service? sender p.id = some e) :
    hearWithdraw sender p s = acted (raiseIf (withdrawsWon p.reason e) .claimLapsed (removeService e.requester e.id s)) := by
  rw [hearWithdraw, he]

theorem hearWithdraw_unknown {p : WithdrawPayload} (hnone : s.service? sender p.id = none) :
    hearWithdraw sender p s = notActed s := by
  rw [hearWithdraw, hnone]

theorem withdrawsWon_iff (r : WithdrawReason) (e : ServiceEntry) : withdrawsWon r e = true ↔ e.state = .won ∧ r ≠ .served := by
  cases r <;> simp [withdrawsWon]

theorem backupDueNow_eligible_iff (s : State) (e : ServiceEntry) : s.backupDueNow e = true ↔
    s.eligible e = true ∧ inPrimary s.cfg.cover e.requester = false ∧ e.listedRaised = false := by
  simp [State.backupDueNow, and_assoc]

theorem backupEligible_found {requester id : Nat} (he : s.service? requester id = some e) : backupEligible requester id s =
    if s.backupDueNow e then raise .serviceListed (updateService requester id (fun e => { e with listedRaised := true }) s)
    else s := by
  rw [backupEligible, he]

end Award

/-- Settles O46: each frame acts on the entry of its sender by `needKnown`, `listEntry`, `needFull`, `awardedHere`,
`awardedElsewhere`, `awardedAnew` and `removeService`. -/
theorem serviceListFollowsTheFrames : Obligations.ServiceListFollowsTheFrames := by
  refine ⟨fun sender target p s hhears => ?_, fun s n => ⟨fun id e hp he => ⟨fun hnow hrange hfresh => ?_, fun hnot => ?_⟩,
    fun target p hhears => ?_, fun target p hhears => ⟨fun hnone => ?_, fun e he => ?_⟩⟩⟩
  · intro fresh updated
    have hexec := fun r => event_heard hhears rfl (r := r)
    refine ⟨fun hno => hexec (notActed _) (hearNeed_foreign (s := s.heard sender false) hno),
      fun hserves => ⟨fun e he hwon => ?_, fun e he hwon => ?_, fun hnone hroom => ?_, fun hnone hfull => ⟨fun hkept => ?_,
        fun before e after hp hlist hst hnormal hafter => ?_⟩⟩⟩
    · have he' : (s.heard sender false).service? sender p.id = some e := he
      refine (hexec (acted _) (hearNeed_known hserves he')).trans ?_
      rw [needKnown_updates he' hwon]
      rfl
    · have he' : (s.heard sender false).service? sender p.id = some e := he
      obtain ⟨hlapsed, hlisted, hframe⟩ := needKnown_relists he' hwon
      have hsame (d : ServiceEntry) : (s.heard sender false).eligible d = s.eligible d := eligible_congr rfl rfl d
      refine ⟨driveSlot (needKnown p e (s.heard sender false)), _, hexec (acted _) (hearNeed_known hserves he'), hlapsed,
        fun hnow => hlisted ((hsame _).trans hnow), congrArg driveSlot hframe⟩
    · have hhear := (hearNeed_new (s := s.heard sender false) (sender := sender) hserves hnone).trans (if_pos hroom)
      refine (hexec (acted _) hhear).trans ?_
      rw [listEntry_eq, eligible_congr (s := s) (t := s.heard sender false) rfl rfl]
      rfl
    · have hhear := (hearNeed_new (s := s.heard sender false) (sender := sender) hserves hnone).trans (if_neg (Nat.not_lt.mpr hfull))
      exact hexec (notActed _) (hhear.trans (needFull_kept (outranked_none (s := s.heard sender false) hkept)))
    · have hhear := (hearNeed_new (s := s.heard sender false) (sender := sender) hserves hnone).trans (if_neg (Nat.not_lt.mpr hfull))
      have hout : (s.heard sender false).outranked p = some e := outranked_some hp hlist hst hnormal hafter
      have hnew : listEntry (neededEntry sender p (s.heard sender false)) (removeService e.requester e.id
          (raise .serviceListFull (s.heard sender false))) = { s.heard sender false with
            service := { s.service with list := s.service.list.filter (fun d => ¬ (d.requester = e.requester ∧ d.id = e.id)) ++
              [{ fresh with listedRaised := s.eligible fresh }] },
            attn := if s.eligible fresh = true then (s.attn.with .serviceListFull).with .serviceListed
              else s.attn.with .serviceListFull } := by
        rw [listEntry_eq, removeService_eq, eligible_congr (s := s) rfl rfl]
        rfl
      have hfullRaised : Raised .serviceListFull (listEntry (neededEntry sender p (s.heard sender false))
          (removeService e.requester e.id (raise .serviceListFull (s.heard sender false)))) := by
        have hremoved : Raised .serviceListFull (removeService e.requester e.id (raise .serviceListFull (s.heard sender false))) :=
          raised_raise .serviceListFull (s.heard sender false)
        have hadded (l : List ServiceEntry) : Raised .serviceListFull (setServiceList l (removeService e.requester e.id
          (raise .serviceListFull (s.heard sender false)))) := hremoved
        exact Raised.raiseIf (hadded _) _ _
      refine ⟨driveSlot _, hexec (acted _) (hhear.trans (needFull_outranks hout)), hfullRaised, ?_, ?_⟩
      · rw [hnew]
        rfl
      · rw [hnew]
        rfl
  · have hdue : s.backupDueNow e = true := (backupDueNow_eligible_iff s e).mpr ⟨hnow, (key_of_service? he).1 ▸ hrange, hfresh⟩
    refine (event_running hp _).trans (congrArg _ ((backupEligible_found he).trans ((if_pos hdue).trans ?_)))
    rw [updateService_eq]
    rfl
  · refine (event_running hp _).trans (congrArg _ ((backupEligible_found he).trans (if_neg ?_)))
    rw [backupDueNow_eligible_iff, (key_of_service? he).1]
    rintro ⟨hnow, hrange, hfresh⟩
    obtain hno | hno | hno := hnot
    · rw [hnow] at hno
      cases hno
    · rw [hrange] at hno
      cases hno
    · rw [hfresh] at hno
      cases hno
  · intro without
    have hexec := fun r => event_heard hhears rfl (r := r)
    refine ⟨fun e he hother => ?_, fun e he hhere => ?_, fun hnone hhere hroom hfew => ?_, fun hnone hnot => ?_⟩
    · have he' : (s.heard n false).service? n p.id = some e := he
      have hhear := (hearAward_known he').trans (if_neg hother)
      obtain ⟨hrequester, hid⟩ := key_of_service? he
      rw [awardedElsewhere, hrequester, hid] at hhear
      refine ⟨fun hst => ?_, fun hst => ?_, fun hst => ?_⟩
      · rw [hst] at hhear
        refine (hexec _ hhear).trans ?_
        rw [removeService_eq]
        rfl
      · rw [hst] at hhear
        refine (hexec _ hhear).trans ?_
        rw [removeService_eq]
        rfl
      · rw [hst] at hhear
        exact hexec _ hhear
    · have he' : (s.heard n false).service? n p.id = some e := he
      have hhear := (hearAward_known he').trans (if_pos hhere)
      obtain ⟨hrequester, hid⟩ := key_of_service? he
      refine ⟨fun hst => ?_, fun hst => ?_⟩
      · rw [awardedHere_wins hst, hrequester, hid] at hhear
        refine (hexec _ hhear).trans ?_
        rw [updateService_eq]
        rfl
      · rw [awardedHere, hst] at hhear
        exact hexec _ hhear
    · have hfew' : (s.heard n false).commitments < 4 := (commitments_eq s).symm ▸ hfew
      have hhear := (hearAward_unknown (s := s.heard n false) (sender := n) hnone).trans (if_pos hhere)
      exact ⟨_, awardedEntry n p (s.heard n false), hexec _ (hhear.trans (awardedAnew_room hroom hfew')), rfl, rfl, rfl, rfl, rfl, rfl,
        rfl, rfl, rfl⟩
    · have hhear := hearAward_unknown (s := s.heard n false) (sender := n) hnone
      refine hexec (notActed (s.heard n false)) (hhear.trans ?_)
      by_cases hhere : p.claimant = s.own
      · refine (if_pos hhere).trans (awardedAnew_full ?_)
        rintro ⟨hroom, hfew⟩
        have hfew : (s.service.list.filter (fun e => e.state ≠ .listed)).length < 4 := (commitments_eq s) ▸ hfew
        obtain hother | hfull | hmany := hnot
        · exact hother hhere
        · exact absurd hroom (Nat.not_lt.mpr hfull)
        · omega
      · exact if_neg hhere
  · exact event_heard hhears rfl (r := notActed (s.heard n false)) (hearWithdraw_unknown (s := s.heard n false) hnone)
  · have he' : (s.heard n false).service? n p.id = some e := he
    obtain ⟨hrequester, hid⟩ := key_of_service? he
    refine (event_heard hhears rfl (hearWithdraw_known he')).trans ?_
    rw [hrequester, hid, raiseIf_attn (withdrawsWon_iff p.reason e), removeService_eq]
    rfl

end Sys2Proof.Machine

/-! PROOFS. The courier window, ADMIT and SACK_OPEN (O47). -/

namespace Sys2Proof.Machine

/-! ### The courier window (R149 to R151) -/

section Window

variable {s : State}

theorem onTheLine_eq_false {st : StationState} : onTheLine st = false ↔ st = .unconfigured ∨ st = .stopped := by
  cases st <;> simp [onTheLine]

theorem windowSteps_eq (minutes : Nat) : clamp 1 60 minutes * Config.minute = max 1 (min 60 minutes) * 6000 := by
  rw [clamp, Nat.min_comm]

theorem exec_windowOpen (h : Ready s) (hconf : s.member.state ≠ .unconfigured) (hstop : s.member.state ≠ .stopped) (minutes : Nat) :
    exec (.windowOpen (.fields minutes)) s = .next (
      if s.unit.role ≠ some .safe then refuse .roleNotAllowed (newSelect s)
      else answer .ok (numBytes 2 (openWindow (max 1 (min 60 minutes) * 6000) (newSelect s)).safe.windowNumber)
        (openWindow (max 1 (min 60 minutes) * 6000) (newSelect s))) := by
  have hon : onTheLine (newSelect s).member.state ≠ false := by
    rw [ne_eq, onTheLine_eq_false]
    rintro (hst | hst)
    · exact hconf hst
    · exact hstop hst
  refine (request_fields h minutes windowOpen).trans (congrArg _ ((if_neg hon).trans ?_))
  rw [windowSteps_eq]
  rfl

theorem exec_windowClose (h : Ready s) (hconf : s.member.state ≠ .unconfigured) (hrole : s.unit.role = some .safe) :
    exec (.windowClose (.fields ())) s = .next (windowClose (newSelect s)) :=
  (request_fields h () (fun _ => atSafe windowClose)).trans (congrArg _ (atSafe_configured (s := newSelect s) hconf hrole windowClose))

theorem windowClose_open {w : CourierWindow} (hw : s.safe.window = some w) : windowClose (newSelect s) =
    { answered .ok [] s with safe := { s.safe with window := none }, attn := { s.attn.with .windowClosed with returned := 0 } } := by
  have hopen : (newSelect s).safe.window.isNone = false := by
    change s.safe.window.isNone = false
    rw [hw]
    rfl
  have hzero : (0 : FlagWord) &&& ~~~(reasonMask .windowClosed) = 0 := BitVec.zero_and
  have hattn : (newSelect s).attn.with .windowClosed = { s.attn.with .windowClosed with returned := 0 } := by
    change { s.attn.with .windowClosed with returned := 0 &&& ~~~(reasonMask .windowClosed) } = _
    rw [hzero]
  rw [windowClose, hopen, ← hattn]
  rfl

theorem windowOver_open_iff {w : CourierWindow} (hw : s.safe.window = some w) : windowOver s = true ↔ w.ends ≤ s.clock := by
  simp [windowOver, reached, hw]

end Window

/-! ### ADMIT and SACK_OPEN (R152, R154) -/

section Stock

variable {s : State} {f : AdmitFields}

theorem admitForm_iff (cfg : Settings) (f : AdmitFields) : admitForm cfg f = true ↔ f.tag ≠ 0 ∧ f.value < 2 ^ 40 ∧
    (f.comp = [] ∨ (compRequired f.comp = true ∧ (∀ q ∈ f.comp, cfg.inUse q.1 = true) ∧ cfg.valueOf f.comp = f.value)) := by
  have hmax : f.value ≤ Config.valueMax ↔ f.value < 2 ^ 40 := by
    unfold Config.valueMax
    omega
  simp only [admitForm, admitComp, Bool.and_eq_true, Bool.or_eq_true, bne_iff_ne, decide_eq_true_eq, List.isEmpty_iff,
    List.all_eq_true, beq_iff_eq, hmax, and_assoc]

/-- A station where the safe's requests are taken. -/
structure SafeTakes (s : State) : Prop where
  ready : Ready s
  configured : s.member.state ≠ .unconfigured
  safe : s.unit.role = some .safe

theorem exec_admit (h : SafeTakes s) {c : ContainerClass} (hc : classOfCode f.cls = some c) (hform : admitForm s.cfg f = true) :
    exec (.admitStock (.fields f)) s = .next (admitChecked f c (newSelect s)) := by
  have hform' : admitForm (newSelect s).cfg f = true := hform
  refine (request_fields h.ready f admitStock).trans (congrArg _ ?_)
  rw [admitStock, hc]
  dsimp only
  rw [if_pos hform', atSafe_configured (s := newSelect s) h.configured h.safe]

theorem admitChecked_stock : admitChecked f .changeStock (newSelect s) =
    if s.safe.window.isNone then refuse .windowClosed (newSelect s)
    else if s.tagKnown f.tag then refuse .duplicateTag (newSelect s)
    else if s.tableFull then refuse .tableFull (newSelect s)
    else admitAccepted f (newSelect s) := if_neg (not_not.mpr rfl)

theorem givenComp_eq (c : Composition) : givenComp c = if c = [] then none else some c := by
  cases c <;> rfl

theorem admitAccepted_newSelect (hsat : saturates (s.custody.totals.admitted + f.value) = false) :
    admitAccepted f (newSelect s) = { answered .ok [] s with
      custody := { s.custody with
        totals := s.totalsWith .admitted f.value,
        table := s.custody.table ++ [freshContainer f.tag .changeStock s.own f.value (if f.comp = [] then none else some f.comp)] } } := by
  have hsat' : saturates ((appendContainer (freshContainer f.tag .changeStock s.own f.value (if f.comp = [] then none else some f.comp))
      (newSelect s)).custody.totals.get .admitted + (f.value : Int)) = false := hsat
  have hown : (newSelect s).own = s.own := rfl
  rw [admitAccepted, givenComp_eq, hown, changeTotal_within hsat']
  rfl

theorem exec_sackOpen (h : SafeTakes s) {tag : Nat} (htag : tag ≠ 0) : exec (.sackOpen (.fields tag)) s = .next (
    if s.tagKnown tag then refuse .duplicateTag (newSelect s)
    else if s.tableFull then refuse .tableFull (newSelect s)
    else answer .ok [] (appendContainer (freshSack tag s.own) (newSelect s))) := by
  refine (request_fields h.ready tag sackOpen).trans (congrArg _ ((if_neg htag).trans ?_))
  exact atSafe_configured (s := newSelect s) h.configured h.safe _

theorem classOfCode_le {n : Nat} (h : n ≤ 4) (hne : n ≠ 3) : ∃ c, classOfCode n = some c ∧ c ≠ .changeStock := by
  obtain rfl | rfl | rfl | rfl : n = 0 ∨ n = 1 ∨ n = 2 ∨ n = 4 := by omega
  · exact ⟨.floatBag, rfl, nofun⟩
  · exact ⟨.pickupPouch, rfl, nofun⟩
  · exact ⟨.depositBag, rfl, nofun⟩
  · exact ⟨.courierSack, rfl, nofun⟩

end Stock

/-- Settles O47: the window by `openWindow` and `closeWindow`; ADMIT and SACK_OPEN by their checks in order. -/
theorem windowAdmitAndSackOpen : Obligations.WindowAdmitAndSackOpen := by
  refine ⟨fun minutes s => ?_, fun s hready hconf hrole => ?_⟩
  · intro steps
    refine ⟨fun h hoff => ?_, fun h hconf hstop => ⟨fun hrole => ?_, fun hrole hnone => ?_, fun w hrole hw => ?_⟩, fun h hun => ?_,
      fun h hconf => ⟨fun hrole => ?_, fun hrole hnone => ?_, fun w hrole hw => ?_⟩,
      fun w hp hw => ⟨fun hdue => ?_, fun hearly => ?_⟩⟩
    · exact (request_fields h minutes windowOpen).trans (congrArg _ (if_pos (onTheLine_eq_false.mpr hoff)))
    · exact (exec_windowOpen h hconf hstop minutes).trans (congrArg _ (if_pos hrole))
    · have hopen : openWindow steps (newSelect s) = { newSelect s with safe := { s.safe with
          window := some { opened := s.clock, ends := s.clock + steps }, windowNumber := nextWindow s.safe.windowNumber } } := by
        have hnone' : (newSelect s).safe.window = none := hnone
        rw [openWindow, hnone']
        rfl
      rw [exec_windowOpen h hconf hstop, if_neg (not_not.mpr hrole), hopen]
      rfl
    · have hopen : openWindow steps (newSelect s) =
          setWindow (some { w with ends := s.clock + steps }) (newSelect s) := by
        have hw' : (newSelect s).safe.window = some w := hw
        rw [openWindow, hw']
        rfl
      rw [exec_windowOpen h hconf hstop, if_neg (not_not.mpr hrole), hopen]
      rfl
    · exact (request_fields h () (fun _ => atSafe windowClose)).trans
        (congrArg _ (atSafe_unconfigured (s := newSelect s) hun windowClose))
    · exact (request_fields h () (fun _ => atSafe windowClose)).trans
        (congrArg _ (atSafe_elsewhere (s := newSelect s) hconf hrole windowClose))
    · have hnone' : (newSelect s).safe.window.isNone = true := Option.isNone_iff_eq_none.mpr hnone
      exact (exec_windowClose h hconf hrole).trans (congrArg _ (if_pos hnone'))
    · rw [exec_windowClose h hconf hrole, windowClose_open hw]
    · exact (event_running hp windowExpiry).trans (congrArg _ (if_pos ((windowOver_open_iff hw).mpr hdue)))
    · refine (event_running hp windowExpiry).trans (congrArg _ (if_neg ?_))
      rw [windowOver_open_iff hw]
      exact Nat.not_le.mpr hearly
  · have htakes : SafeTakes s := ⟨hready, hconf, hrole⟩
    refine ⟨fun f htag hvalue hcomp => ?_, fun tag htag => ⟨fun hknown => ?_, fun hnew hfull => ?_, fun hnew hroom => ?_⟩⟩
    · have hform : admitForm s.cfg f = true := (admitForm_iff s.cfg f).mpr ⟨htag, hvalue, hcomp⟩
      have hstock (h3 : f.cls = 3) : exec (.admitStock (.fields f)) s = .next (admitChecked f .changeStock (newSelect s)) :=
        exec_admit htakes (by rw [h3]; rfl) hform
      have hwindow (h : s.safe.window.isSome = true) : ¬ s.safe.window.isNone = true := by
        rw [Option.isNone_iff_eq_none]
        exact Option.isSome_iff_ne_none.mp h
      refine ⟨fun h4 h3 => ?_, fun h3 hnone => ?_, fun h3 hsome hknown => ?_, fun h3 hsome hnew hfull => ?_,
        fun h3 hsome hnew hroom hsat => ?_⟩
      · obtain ⟨c, hc, hother⟩ := classOfCode_le h4 h3
        exact (exec_admit htakes hc hform).trans (congrArg _ (if_pos hother))
      · rw [hstock h3, admitChecked_stock, if_pos (Option.isNone_iff_eq_none.mpr hnone)]
        rfl
      · rw [hstock h3, admitChecked_stock, if_neg (hwindow hsome), if_pos hknown]
        rfl
      · rw [hstock h3, admitChecked_stock, if_neg (hwindow hsome), hnew, (tableFull_iff s).mpr hfull]
        rfl
      · rw [hstock h3, admitChecked_stock, if_neg (hwindow hsome), hnew, (tableFull_eq_false s).mpr (Nat.not_le.mpr hroom),
          if_neg Bool.false_ne_true, if_neg Bool.false_ne_true, admitAccepted_newSelect hsat]
        rfl
    · rw [exec_sackOpen htakes htag, if_pos hknown]
      rfl
    · rw [exec_sackOpen htakes htag, hnew, (tableFull_iff s).mpr hfull]
      rfl
    · rw [exec_sackOpen htakes htag, hnew, (tableFull_eq_false s).mpr (Nat.not_le.mpr hroom)]
      rfl

end Sys2Proof.Machine
